-- ==== Sys2Proof/Word.lean ====
section
/-! DEFINITION. The word types of the machine and its three operand widths. -/

namespace Sys2Proof

/-- A byte: the unit of every address space (spec/20_memory.md R70). -/
abbrev Byte := BitVec 8

/-- A 16-bit word: selectors, error codes, ports. -/
abbrev Half := BitVec 16

/-- A 32-bit dword: general registers, EIP, linear and physical addresses (spec/00_scope.md R8). -/
abbrev Word := BitVec 32

/-- A 64-bit value: descriptors and the widest memory read (spec/20_memory.md R95, R118). -/
abbrev Quad := BitVec 64

/-- An operand width w of 8, 16 or 32 bits (spec/00_scope.md R10). -/
inductive Size where
  | b
  | w
  | d
  deriving DecidableEq, Repr

namespace Size

/-- The width in bits. -/
def bits : Size → Nat
  | .b => 8
  | .w => 16
  | .d => 32

/-- The width in bytes, nbytes(w) of spec/00_scope.md R10. -/
def bytes : Size → Nat
  | .b => 1
  | .w => 2
  | .d => 4

end Size

/-- An effective operand, stack or gate size of 16 or 32 bits (spec/30_encoding.md R142). -/
inductive OSize where
  | o16
  | o32
  deriving DecidableEq, Repr

namespace OSize

/-- The operand width of an effective size. -/
def size : OSize → Size
  | .o16 => .w
  | .o32 => .d

/-- The width in bytes. -/
def bytes (o : OSize) : Nat := o.size.bytes

end OSize

end Sys2Proof
end

