-- ==== Sys2Proof/Syntax.lean ====
section
/-! DEFINITION. The instructions: one constructor of Instr for each row of spec/opcode_table.json, over operand types that
hold what a decoded operand means (spec/30_encoding.md R147 to R158). -/

namespace Sys2Proof

/-- A general register, in the order of its cell number (spec/10_state.md R20). -/
inductive Reg where
  | eax | ecx | edx | ebx | esp | ebp | esi | edi
  deriving DecidableEq, Repr

/-- A byte view of a general register, in the order of its encoding (spec/10_state.md R23). -/
inductive Reg8 where
  | al | cl | dl | bl | ah | ch | dh | bh
  deriving DecidableEq, Repr

/-- A segment register, in the order of its encoding (spec/10_state.md R34). -/
inductive SReg where
  | es | cs | ss | ds | fs | gs
  deriving DecidableEq, Repr

/-- A control register that exists: CR1, CR5, CR6 and CR7 do not (spec/10_state.md R43). -/
inductive CReg where
  | cr0 | cr2 | cr3 | cr4
  deriving DecidableEq, Repr

/-- A debug register (spec/10_state.md R44). -/
inductive DReg where
  | dr0 | dr1 | dr2 | dr3 | dr4 | dr5 | dr6 | dr7
  deriving DecidableEq, Repr

/-- The base of a 16-bit effective address, in the order of the rm field (spec/30_encoding.md R148). -/
inductive Base16 where
  | bxSi | bxDi | bpSi | bpDi | si | di | bp | bx
  deriving DecidableEq, Repr

/-- The displacement of a 16-bit form with a base: the mod field's 0, 1 or 2 bytes (spec/30_encoding.md R148). -/
inductive Disp16 where
  | none
  | d8 (v : Byte)
  | d16 (v : Half)
  deriving DecidableEq, Repr

/-- The displacement of a 32-bit form with a base (spec/30_encoding.md R149, R150). -/
inductive Disp32 where
  | none
  | d8 (v : Byte)
  | d32 (v : Word)
  deriving DecidableEq, Repr

/-- The scale of a SIB index: 1, 2, 4 or 8 (spec/30_encoding.md R150). -/
inductive Scale where
  | x1 | x2 | x4 | x8
  deriving DecidableEq, Repr

/-- The index register of a SIB byte; ESP's number means no index (spec/30_encoding.md R150). -/
inductive Index where
  | eax | ecx | edx | ebx | ebp | esi | edi
  deriving DecidableEq, Repr

/-- An effective-address form (spec/30_encoding.md R148 to R150). -/
inductive Addr where
  /-- 16-bit: the offset alone (rm = 110, mod = 0). -/
  | abs16 (disp : Half)
  /-- 16-bit: a base and a displacement. -/
  | base16 (base : Base16) (disp : Disp16)
  /-- 32-bit without a base: an offset, perhaps with a scaled index. -/
  | abs32 (index : Option (Index × Scale)) (disp : Word)
  /-- 32-bit with a base, perhaps with a scaled index. -/
  | base32 (base : Reg) (index : Option (Index × Scale)) (disp : Disp32)
  deriving DecidableEq, Repr

/-- A memory operand: its effective-address form and the segment override in force (spec/30_encoding.md R151, R153). -/
structure MemOp where
  seg : Option SReg
  addr : Addr
  deriving DecidableEq, Repr

/-- A memory offset of address-size width (spec/30_encoding.md R158). -/
inductive Moffs where
  | a16 (v : Half)
  | a32 (v : Word)
  deriving DecidableEq, Repr

/-- An r/m8 operand (spec/30_encoding.md R147, R153). -/
inductive Rm8 where
  | reg (r : Reg8)
  | mem (m : MemOp)
  deriving DecidableEq, Repr

/-- An r/m16, r/m32 or r/mv operand; the width comes from the instruction (spec/30_encoding.md R147, R153). -/
inductive Rm where
  | reg (r : Reg)
  | mem (m : MemOp)
  deriving DecidableEq, Repr

/-- An immv, relv or far-pointer offset: two bytes at operand size 16, four at 32 (spec/30_encoding.md R154, R156, R157);
its form is the instruction's operand size. -/
inductive ImmV where
  | i16 (v : Half)
  | i32 (v : Word)
  deriving DecidableEq, Repr

/-- The operand size an immv fixes. -/
def ImmV.osize : ImmV → OSize
  | .i16 _ => .o16
  | .i32 _ => .o32

/-- The repeat kind F2 or F3 latches (spec/30_encoding.md R141, R143). -/
inductive Rep where
  | repne
  | rep
  deriving DecidableEq, Repr

/-- What the prefixes of the instruction being decoded have latched, and the bytes consumed so far
(spec/30_encoding.md R141, R159). -/
structure Latch where
  /-- seg_ovr: the override segment, the last one seen. -/
  seg : Option SReg
  /-- opflip: a 66 prefix was consumed. -/
  opflip : Bool
  /-- adflip: a 67 prefix was consumed. -/
  adflip : Bool
  /-- rep: the repeat kind, the last one seen. -/
  rep : Option Rep
  /-- len: the bytes of this instruction fetched so far. -/
  len : Nat
  deriving DecidableEq, Repr

/-- The latch between instructions: nothing latched, nothing fetched (spec/30_encoding.md R159, first line). -/
def Latch.empty : Latch := { seg := none, opflip := false, adflip := false, rep := none, len := 0 }

/-- One constructor per row of spec/opcode_table.json, in the order of spec/30_encoding.md R168, the
rows without operands after those with operands (Lean's runtime numbers only 244 constructors with fields). A `v` row carries its
operand size (in its immv where it has one); a segment override stands in the memory operand it applies to; a prefix that
has no effect on a row (R142, R143) leaves no trace in it. The eleven prefix bytes are rows of their own. -/
inductive Instr where
  /-- ADD r/m8, r8 (R203) -/
  | addRm8R8 (m : Rm8) (r : Reg8)
  /-- ADD r/mv, rv (R203) -/
  | addRmvRv (o : OSize) (m : Rm) (r : Reg)
  /-- ADD r8, r/m8 (R203) -/
  | addR8Rm8 (r : Reg8) (m : Rm8)
  /-- ADD rv, r/mv (R203) -/
  | addRvRmv (o : OSize) (r : Reg) (m : Rm)
  /-- ADD AL, imm8 (R203) -/
  | addAlImm8 (i : Byte)
  /-- ADD eAX, immv (R203) -/
  | addEaxImmv (i : ImmV)
  /-- ADD r/m8, imm8 (R203) -/
  | addRm8Imm8 (m : Rm8) (i : Byte)
  /-- ADD r/mv, immv (R203) -/
  | addRmvImmv (m : Rm) (i : ImmV)
  /-- ADD r/mv, sign-extended imm8 (R203) -/
  | addRmvSx8 (o : OSize) (m : Rm) (i : Byte)
  /-- OR r/m8, r8 (R232) -/
  | orRm8R8 (m : Rm8) (r : Reg8)
  /-- OR r/mv, rv (R232) -/
  | orRmvRv (o : OSize) (m : Rm) (r : Reg)
  /-- OR r8, r/m8 (R232) -/
  | orR8Rm8 (r : Reg8) (m : Rm8)
  /-- OR rv, r/mv (R232) -/
  | orRvRmv (o : OSize) (r : Reg) (m : Rm)
  /-- OR AL, imm8 (R232) -/
  | orAlImm8 (i : Byte)
  /-- OR eAX, immv (R232) -/
  | orEaxImmv (i : ImmV)
  /-- OR r/m8, imm8 (R232) -/
  | orRm8Imm8 (m : Rm8) (i : Byte)
  /-- OR r/mv, immv (R232) -/
  | orRmvImmv (m : Rm) (i : ImmV)
  /-- OR r/mv, sign-extended imm8 (R232) -/
  | orRmvSx8 (o : OSize) (m : Rm) (i : Byte)
  /-- ADC r/m8, r8 (R204) -/
  | adcRm8R8 (m : Rm8) (r : Reg8)
  /-- ADC r/mv, rv (R204) -/
  | adcRmvRv (o : OSize) (m : Rm) (r : Reg)
  /-- ADC r8, r/m8 (R204) -/
  | adcR8Rm8 (r : Reg8) (m : Rm8)
  /-- ADC rv, r/mv (R204) -/
  | adcRvRmv (o : OSize) (r : Reg) (m : Rm)
  /-- ADC AL, imm8 (R204) -/
  | adcAlImm8 (i : Byte)
  /-- ADC eAX, immv (R204) -/
  | adcEaxImmv (i : ImmV)
  /-- ADC r/m8, imm8 (R204) -/
  | adcRm8Imm8 (m : Rm8) (i : Byte)
  /-- ADC r/mv, immv (R204) -/
  | adcRmvImmv (m : Rm) (i : ImmV)
  /-- ADC r/mv, sign-extended imm8 (R204) -/
  | adcRmvSx8 (o : OSize) (m : Rm) (i : Byte)
  /-- SBB r/m8, r8 (R206) -/
  | sbbRm8R8 (m : Rm8) (r : Reg8)
  /-- SBB r/mv, rv (R206) -/
  | sbbRmvRv (o : OSize) (m : Rm) (r : Reg)
  /-- SBB r8, r/m8 (R206) -/
  | sbbR8Rm8 (r : Reg8) (m : Rm8)
  /-- SBB rv, r/mv (R206) -/
  | sbbRvRmv (o : OSize) (r : Reg) (m : Rm)
  /-- SBB AL, imm8 (R206) -/
  | sbbAlImm8 (i : Byte)
  /-- SBB eAX, immv (R206) -/
  | sbbEaxImmv (i : ImmV)
  /-- SBB r/m8, imm8 (R206) -/
  | sbbRm8Imm8 (m : Rm8) (i : Byte)
  /-- SBB r/mv, immv (R206) -/
  | sbbRmvImmv (m : Rm) (i : ImmV)
  /-- SBB r/mv, sign-extended imm8 (R206) -/
  | sbbRmvSx8 (o : OSize) (m : Rm) (i : Byte)
  /-- AND r/m8, r8 (R231) -/
  | andRm8R8 (m : Rm8) (r : Reg8)
  /-- AND r/mv, rv (R231) -/
  | andRmvRv (o : OSize) (m : Rm) (r : Reg)
  /-- AND r8, r/m8 (R231) -/
  | andR8Rm8 (r : Reg8) (m : Rm8)
  /-- AND rv, r/mv (R231) -/
  | andRvRmv (o : OSize) (r : Reg) (m : Rm)
  /-- AND AL, imm8 (R231) -/
  | andAlImm8 (i : Byte)
  /-- AND eAX, immv (R231) -/
  | andEaxImmv (i : ImmV)
  /-- AND r/m8, imm8 (R231) -/
  | andRm8Imm8 (m : Rm8) (i : Byte)
  /-- AND r/mv, immv (R231) -/
  | andRmvImmv (m : Rm) (i : ImmV)
  /-- AND r/mv, sign-extended imm8 (R231) -/
  | andRmvSx8 (o : OSize) (m : Rm) (i : Byte)
  /-- SUB r/m8, r8 (R205) -/
  | subRm8R8 (m : Rm8) (r : Reg8)
  /-- SUB r/mv, rv (R205) -/
  | subRmvRv (o : OSize) (m : Rm) (r : Reg)
  /-- SUB r8, r/m8 (R205) -/
  | subR8Rm8 (r : Reg8) (m : Rm8)
  /-- SUB rv, r/mv (R205) -/
  | subRvRmv (o : OSize) (r : Reg) (m : Rm)
  /-- SUB AL, imm8 (R205) -/
  | subAlImm8 (i : Byte)
  /-- SUB eAX, immv (R205) -/
  | subEaxImmv (i : ImmV)
  /-- SUB r/m8, imm8 (R205) -/
  | subRm8Imm8 (m : Rm8) (i : Byte)
  /-- SUB r/mv, immv (R205) -/
  | subRmvImmv (m : Rm) (i : ImmV)
  /-- SUB r/mv, sign-extended imm8 (R205) -/
  | subRmvSx8 (o : OSize) (m : Rm) (i : Byte)
  /-- XOR r/m8, r8 (R233) -/
  | xorRm8R8 (m : Rm8) (r : Reg8)
  /-- XOR r/mv, rv (R233) -/
  | xorRmvRv (o : OSize) (m : Rm) (r : Reg)
  /-- XOR r8, r/m8 (R233) -/
  | xorR8Rm8 (r : Reg8) (m : Rm8)
  /-- XOR rv, r/mv (R233) -/
  | xorRvRmv (o : OSize) (r : Reg) (m : Rm)
  /-- XOR AL, imm8 (R233) -/
  | xorAlImm8 (i : Byte)
  /-- XOR eAX, immv (R233) -/
  | xorEaxImmv (i : ImmV)
  /-- XOR r/m8, imm8 (R233) -/
  | xorRm8Imm8 (m : Rm8) (i : Byte)
  /-- XOR r/mv, immv (R233) -/
  | xorRmvImmv (m : Rm) (i : ImmV)
  /-- XOR r/mv, sign-extended imm8 (R233) -/
  | xorRmvSx8 (o : OSize) (m : Rm) (i : Byte)
  /-- CMP r/m8, r8 (R207) -/
  | cmpRm8R8 (m : Rm8) (r : Reg8)
  /-- CMP r/mv, rv (R207) -/
  | cmpRmvRv (o : OSize) (m : Rm) (r : Reg)
  /-- CMP r8, r/m8 (R207) -/
  | cmpR8Rm8 (r : Reg8) (m : Rm8)
  /-- CMP rv, r/mv (R207) -/
  | cmpRvRmv (o : OSize) (r : Reg) (m : Rm)
  /-- CMP AL, imm8 (R207) -/
  | cmpAlImm8 (i : Byte)
  /-- CMP eAX, immv (R207) -/
  | cmpEaxImmv (i : ImmV)
  /-- CMP r/m8, imm8 (R207) -/
  | cmpRm8Imm8 (m : Rm8) (i : Byte)
  /-- CMP r/mv, immv (R207) -/
  | cmpRmvImmv (m : Rm) (i : ImmV)
  /-- CMP r/mv, sign-extended imm8 (R207) -/
  | cmpRmvSx8 (o : OSize) (m : Rm) (i : Byte)
  /-- INC rv, the register in the opcode (R208) -/
  | incRv (o : OSize) (r : Reg)
  /-- INC r/m8 (R208) -/
  | incRm8 (m : Rm8)
  /-- INC r/mv (R208) -/
  | incRmv (o : OSize) (m : Rm)
  /-- DEC rv, the register in the opcode (R209) -/
  | decRv (o : OSize) (r : Reg)
  /-- DEC r/m8 (R209) -/
  | decRm8 (m : Rm8)
  /-- DEC r/mv (R209) -/
  | decRmv (o : OSize) (m : Rm)
  /-- TEST r/m8, imm8 (R234) -/
  | testRm8Imm8 (m : Rm8) (i : Byte)
  /-- TEST r/mv, immv (R234) -/
  | testRmvImmv (m : Rm) (i : ImmV)
  /-- NOT r/m8 (R235) -/
  | notRm8 (m : Rm8)
  /-- NOT r/mv (R235) -/
  | notRmv (o : OSize) (m : Rm)
  /-- NEG r/m8 (R210) -/
  | negRm8 (m : Rm8)
  /-- NEG r/mv (R210) -/
  | negRmv (o : OSize) (m : Rm)
  /-- MUL r/m8 (R260) -/
  | mulRm8 (m : Rm8)
  /-- MUL r/mv (R260) -/
  | mulRmv (o : OSize) (m : Rm)
  /-- IMUL r/m8 (R261) -/
  | imulRm8 (m : Rm8)
  /-- IMUL r/mv (R261) -/
  | imulRmv (o : OSize) (m : Rm)
  /-- DIV r/m8 (R264) -/
  | divRm8 (m : Rm8)
  /-- DIV r/mv (R264) -/
  | divRmv (o : OSize) (m : Rm)
  /-- IDIV r/m8 (R265) -/
  | idivRm8 (m : Rm8)
  /-- IDIV r/mv (R265) -/
  | idivRmv (o : OSize) (m : Rm)
  /-- TEST r/m8, r8 (R234) -/
  | testRm8R8 (m : Rm8) (r : Reg8)
  /-- TEST r/mv, rv (R234) -/
  | testRmvRv (o : OSize) (m : Rm) (r : Reg)
  /-- TEST AL, imm8 (R234) -/
  | testAlImm8 (i : Byte)
  /-- TEST eAX, immv (R234) -/
  | testEaxImmv (i : ImmV)
  /-- IMUL rv, r/mv (R262) -/
  | imulRvRmv (o : OSize) (r : Reg) (m : Rm)
  /-- IMUL rv, r/mv, immv (R263) -/
  | imulRvRmvImmv (r : Reg) (m : Rm) (i : ImmV)
  /-- IMUL rv, r/mv, sign-extended imm8 (R263) -/
  | imulRvRmvSx8 (o : OSize) (r : Reg) (m : Rm) (i : Byte)
  /-- ROL r/m8, imm8 (R245) -/
  | rolRm8Imm8 (m : Rm8) (i : Byte)
  /-- ROL r/mv, imm8 (R245) -/
  | rolRmvImm8 (o : OSize) (m : Rm) (i : Byte)
  /-- ROL r/m8, 1 (R245) -/
  | rolRm8One (m : Rm8)
  /-- ROL r/mv, 1 (R245) -/
  | rolRmvOne (o : OSize) (m : Rm)
  /-- ROL r/m8, CL (R245) -/
  | rolRm8Cl (m : Rm8)
  /-- ROL r/mv, CL (R245) -/
  | rolRmvCl (o : OSize) (m : Rm)
  /-- ROR r/m8, imm8 (R246) -/
  | rorRm8Imm8 (m : Rm8) (i : Byte)
  /-- ROR r/mv, imm8 (R246) -/
  | rorRmvImm8 (o : OSize) (m : Rm) (i : Byte)
  /-- ROR r/m8, 1 (R246) -/
  | rorRm8One (m : Rm8)
  /-- ROR r/mv, 1 (R246) -/
  | rorRmvOne (o : OSize) (m : Rm)
  /-- ROR r/m8, CL (R246) -/
  | rorRm8Cl (m : Rm8)
  /-- ROR r/mv, CL (R246) -/
  | rorRmvCl (o : OSize) (m : Rm)
  /-- RCL r/m8, imm8 (R247) -/
  | rclRm8Imm8 (m : Rm8) (i : Byte)
  /-- RCL r/mv, imm8 (R247) -/
  | rclRmvImm8 (o : OSize) (m : Rm) (i : Byte)
  /-- RCL r/m8, 1 (R247) -/
  | rclRm8One (m : Rm8)
  /-- RCL r/mv, 1 (R247) -/
  | rclRmvOne (o : OSize) (m : Rm)
  /-- RCL r/m8, CL (R247) -/
  | rclRm8Cl (m : Rm8)
  /-- RCL r/mv, CL (R247) -/
  | rclRmvCl (o : OSize) (m : Rm)
  /-- RCR r/m8, imm8 (R248) -/
  | rcrRm8Imm8 (m : Rm8) (i : Byte)
  /-- RCR r/mv, imm8 (R248) -/
  | rcrRmvImm8 (o : OSize) (m : Rm) (i : Byte)
  /-- RCR r/m8, 1 (R248) -/
  | rcrRm8One (m : Rm8)
  /-- RCR r/mv, 1 (R248) -/
  | rcrRmvOne (o : OSize) (m : Rm)
  /-- RCR r/m8, CL (R248) -/
  | rcrRm8Cl (m : Rm8)
  /-- RCR r/mv, CL (R248) -/
  | rcrRmvCl (o : OSize) (m : Rm)
  /-- SHL r/m8, imm8 (R242) -/
  | shlRm8Imm8 (m : Rm8) (i : Byte)
  /-- SHL r/mv, imm8 (R242) -/
  | shlRmvImm8 (o : OSize) (m : Rm) (i : Byte)
  /-- SHL r/m8, 1 (R242) -/
  | shlRm8One (m : Rm8)
  /-- SHL r/mv, 1 (R242) -/
  | shlRmvOne (o : OSize) (m : Rm)
  /-- SHL r/m8, CL (R242) -/
  | shlRm8Cl (m : Rm8)
  /-- SHL r/mv, CL (R242) -/
  | shlRmvCl (o : OSize) (m : Rm)
  /-- SHR r/m8, imm8 (R243) -/
  | shrRm8Imm8 (m : Rm8) (i : Byte)
  /-- SHR r/mv, imm8 (R243) -/
  | shrRmvImm8 (o : OSize) (m : Rm) (i : Byte)
  /-- SHR r/m8, 1 (R243) -/
  | shrRm8One (m : Rm8)
  /-- SHR r/mv, 1 (R243) -/
  | shrRmvOne (o : OSize) (m : Rm)
  /-- SHR r/m8, CL (R243) -/
  | shrRm8Cl (m : Rm8)
  /-- SHR r/mv, CL (R243) -/
  | shrRmvCl (o : OSize) (m : Rm)
  /-- SAR r/m8, imm8 (R244) -/
  | sarRm8Imm8 (m : Rm8) (i : Byte)
  /-- SAR r/mv, imm8 (R244) -/
  | sarRmvImm8 (o : OSize) (m : Rm) (i : Byte)
  /-- SAR r/m8, 1 (R244) -/
  | sarRm8One (m : Rm8)
  /-- SAR r/mv, 1 (R244) -/
  | sarRmvOne (o : OSize) (m : Rm)
  /-- SAR r/m8, CL (R244) -/
  | sarRm8Cl (m : Rm8)
  /-- SAR r/mv, CL (R244) -/
  | sarRmvCl (o : OSize) (m : Rm)
  /-- CBW / CWDE (R266) -/
  | cbwCwde (o : OSize)
  /-- CWD / CDQ (R267) -/
  | cwdCdq (o : OSize)
  /-- AAM imm8, the base (R274) -/
  | aam (i : Byte)
  /-- AAD imm8, the base (R275) -/
  | aad (i : Byte)
  /-- MOV r/m8, r8 (R280) -/
  | movRm8R8 (m : Rm8) (r : Reg8)
  /-- MOV r/mv, rv (R280) -/
  | movRmvRv (o : OSize) (m : Rm) (r : Reg)
  /-- MOV r8, r/m8 (R280) -/
  | movR8Rm8 (r : Reg8) (m : Rm8)
  /-- MOV rv, r/mv (R280) -/
  | movRvRmv (o : OSize) (r : Reg) (m : Rm)
  /-- MOV r8, imm8, the register in the opcode (R280) -/
  | movR8Imm8 (r : Reg8) (i : Byte)
  /-- MOV rv, immv, the register in the opcode (R280) -/
  | movRvImmv (r : Reg) (i : ImmV)
  /-- MOV r/m8, imm8 (R280) -/
  | movRm8Imm8 (m : Rm8) (i : Byte)
  /-- MOV r/mv, immv (R280) -/
  | movRmvImmv (m : Rm) (i : ImmV)
  /-- MOV AL, moffs8 (R281) -/
  | movAlMoffs (g : Option SReg) (a : Moffs)
  /-- MOV eAX, moffsv (R281) -/
  | movEaxMoffs (o : OSize) (g : Option SReg) (a : Moffs)
  /-- MOV moffs8, AL (R281) -/
  | movMoffsAl (g : Option SReg) (a : Moffs)
  /-- MOV moffsv, eAX (R281) -/
  | movMoffsEax (o : OSize) (g : Option SReg) (a : Moffs)
  /-- MOV r/m16, Sreg (R282). The size is the effective one, 66 included (R142, log 35). -/
  | movRm16Sreg (o : OSize) (m : Rm) (g : SReg)
  /-- MOV Sreg, r/m16 (R283) -/
  | movSregRm16 (g : SReg) (m : Rm)
  /-- LEA rv, m (R284) -/
  | lea (o : OSize) (r : Reg) (m : MemOp)
  /-- PUSH rv, the register in the opcode (R286) -/
  | pushRv (o : OSize) (r : Reg)
  /-- POP rv, the register in the opcode (R289) -/
  | popRv (o : OSize) (r : Reg)
  /-- PUSH immv (R287) -/
  | pushImmv (i : ImmV)
  /-- PUSH sign-extended imm8 (R287) -/
  | pushSx8 (o : OSize) (i : Byte)
  /-- PUSH ES (R288) -/
  | pushEs (o : OSize)
  /-- PUSH CS (R288) -/
  | pushCs (o : OSize)
  /-- PUSH SS (R288) -/
  | pushSs (o : OSize)
  /-- PUSH DS (R288) -/
  | pushDs (o : OSize)
  /-- PUSH FS (R288) -/
  | pushFs (o : OSize)
  /-- PUSH GS (R288) -/
  | pushGs (o : OSize)
  /-- POP ES (R290) -/
  | popEs (o : OSize)
  /-- POP SS (R290) -/
  | popSs (o : OSize)
  /-- POP DS (R290) -/
  | popDs (o : OSize)
  /-- POP FS (R290) -/
  | popFs (o : OSize)
  /-- POP GS (R290) -/
  | popGs (o : OSize)
  /-- PUSHA / PUSHAD (R291) -/
  | pusha (o : OSize)
  /-- POPA / POPAD (R292) -/
  | popa (o : OSize)
  /-- PUSHF / PUSHFD (R293) -/
  | pushf (o : OSize)
  /-- POPF / POPFD (R294) -/
  | popf (o : OSize)
  /-- JMP rel8 (R321) -/
  | jmpRel8 (o : OSize) (i : Byte)
  /-- JMP relv (R321) -/
  | jmpRelv (i : ImmV)
  /-- JMP r/mv (R322) -/
  | jmpRmv (o : OSize) (m : Rm)
  /-- JO rel8 (R323) -/
  | joRel8 (o : OSize) (i : Byte)
  /-- JNO rel8 (R323) -/
  | jnoRel8 (o : OSize) (i : Byte)
  /-- JB rel8 (R323) -/
  | jbRel8 (o : OSize) (i : Byte)
  /-- JAE rel8 (R323) -/
  | jaeRel8 (o : OSize) (i : Byte)
  /-- JE rel8 (R323) -/
  | jeRel8 (o : OSize) (i : Byte)
  /-- JNE rel8 (R323) -/
  | jneRel8 (o : OSize) (i : Byte)
  /-- JBE rel8 (R323) -/
  | jbeRel8 (o : OSize) (i : Byte)
  /-- JA rel8 (R323) -/
  | jaRel8 (o : OSize) (i : Byte)
  /-- JS rel8 (R323) -/
  | jsRel8 (o : OSize) (i : Byte)
  /-- JNS rel8 (R323) -/
  | jnsRel8 (o : OSize) (i : Byte)
  /-- JP rel8 (R323) -/
  | jpRel8 (o : OSize) (i : Byte)
  /-- JNP rel8 (R323) -/
  | jnpRel8 (o : OSize) (i : Byte)
  /-- JL rel8 (R323) -/
  | jlRel8 (o : OSize) (i : Byte)
  /-- JGE rel8 (R323) -/
  | jgeRel8 (o : OSize) (i : Byte)
  /-- JLE rel8 (R323) -/
  | jleRel8 (o : OSize) (i : Byte)
  /-- JG rel8 (R323) -/
  | jgRel8 (o : OSize) (i : Byte)
  /-- JO relv (R323) -/
  | joRelv (i : ImmV)
  /-- JNO relv (R323) -/
  | jnoRelv (i : ImmV)
  /-- JB relv (R323) -/
  | jbRelv (i : ImmV)
  /-- JAE relv (R323) -/
  | jaeRelv (i : ImmV)
  /-- JE relv (R323) -/
  | jeRelv (i : ImmV)
  /-- JNE relv (R323) -/
  | jneRelv (i : ImmV)
  /-- JBE relv (R323) -/
  | jbeRelv (i : ImmV)
  /-- JA relv (R323) -/
  | jaRelv (i : ImmV)
  /-- JS relv (R323) -/
  | jsRelv (i : ImmV)
  /-- JNS relv (R323) -/
  | jnsRelv (i : ImmV)
  /-- JP relv (R323) -/
  | jpRelv (i : ImmV)
  /-- JNP relv (R323) -/
  | jnpRelv (i : ImmV)
  /-- JL relv (R323) -/
  | jlRelv (i : ImmV)
  /-- JGE relv (R323) -/
  | jgeRelv (i : ImmV)
  /-- JLE relv (R323) -/
  | jleRelv (i : ImmV)
  /-- JG relv (R323) -/
  | jgRelv (i : ImmV)
  /-- CALL relv (R324) -/
  | callRelv (i : ImmV)
  /-- CALL r/mv (R325) -/
  | callRmv (o : OSize) (m : Rm)
  /-- JMP far ptr16:v (R326) -/
  | jmpFar (i : ImmV) (sel : Half)
  /-- CALL far ptr16:v (R327) -/
  | callFar (i : ImmV) (sel : Half)
  /-- RET near (R330) -/
  | ret (o : OSize)
  /-- RET near, imm16 (R330) -/
  | retImm16 (o : OSize) (i : Half)
  /-- RETF (R331) -/
  | retf (o : OSize)
  /-- RETF imm16 (R331) -/
  | retfImm16 (o : OSize) (i : Half)
  /-- IRET / IRETD (R334) -/
  | iret (o : OSize)
  /-- INT imm8 (R336) -/
  | int (i : Byte)
  /-- LGDT m (R361) -/
  | lgdt (o : OSize) (m : MemOp)
  /-- LIDT m (R362) -/
  | lidt (o : OSize) (m : MemOp)
  /-- LLDT r/m16 (R363) -/
  | lldt (m : Rm)
  /-- LTR r/m16 (R369) -/
  | ltr (m : Rm)
  /-- MOV r32, CRn (R364) -/
  | movR32Cr (r : Reg) (c : CReg)
  /-- MOV CRn, r32 (R365) -/
  | movCrR32 (c : CReg) (r : Reg)
  /-- MOV r32, DRn (R366) -/
  | movR32Dr (r : Reg) (n : DReg)
  /-- MOV DRn, r32 (R367) -/
  | movDrR32 (n : DReg) (r : Reg)
  /-- IN AL, imm8 (R370) -/
  | inAlImm8 (i : Byte)
  /-- IN eAX, imm8 (R370) -/
  | inEaxImm8 (o : OSize) (i : Byte)
  /-- IN eAX, DX (R371) -/
  | inEaxDx (o : OSize)
  /-- OUT imm8, AL (R372) -/
  | outImm8Al (i : Byte)
  /-- OUT imm8, eAX (R372) -/
  | outImm8Eax (o : OSize) (i : Byte)
  /-- OUT DX, eAX (R373) -/
  | outDxEax (o : OSize)
  /-- BOUND rv, m (R374) -/
  | bound (o : OSize) (r : Reg) (m : MemOp)
  /-- DAA (R270) -/
  | daa
  /-- DAS (R271) -/
  | das
  /-- AAA (R272) -/
  | aaa
  /-- AAS (R273) -/
  | aas
  /-- NOP (R285) -/
  | nop
  /-- LAHF (R295) -/
  | lahf
  /-- SAHF (R296) -/
  | sahf
  /-- CLC (R297) -/
  | clc
  /-- STC (R298) -/
  | stc
  /-- CMC (R299) -/
  | cmc
  /-- CLD (R300) -/
  | cld
  /-- STD (R301) -/
  | std
  /-- CLI (R302) -/
  | cli
  /-- STI (R303) -/
  | sti
  /-- INT3 (R337) -/
  | int3
  /-- INTO (R338) -/
  | into
  /-- HLT (R360) -/
  | hlt
  /-- CLTS (R368) -/
  | clts
  /-- IN AL, DX (R371) -/
  | inAlDx
  /-- OUT DX, AL (R373) -/
  | outDxAl
  /-- Prefix byte 26: ES segment override (R141). -/
  | prefixEs
  /-- Prefix byte 2E: CS segment override (R141). -/
  | prefixCs
  /-- Prefix byte 36: SS segment override (R141). -/
  | prefixSs
  /-- Prefix byte 3E: DS segment override (R141). -/
  | prefixDs
  /-- Prefix byte 64: FS segment override (R141). -/
  | prefixFs
  /-- Prefix byte 65: GS segment override (R141). -/
  | prefixGs
  /-- Prefix byte 66: operand-size override (R141). -/
  | prefixOpsize
  /-- Prefix byte 67: address-size override (R141). -/
  | prefixAddrsize
  /-- Prefix byte F0: LOCK, accepted and ignored (R141). -/
  | prefixLock
  /-- Prefix byte F2: repeat kind REPNE (R141). -/
  | prefixRepne
  /-- Prefix byte F3: repeat kind REP / REPE (R141). -/
  | prefixRep
  deriving DecidableEq, Repr

end Sys2Proof
end

