-- ==== Sys2Proof/WellFormed.lean ====
section
/-! DEFINITION. Which instruction terms an encoding can produce. The operand types rule out most ill-formed terms; what is
left is checked here. -/

namespace Sys2Proof

/-- A BP base always carries a displacement: rm = 110 with mod = 0 is the offset alone (spec/30_encoding.md R148). An EBP
base always carries one: rm = 101 or SIB base = 101 with mod = 0 has no base (spec/30_encoding.md R149, R150). -/
def Addr.wf : Addr → Bool
  | .abs16 _ => true
  | .base16 .bp .none => false
  | .base16 _ _ => true
  | .abs32 _ _ => true
  | .base32 .ebp _ .none => false
  | .base32 _ _ _ => true

/-- A memory operand is well formed when its address form is. -/
def MemOp.wf (m : MemOp) : Bool := m.addr.wf

/-- A register operand is always well formed. -/
def Rm8.wf : Rm8 → Bool
  | .reg _ => true
  | .mem m => m.wf

/-- A register operand is always well formed. -/
def Rm.wf : Rm → Bool
  | .reg _ => true
  | .mem m => m.wf

/-- CS is not loaded by MOV Sreg (spec/30_encoding.md R160). -/
def SReg.loadable : SReg → Bool
  | .cs => false
  | _ => true

/-- The instruction's operands are ones the decoder can produce. -/
def Instr.wf : Instr → Bool
  | .prefixEs => true
  | .prefixCs => true
  | .prefixSs => true
  | .prefixDs => true
  | .prefixFs => true
  | .prefixGs => true
  | .prefixOpsize => true
  | .prefixAddrsize => true
  | .prefixLock => true
  | .prefixRepne => true
  | .prefixRep => true
  | .addRm8R8 m _ => m.wf
  | .addRmvRv _ m _ => m.wf
  | .addR8Rm8 _ m => m.wf
  | .addRvRmv _ _ m => m.wf
  | .addAlImm8 _ => true
  | .addEaxImmv _ => true
  | .addRm8Imm8 m _ => m.wf
  | .addRmvImmv m _ => m.wf
  | .addRmvSx8 _ m _ => m.wf
  | .orRm8R8 m _ => m.wf
  | .orRmvRv _ m _ => m.wf
  | .orR8Rm8 _ m => m.wf
  | .orRvRmv _ _ m => m.wf
  | .orAlImm8 _ => true
  | .orEaxImmv _ => true
  | .orRm8Imm8 m _ => m.wf
  | .orRmvImmv m _ => m.wf
  | .orRmvSx8 _ m _ => m.wf
  | .adcRm8R8 m _ => m.wf
  | .adcRmvRv _ m _ => m.wf
  | .adcR8Rm8 _ m => m.wf
  | .adcRvRmv _ _ m => m.wf
  | .adcAlImm8 _ => true
  | .adcEaxImmv _ => true
  | .adcRm8Imm8 m _ => m.wf
  | .adcRmvImmv m _ => m.wf
  | .adcRmvSx8 _ m _ => m.wf
  | .sbbRm8R8 m _ => m.wf
  | .sbbRmvRv _ m _ => m.wf
  | .sbbR8Rm8 _ m => m.wf
  | .sbbRvRmv _ _ m => m.wf
  | .sbbAlImm8 _ => true
  | .sbbEaxImmv _ => true
  | .sbbRm8Imm8 m _ => m.wf
  | .sbbRmvImmv m _ => m.wf
  | .sbbRmvSx8 _ m _ => m.wf
  | .andRm8R8 m _ => m.wf
  | .andRmvRv _ m _ => m.wf
  | .andR8Rm8 _ m => m.wf
  | .andRvRmv _ _ m => m.wf
  | .andAlImm8 _ => true
  | .andEaxImmv _ => true
  | .andRm8Imm8 m _ => m.wf
  | .andRmvImmv m _ => m.wf
  | .andRmvSx8 _ m _ => m.wf
  | .subRm8R8 m _ => m.wf
  | .subRmvRv _ m _ => m.wf
  | .subR8Rm8 _ m => m.wf
  | .subRvRmv _ _ m => m.wf
  | .subAlImm8 _ => true
  | .subEaxImmv _ => true
  | .subRm8Imm8 m _ => m.wf
  | .subRmvImmv m _ => m.wf
  | .subRmvSx8 _ m _ => m.wf
  | .xorRm8R8 m _ => m.wf
  | .xorRmvRv _ m _ => m.wf
  | .xorR8Rm8 _ m => m.wf
  | .xorRvRmv _ _ m => m.wf
  | .xorAlImm8 _ => true
  | .xorEaxImmv _ => true
  | .xorRm8Imm8 m _ => m.wf
  | .xorRmvImmv m _ => m.wf
  | .xorRmvSx8 _ m _ => m.wf
  | .cmpRm8R8 m _ => m.wf
  | .cmpRmvRv _ m _ => m.wf
  | .cmpR8Rm8 _ m => m.wf
  | .cmpRvRmv _ _ m => m.wf
  | .cmpAlImm8 _ => true
  | .cmpEaxImmv _ => true
  | .cmpRm8Imm8 m _ => m.wf
  | .cmpRmvImmv m _ => m.wf
  | .cmpRmvSx8 _ m _ => m.wf
  | .incRv _ _ => true
  | .incRm8 m => m.wf
  | .incRmv _ m => m.wf
  | .decRv _ _ => true
  | .decRm8 m => m.wf
  | .decRmv _ m => m.wf
  | .testRm8Imm8 m _ => m.wf
  | .testRmvImmv m _ => m.wf
  | .notRm8 m => m.wf
  | .notRmv _ m => m.wf
  | .negRm8 m => m.wf
  | .negRmv _ m => m.wf
  | .mulRm8 m => m.wf
  | .mulRmv _ m => m.wf
  | .imulRm8 m => m.wf
  | .imulRmv _ m => m.wf
  | .divRm8 m => m.wf
  | .divRmv _ m => m.wf
  | .idivRm8 m => m.wf
  | .idivRmv _ m => m.wf
  | .testRm8R8 m _ => m.wf
  | .testRmvRv _ m _ => m.wf
  | .testAlImm8 _ => true
  | .testEaxImmv _ => true
  | .imulRvRmv _ _ m => m.wf
  | .imulRvRmvImmv _ m _ => m.wf
  | .imulRvRmvSx8 _ _ m _ => m.wf
  | .rolRm8Imm8 m _ => m.wf
  | .rolRmvImm8 _ m _ => m.wf
  | .rolRm8One m => m.wf
  | .rolRmvOne _ m => m.wf
  | .rolRm8Cl m => m.wf
  | .rolRmvCl _ m => m.wf
  | .rorRm8Imm8 m _ => m.wf
  | .rorRmvImm8 _ m _ => m.wf
  | .rorRm8One m => m.wf
  | .rorRmvOne _ m => m.wf
  | .rorRm8Cl m => m.wf
  | .rorRmvCl _ m => m.wf
  | .rclRm8Imm8 m _ => m.wf
  | .rclRmvImm8 _ m _ => m.wf
  | .rclRm8One m => m.wf
  | .rclRmvOne _ m => m.wf
  | .rclRm8Cl m => m.wf
  | .rclRmvCl _ m => m.wf
  | .rcrRm8Imm8 m _ => m.wf
  | .rcrRmvImm8 _ m _ => m.wf
  | .rcrRm8One m => m.wf
  | .rcrRmvOne _ m => m.wf
  | .rcrRm8Cl m => m.wf
  | .rcrRmvCl _ m => m.wf
  | .shlRm8Imm8 m _ => m.wf
  | .shlRmvImm8 _ m _ => m.wf
  | .shlRm8One m => m.wf
  | .shlRmvOne _ m => m.wf
  | .shlRm8Cl m => m.wf
  | .shlRmvCl _ m => m.wf
  | .shrRm8Imm8 m _ => m.wf
  | .shrRmvImm8 _ m _ => m.wf
  | .shrRm8One m => m.wf
  | .shrRmvOne _ m => m.wf
  | .shrRm8Cl m => m.wf
  | .shrRmvCl _ m => m.wf
  | .sarRm8Imm8 m _ => m.wf
  | .sarRmvImm8 _ m _ => m.wf
  | .sarRm8One m => m.wf
  | .sarRmvOne _ m => m.wf
  | .sarRm8Cl m => m.wf
  | .sarRmvCl _ m => m.wf
  | .cbwCwde _ => true
  | .cwdCdq _ => true
  | .daa => true
  | .das => true
  | .aaa => true
  | .aas => true
  | .aam _ => true
  | .aad _ => true
  | .movRm8R8 m _ => m.wf
  | .movRmvRv _ m _ => m.wf
  | .movR8Rm8 _ m => m.wf
  | .movRvRmv _ _ m => m.wf
  | .movR8Imm8 _ _ => true
  | .movRvImmv _ _ => true
  | .movRm8Imm8 m _ => m.wf
  | .movRmvImmv m _ => m.wf
  | .movAlMoffs _ _ => true
  | .movEaxMoffs _ _ _ => true
  | .movMoffsAl _ _ => true
  | .movMoffsEax _ _ _ => true
  | .movRm16Sreg _ m _ => m.wf
  | .movSregRm16 g m => g.loadable && m.wf
  | .lea _ _ m => m.wf
  | .nop => true
  | .pushRv _ _ => true
  | .popRv _ _ => true
  | .pushImmv _ => true
  | .pushSx8 _ _ => true
  | .pushEs _ => true
  | .pushCs _ => true
  | .pushSs _ => true
  | .pushDs _ => true
  | .pushFs _ => true
  | .pushGs _ => true
  | .popEs _ => true
  | .popSs _ => true
  | .popDs _ => true
  | .popFs _ => true
  | .popGs _ => true
  | .pusha _ => true
  | .popa _ => true
  | .pushf _ => true
  | .popf _ => true
  | .lahf => true
  | .sahf => true
  | .clc => true
  | .stc => true
  | .cmc => true
  | .cld => true
  | .std => true
  | .cli => true
  | .sti => true
  | .jmpRel8 _ _ => true
  | .jmpRelv _ => true
  | .jmpRmv _ m => m.wf
  | .joRel8 _ _ => true
  | .jnoRel8 _ _ => true
  | .jbRel8 _ _ => true
  | .jaeRel8 _ _ => true
  | .jeRel8 _ _ => true
  | .jneRel8 _ _ => true
  | .jbeRel8 _ _ => true
  | .jaRel8 _ _ => true
  | .jsRel8 _ _ => true
  | .jnsRel8 _ _ => true
  | .jpRel8 _ _ => true
  | .jnpRel8 _ _ => true
  | .jlRel8 _ _ => true
  | .jgeRel8 _ _ => true
  | .jleRel8 _ _ => true
  | .jgRel8 _ _ => true
  | .joRelv _ => true
  | .jnoRelv _ => true
  | .jbRelv _ => true
  | .jaeRelv _ => true
  | .jeRelv _ => true
  | .jneRelv _ => true
  | .jbeRelv _ => true
  | .jaRelv _ => true
  | .jsRelv _ => true
  | .jnsRelv _ => true
  | .jpRelv _ => true
  | .jnpRelv _ => true
  | .jlRelv _ => true
  | .jgeRelv _ => true
  | .jleRelv _ => true
  | .jgRelv _ => true
  | .callRelv _ => true
  | .callRmv _ m => m.wf
  | .jmpFar _ _ => true
  | .callFar _ _ => true
  | .ret _ => true
  | .retImm16 _ _ => true
  | .retf _ => true
  | .retfImm16 _ _ => true
  | .iret _ => true
  | .int _ => true
  | .int3 => true
  | .into => true
  | .hlt => true
  | .lgdt _ m => m.wf
  | .lidt _ m => m.wf
  | .lldt m => m.wf
  | .ltr m => m.wf
  | .movR32Cr _ _ => true
  | .movCrR32 _ _ => true
  | .movR32Dr _ _ => true
  | .movDrR32 _ _ => true
  | .clts => true
  | .inAlImm8 _ => true
  | .inEaxImm8 _ _ => true
  | .inAlDx => true
  | .inEaxDx _ => true
  | .outImm8Al _ => true
  | .outImm8Eax _ _ => true
  | .outDxAl => true
  | .outDxEax _ => true
  | .bound _ _ m => m.wf

end Sys2Proof
end

