-- ==== Sys2Proof/Decode.lean ====
section
/-! DEFINITION. The decoder as a streaming state machine (spec/30_encoding.md R159): it asks for one byte at a time, so that
the fetch of each byte can fault on its own, and it is total, refusing by name what is no row of the opcode table. The same
decoder runs on a list of bytes. After it, the encoder, from the same tables. -/

namespace Sys2Proof

/-! ## Register numbers -/

/-- The cell number of a general register (spec/10_state.md R20). -/
def Reg.toBits : Reg → BitVec 3
  | .eax => 0 | .ecx => 1 | .edx => 2 | .ebx => 3 | .esp => 4 | .ebp => 5 | .esi => 6 | .edi => 7

/-- The general register of a cell number (spec/10_state.md R20). -/
def Reg.ofBits (n : BitVec 3) : Reg :=
  match n.toNat with
  | 0 => .eax | 1 => .ecx | 2 => .edx | 3 => .ebx | 4 => .esp | 5 => .ebp | 6 => .esi | _ => .edi

/-- The cell number as the low bits of an opcode byte (spec/30_encoding.md R155). -/
def Reg.toByte (r : Reg) : Byte := r.toBits.setWidth 8

/-- The number of a byte view (spec/10_state.md R23). -/
def Reg8.toBits : Reg8 → BitVec 3
  | .al => 0 | .cl => 1 | .dl => 2 | .bl => 3 | .ah => 4 | .ch => 5 | .dh => 6 | .bh => 7

/-- The byte view of a number (spec/10_state.md R23). -/
def Reg8.ofBits (n : BitVec 3) : Reg8 :=
  match n.toNat with
  | 0 => .al | 1 => .cl | 2 => .dl | 3 => .bl | 4 => .ah | 5 => .ch | 6 => .dh | _ => .bh

/-- The number of a byte view as the low bits of an opcode byte (spec/30_encoding.md R155). -/
def Reg8.toByte (r : Reg8) : Byte := r.toBits.setWidth 8

/-- The number of a segment register (spec/10_state.md R34). -/
def SReg.toBits : SReg → BitVec 3
  | .es => 0 | .cs => 1 | .ss => 2 | .ds => 3 | .fs => 4 | .gs => 5

/-- The segment register of a number; 6 and 7 name none (spec/30_encoding.md R147, R160). -/
def SReg.ofBits (n : BitVec 3) : Option SReg :=
  match n.toNat with
  | 0 => some .es | 1 => some .cs | 2 => some .ss | 3 => some .ds | 4 => some .fs | 5 => some .gs | _ => none

/-- The number of a control register (spec/10_state.md R39 to R42). -/
def CReg.toBits : CReg → BitVec 3
  | .cr0 => 0 | .cr2 => 2 | .cr3 => 3 | .cr4 => 4

/-- The control register of a number; 1, 5, 6 and 7 name none (spec/10_state.md R43). -/
def CReg.ofBits (n : BitVec 3) : Option CReg :=
  match n.toNat with
  | 0 => some .cr0 | 2 => some .cr2 | 3 => some .cr3 | 4 => some .cr4 | _ => none

/-- The number of a debug register (spec/10_state.md R44). -/
def DReg.toBits : DReg → BitVec 3
  | .dr0 => 0 | .dr1 => 1 | .dr2 => 2 | .dr3 => 3 | .dr4 => 4 | .dr5 => 5 | .dr6 => 6 | .dr7 => 7

/-- The debug register of a number (spec/10_state.md R44). -/
def DReg.ofBits (n : BitVec 3) : DReg :=
  match n.toNat with
  | 0 => .dr0 | 1 => .dr1 | 2 => .dr2 | 3 => .dr3 | 4 => .dr4 | 5 => .dr5 | 6 => .dr6 | _ => .dr7

/-- The rm number of a 16-bit base (spec/30_encoding.md R148). -/
def Base16.toBits : Base16 → BitVec 3
  | .bxSi => 0 | .bxDi => 1 | .bpSi => 2 | .bpDi => 3 | .si => 4 | .di => 5 | .bp => 6 | .bx => 7

/-- The 16-bit base of an rm number (spec/30_encoding.md R148). -/
def Base16.ofBits (n : BitVec 3) : Base16 :=
  match n.toNat with
  | 0 => .bxSi | 1 => .bxDi | 2 => .bpSi | 3 => .bpDi | 4 => .si | 5 => .di | 6 => .bp | _ => .bx

/-- The ss field of a scale (spec/30_encoding.md R150). -/
def Scale.toBits : Scale → BitVec 2
  | .x1 => 0 | .x2 => 1 | .x4 => 2 | .x8 => 3

/-- The scale of an ss field (spec/30_encoding.md R150). -/
def Scale.ofBits (n : BitVec 2) : Scale :=
  match n.toNat with
  | 0 => .x1 | 1 => .x2 | 2 => .x4 | _ => .x8

/-- The number of an index register (spec/30_encoding.md R150). -/
def Index.toBits : Index → BitVec 3
  | .eax => 0 | .ecx => 1 | .edx => 2 | .ebx => 3 | .ebp => 5 | .esi => 6 | .edi => 7

/-- The index register of a number; 100 means no index (spec/30_encoding.md R150). -/
def Index.ofBits (n : BitVec 3) : Option Index :=
  match n.toNat with
  | 0 => some .eax | 1 => some .ecx | 2 => some .edx | 3 => some .ebx | 4 => none | 5 => some .ebp | 6 => some .esi
  | _ => some .edi

/-! ## The byte-asking decoder -/

/-- Why the decoder refuses (spec/30_encoding.md R161). -/
inductive DecodeRefusal where
  /-- The opcode, one byte or 0F and its second byte, is no row of the table. -/
  | opcodeNotAdmitted
  /-- The group opcode has no row for this reg field. -/
  | groupMemberNotAdmitted
  deriving DecidableEq, Repr

/-- A decoding in progress: finished, waiting for one more byte, invalid (#UD, spec/30_encoding.md R160), or refused
(R161). -/
inductive Dec (α : Type) where
  | done (a : α)
  | ask (k : Byte → Dec α)
  | invalid
  | refuse (r : DecodeRefusal)

/-- Go on with what a decoding gives. -/
def Dec.bind {α β : Type} : Dec α → (α → Dec β) → Dec β
  | .done a, f => f a
  | .ask k, f => .ask fun b => (k b).bind f
  | .invalid, _ => .invalid
  | .refuse r, _ => .refuse r

/-- What a decoding gives on a list of bytes. -/
inductive DecodeResult (α : Type) where
  | ok (a : α) (rest : List Byte)
  | truncated
  | tooLong
  | invalid
  | refused (r : DecodeRefusal)
  deriving DecidableEq, Repr

/-- Run a decoding on a list of bytes. -/
def Dec.run {α : Type} : Dec α → List Byte → DecodeResult α
  | .done a, bs => .ok a bs
  | .ask k, b :: bs => (k b).run bs
  | .ask _, [] => .truncated
  | .invalid, _ => .invalid
  | .refuse r, _ => .refused r

/-- What decoding depends on beside the bytes: the D bit of CS and the prefixes latched (spec/30_encoding.md R142), and
CR0.PE (R160). -/
structure DecodeCtx where
  db : Bool
  pe : Bool
  latch : Latch
  deriving DecidableEq, Repr

/-- An effective size: the default D flipped or not (spec/30_encoding.md R142). -/
def sizeOf (db flip : Bool) : OSize := if db != flip then .o32 else .o16

/-- The effective operand size (spec/30_encoding.md R142). -/
def DecodeCtx.osize (c : DecodeCtx) : OSize := sizeOf c.db c.latch.opflip

/-- The effective address size (spec/30_encoding.md R142). -/
def DecodeCtx.asize (c : DecodeCtx) : OSize := sizeOf c.db c.latch.adflip

section Parsers
variable {α : Type}

/-- Two bytes, little-endian (spec/30_encoding.md R152, R154). -/
def askHalf (k : Half → Dec α) : Dec α := .ask fun lo => .ask fun hi => k (hi ++ lo)

/-- Four bytes, little-endian (spec/30_encoding.md R152, R154). -/
def askWord (k : Word → Dec α) : Dec α := askHalf fun lo => askHalf fun hi => k (hi ++ lo)

/-- An immv of the effective operand size (spec/30_encoding.md R154 iz, R156 relv). -/
def askImmV (c : DecodeCtx) (k : ImmV → Dec α) : Dec α :=
  match c.osize with
  | .o16 => askHalf fun v => k (.i16 v)
  | .o32 => askWord fun v => k (.i32 v)

/-- The mod field (spec/30_encoding.md R146). -/
def modField (b : Byte) : BitVec 2 := b.extractLsb' 6 2

/-- The reg field (spec/30_encoding.md R146). -/
def regField (b : Byte) : BitVec 3 := b.extractLsb' 3 3

/-- The rm field (spec/30_encoding.md R146). -/
def rmField (b : Byte) : BitVec 3 := b.extractLsb' 0 3

/-- A 16-bit address form from mod and rm (spec/30_encoding.md R148). -/
def askAddr16 (md : BitVec 2) (rm : BitVec 3) (k : Addr → Dec α) : Dec α :=
  if md = 0 then
    if rm = 6 then askHalf fun d => k (.abs16 d) else k (.base16 (Base16.ofBits rm) .none)
  else if md = 1 then .ask fun d => k (.base16 (Base16.ofBits rm) (.d8 d))
  else askHalf fun d => k (.base16 (Base16.ofBits rm) (.d16 d))

/-- The displacement of a 32-bit form with a base, by mod (spec/30_encoding.md R149, R150). -/
def askDisp32 (md : BitVec 2) (k : Disp32 → Dec α) : Dec α :=
  if md = 0 then k .none
  else if md = 1 then .ask fun d => k (.d8 d)
  else askWord fun d => k (.d32 d)

/-- A SIB byte and what follows it (spec/30_encoding.md R150). -/
def askSib (md : BitVec 2) (k : Addr → Dec α) : Dec α :=
  .ask fun sib =>
    let index := (Index.ofBits (regField sib)).map fun i => (i, Scale.ofBits (modField sib))
    if md = 0 ∧ rmField sib = 5 then askWord fun d => k (.abs32 index d)
    else askDisp32 md fun d => k (.base32 (Reg.ofBits (rmField sib)) index d)

/-- A 32-bit address form from mod and rm (spec/30_encoding.md R149). -/
def askAddr32 (md : BitVec 2) (rm : BitVec 3) (k : Addr → Dec α) : Dec α :=
  if rm = 4 then askSib md k
  else if md = 0 ∧ rm = 5 then askWord fun d => k (.abs32 none d)
  else askDisp32 md fun d => k (.base32 (Reg.ofBits rm) none d)

/-- The memory operand a ModR/M byte with mod not 3 names (spec/30_encoding.md R148 to R151). -/
def askMem (c : DecodeCtx) (modrm : Byte) (k : MemOp → Dec α) : Dec α :=
  match c.asize with
  | .o16 => askAddr16 (modField modrm) (rmField modrm) fun a => k { seg := c.latch.seg, addr := a }
  | .o32 => askAddr32 (modField modrm) (rmField modrm) fun a => k { seg := c.latch.seg, addr := a }

/-- An r/m8 operand (spec/30_encoding.md R147, R153). -/
def askRm8 (c : DecodeCtx) (modrm : Byte) (k : Rm8 → Dec α) : Dec α :=
  if modField modrm = 3 then k (.reg (Reg8.ofBits (rmField modrm))) else askMem c modrm fun m => k (.mem m)

/-- An r/m16, r/m32 or r/mv operand (spec/30_encoding.md R147, R153). -/
def askRm (c : DecodeCtx) (modrm : Byte) (k : Rm → Dec α) : Dec α :=
  if modField modrm = 3 then k (.reg (Reg.ofBits (rmField modrm))) else askMem c modrm fun m => k (.mem m)

/-- An operand that must be memory: mod = 3 is invalid (spec/30_encoding.md R160). -/
def askMemOnly (c : DecodeCtx) (modrm : Byte) (k : MemOp → Dec α) : Dec α :=
  if modField modrm = 3 then .invalid else askMem c modrm k

/-- A moffs: an offset of address-size width (spec/30_encoding.md R158). -/
def askMoffs (c : DecodeCtx) (k : Moffs → Dec α) : Dec α :=
  match c.asize with
  | .o16 => askHalf fun v => k (.a16 v)
  | .o32 => askWord fun v => k (.a32 v)

end Parsers

/-! ## Row formats (spec/30_encoding.md R164): what follows the opcode byte `op` -/

/-- No operand. -/
def pNone (i : Instr) (_ : DecodeCtx) (_ : Byte) : Dec Instr := .done i
/-- No operand but the operand size. -/
def pV (f : OSize → Instr) (c : DecodeCtx) (_ : Byte) : Dec Instr := .done (f c.osize)
/-- `op+r` with a v-sized register (R155). -/
def pReg (f : OSize → Reg → Instr) (c : DecodeCtx) (op : Byte) : Dec Instr := .done (f c.osize (Reg.ofBits (rmField op)))
/-- `op+r ib` (R155). -/
def pReg8Imm8 (f : Reg8 → Byte → Instr) (_ : DecodeCtx) (op : Byte) : Dec Instr :=
  .ask fun i => .done (f (Reg8.ofBits (rmField op)) i)
/-- `op+r iz` (R155). -/
def pRegImmV (f : Reg → ImmV → Instr) (c : DecodeCtx) (op : Byte) : Dec Instr :=
  askImmV c fun i => .done (f (Reg.ofBits (rmField op)) i)
/-- `op ib`. -/
def pImm8 (f : Byte → Instr) (_ : DecodeCtx) (_ : Byte) : Dec Instr := .ask fun i => .done (f i)
/-- `op ib` or `op rel8` of a v row. -/
def pVImm8 (f : OSize → Byte → Instr) (c : DecodeCtx) (_ : Byte) : Dec Instr := .ask fun i => .done (f c.osize i)
/-- `op iw` of a v row. -/
def pVImm16 (f : OSize → Half → Instr) (c : DecodeCtx) (_ : Byte) : Dec Instr := askHalf fun i => .done (f c.osize i)
/-- `op iz` or `op relz`. -/
def pImmV (f : ImmV → Instr) (c : DecodeCtx) (_ : Byte) : Dec Instr := askImmV c fun i => .done (f i)
/-- `op ptr`: an offset of operand size, then a selector (R157). -/
def pFar (f : ImmV → Half → Instr) (c : DecodeCtx) (_ : Byte) : Dec Instr :=
  askImmV c fun o => askHalf fun s => .done (f o s)
/-- `op moffs` (R158). -/
def pMoffs (f : OSize → Option SReg → Moffs → Instr) (c : DecodeCtx) (_ : Byte) : Dec Instr :=
  askMoffs c fun a => .done (f c.osize c.latch.seg a)
/-- `op /r` with r/m8 and r8. -/
def pRm8R8 (f : Rm8 → Reg8 → Instr) (c : DecodeCtx) (_ : Byte) : Dec Instr :=
  .ask fun b => askRm8 c b fun m => .done (f m (Reg8.ofBits (regField b)))
/-- `op /r` with r/mv and rv. -/
def pRmvRv (f : OSize → Rm → Reg → Instr) (c : DecodeCtx) (_ : Byte) : Dec Instr :=
  .ask fun b => askRm c b fun m => .done (f c.osize m (Reg.ofBits (regField b)))
/-- `op /r ib` with r/mv and rv. -/
def pRmvRvImm8 (f : OSize → Rm → Reg → Byte → Instr) (c : DecodeCtx) (_ : Byte) : Dec Instr :=
  .ask fun b => askRm c b fun m => .ask fun i => .done (f c.osize m (Reg.ofBits (regField b)) i)
/-- `op /r iz` with r/mv and rv. -/
def pRmvRvImmV (f : Rm → Reg → ImmV → Instr) (c : DecodeCtx) (_ : Byte) : Dec Instr :=
  .ask fun b => askRm c b fun m => askImmV c fun i => .done (f m (Reg.ofBits (regField b)) i)
/-- `op /r` with rv and a memory operand. -/
def pRvMem (f : OSize → Reg → MemOp → Instr) (c : DecodeCtx) (_ : Byte) : Dec Instr :=
  .ask fun b => askMemOnly c b fun m => .done (f c.osize (Reg.ofBits (regField b)) m)
/-- 8C: reg = 6 and 7 are invalid (R160). The size kept is the effective one, with 66 in it; whether 66 has an effect on what
runs: log 35. -/
def pRm16Sreg (f : OSize → Rm → SReg → Instr) (c : DecodeCtx) (_ : Byte) : Dec Instr :=
  .ask fun b =>
    match SReg.ofBits (regField b) with
    | some g => askRm c b fun m => .done (f c.osize m g)
    | none => .invalid
/-- 8E: reg = 1 (CS), 6 and 7 are invalid (R160). -/
def pSregRm16 (f : SReg → Rm → Instr) (c : DecodeCtx) (_ : Byte) : Dec Instr :=
  .ask fun b =>
    match SReg.ofBits (regField b) with
    | some g => if g.loadable then askRm c b fun m => .done (f g m) else .invalid
    | none => .invalid
/-- 0F 20 and 0F 22: mod is not examined, an absent register is invalid (R147, R160). -/
def pCr (f : Reg → CReg → Instr) (_ : DecodeCtx) (_ : Byte) : Dec Instr :=
  .ask fun b =>
    match CReg.ofBits (regField b) with
    | some n => .done (f (Reg.ofBits (rmField b)) n)
    | none => .invalid
/-- 0F 21 and 0F 23: mod is not examined (R147). -/
def pDr (f : Reg → DReg → Instr) (_ : DecodeCtx) (_ : Byte) : Dec Instr :=
  .ask fun b => .done (f (Reg.ofBits (rmField b)) (DReg.ofBits (regField b)))

/-! Group rows: what follows the ModR/M byte `b`, whose reg field is the digit. -/

/-- `op /d` with r/m8. -/
def gRm8 (f : Rm8 → Instr) (c : DecodeCtx) (b : Byte) : Dec Instr := askRm8 c b fun m => .done (f m)
/-- `op /d` with r/mv. -/
def gRmv (f : OSize → Rm → Instr) (c : DecodeCtx) (b : Byte) : Dec Instr := askRm c b fun m => .done (f c.osize m)
/-- `op /d ib` with r/m8. -/
def gRm8Imm8 (f : Rm8 → Byte → Instr) (c : DecodeCtx) (b : Byte) : Dec Instr :=
  askRm8 c b fun m => .ask fun i => .done (f m i)
/-- `op /d ib` with r/mv. -/
def gRmvImm8 (f : OSize → Rm → Byte → Instr) (c : DecodeCtx) (b : Byte) : Dec Instr :=
  askRm c b fun m => .ask fun i => .done (f c.osize m i)
/-- `op /d iz` with r/mv. -/
def gRmvImmV (f : Rm → ImmV → Instr) (c : DecodeCtx) (b : Byte) : Dec Instr :=
  askRm c b fun m => askImmV c fun i => .done (f m i)
/-- `0F op /d` with a memory operand. -/
def gMemV (f : OSize → MemOp → Instr) (c : DecodeCtx) (b : Byte) : Dec Instr :=
  askMemOnly c b fun m => .done (f c.osize m)
/-- `0F 00 /d` with r/m16: invalid in real mode (R160). -/
def gRm16Prot (f : Rm → Instr) (c : DecodeCtx) (b : Byte) : Dec Instr :=
  if c.pe then askRm c b fun m => .done (f m) else .invalid

/-! ## The opcode table (spec/30_encoding.md R168) -/

/-- A row chosen by an opcode byte: `(byte AND mask) == opcode` (spec/30_encoding.md R164). -/
structure OpRow where
  opcode : Byte
  mask : Byte
  parse : DecodeCtx → Byte → Dec Instr

/-- A row chosen by a group opcode and the reg field of the ModR/M byte (spec/30_encoding.md R145, R164). -/
structure GroupRow where
  opcode : Byte
  digit : BitVec 3
  parse : DecodeCtx → Byte → Dec Instr

/-- A row whose opcode byte is fixed. -/
def row (opcode : Byte) (p : DecodeCtx → Byte → Dec Instr) : OpRow := ⟨opcode, 0xFF, p⟩

/-- An `op+r` row: the low three bits of the opcode byte name a register. -/
def rowR (opcode : Byte) (p : DecodeCtx → Byte → Dec Instr) : OpRow := ⟨opcode, 0xF8, p⟩

/-- The prefix bytes (spec/30_encoding.md R141). -/
def prefixRows : List (Byte × Instr) :=
  [(0x26, .prefixEs), (0x2E, .prefixCs), (0x36, .prefixSs), (0x3E, .prefixDs), (0x64, .prefixFs), (0x65, .prefixGs),
   (0x66, .prefixOpsize), (0x67, .prefixAddrsize), (0xF0, .prefixLock), (0xF2, .prefixRepne), (0xF3, .prefixRep)]

/-- The rows of the one-byte map. Part 1. -/
def opRows1 : List OpRow :=
  [row 0x00 (pRm8R8 .addRm8R8),
   row 0x01 (pRmvRv .addRmvRv),
   row 0x02 (pRm8R8 fun m r => .addR8Rm8 r m),
   row 0x03 (pRmvRv fun o m r => .addRvRmv o r m),
   row 0x04 (pImm8 .addAlImm8),
   row 0x05 (pImmV .addEaxImmv),
   row 0x06 (pV .pushEs),
   row 0x07 (pV .popEs),
   row 0x08 (pRm8R8 .orRm8R8),
   row 0x09 (pRmvRv .orRmvRv),
   row 0x0A (pRm8R8 fun m r => .orR8Rm8 r m),
   row 0x0B (pRmvRv fun o m r => .orRvRmv o r m),
   row 0x0C (pImm8 .orAlImm8),
   row 0x0D (pImmV .orEaxImmv),
   row 0x0E (pV .pushCs),
   row 0x10 (pRm8R8 .adcRm8R8),
   row 0x11 (pRmvRv .adcRmvRv),
   row 0x12 (pRm8R8 fun m r => .adcR8Rm8 r m),
   row 0x13 (pRmvRv fun o m r => .adcRvRmv o r m),
   row 0x14 (pImm8 .adcAlImm8),
   row 0x15 (pImmV .adcEaxImmv),
   row 0x16 (pV .pushSs),
   row 0x17 (pV .popSs),
   row 0x18 (pRm8R8 .sbbRm8R8)]

/-- The rows of the one-byte map. Part 2. -/
def opRows2 : List OpRow :=
  [row 0x19 (pRmvRv .sbbRmvRv),
   row 0x1A (pRm8R8 fun m r => .sbbR8Rm8 r m),
   row 0x1B (pRmvRv fun o m r => .sbbRvRmv o r m),
   row 0x1C (pImm8 .sbbAlImm8),
   row 0x1D (pImmV .sbbEaxImmv),
   row 0x1E (pV .pushDs),
   row 0x1F (pV .popDs),
   row 0x20 (pRm8R8 .andRm8R8),
   row 0x21 (pRmvRv .andRmvRv),
   row 0x22 (pRm8R8 fun m r => .andR8Rm8 r m),
   row 0x23 (pRmvRv fun o m r => .andRvRmv o r m),
   row 0x24 (pImm8 .andAlImm8),
   row 0x25 (pImmV .andEaxImmv),
   row 0x27 (pNone .daa),
   row 0x28 (pRm8R8 .subRm8R8),
   row 0x29 (pRmvRv .subRmvRv),
   row 0x2A (pRm8R8 fun m r => .subR8Rm8 r m),
   row 0x2B (pRmvRv fun o m r => .subRvRmv o r m),
   row 0x2C (pImm8 .subAlImm8),
   row 0x2D (pImmV .subEaxImmv),
   row 0x2F (pNone .das),
   row 0x30 (pRm8R8 .xorRm8R8),
   row 0x31 (pRmvRv .xorRmvRv),
   row 0x32 (pRm8R8 fun m r => .xorR8Rm8 r m)]

/-- The rows of the one-byte map. Part 3. -/
def opRows3 : List OpRow :=
  [row 0x33 (pRmvRv fun o m r => .xorRvRmv o r m),
   row 0x34 (pImm8 .xorAlImm8),
   row 0x35 (pImmV .xorEaxImmv),
   row 0x37 (pNone .aaa),
   row 0x38 (pRm8R8 .cmpRm8R8),
   row 0x39 (pRmvRv .cmpRmvRv),
   row 0x3A (pRm8R8 fun m r => .cmpR8Rm8 r m),
   row 0x3B (pRmvRv fun o m r => .cmpRvRmv o r m),
   row 0x3C (pImm8 .cmpAlImm8),
   row 0x3D (pImmV .cmpEaxImmv),
   row 0x3F (pNone .aas),
   rowR 0x40 (pReg .incRv),
   rowR 0x48 (pReg .decRv),
   rowR 0x50 (pReg .pushRv),
   rowR 0x58 (pReg .popRv),
   row 0x60 (pV .pusha),
   row 0x61 (pV .popa),
   row 0x62 (pRvMem .bound),
   row 0x68 (pImmV .pushImmv),
   row 0x69 (pRmvRvImmV fun m r i => .imulRvRmvImmv r m i),
   row 0x6A (pVImm8 .pushSx8),
   row 0x6B (pRmvRvImm8 fun o m r i => .imulRvRmvSx8 o r m i),
   row 0x70 (pVImm8 .joRel8),
   row 0x71 (pVImm8 .jnoRel8)]

/-- The rows of the one-byte map. Part 4. -/
def opRows4 : List OpRow :=
  [row 0x72 (pVImm8 .jbRel8),
   row 0x73 (pVImm8 .jaeRel8),
   row 0x74 (pVImm8 .jeRel8),
   row 0x75 (pVImm8 .jneRel8),
   row 0x76 (pVImm8 .jbeRel8),
   row 0x77 (pVImm8 .jaRel8),
   row 0x78 (pVImm8 .jsRel8),
   row 0x79 (pVImm8 .jnsRel8),
   row 0x7A (pVImm8 .jpRel8),
   row 0x7B (pVImm8 .jnpRel8),
   row 0x7C (pVImm8 .jlRel8),
   row 0x7D (pVImm8 .jgeRel8),
   row 0x7E (pVImm8 .jleRel8),
   row 0x7F (pVImm8 .jgRel8),
   row 0x84 (pRm8R8 .testRm8R8),
   row 0x85 (pRmvRv .testRmvRv),
   row 0x88 (pRm8R8 .movRm8R8),
   row 0x89 (pRmvRv .movRmvRv),
   row 0x8A (pRm8R8 fun m r => .movR8Rm8 r m),
   row 0x8B (pRmvRv fun o m r => .movRvRmv o r m),
   row 0x8C (pRm16Sreg .movRm16Sreg),
   row 0x8D (pRvMem .lea),
   row 0x8E (pSregRm16 .movSregRm16),
   row 0x90 (pNone .nop)]

/-- The rows of the one-byte map. Part 5. -/
def opRows5 : List OpRow :=
  [row 0x98 (pV .cbwCwde),
   row 0x99 (pV .cwdCdq),
   row 0x9A (pFar .callFar),
   row 0x9C (pV .pushf),
   row 0x9D (pV .popf),
   row 0x9E (pNone .sahf),
   row 0x9F (pNone .lahf),
   row 0xA0 (pMoffs fun _ g a => .movAlMoffs g a),
   row 0xA1 (pMoffs .movEaxMoffs),
   row 0xA2 (pMoffs fun _ g a => .movMoffsAl g a),
   row 0xA3 (pMoffs .movMoffsEax),
   row 0xA8 (pImm8 .testAlImm8),
   row 0xA9 (pImmV .testEaxImmv),
   rowR 0xB0 (pReg8Imm8 .movR8Imm8),
   rowR 0xB8 (pRegImmV .movRvImmv),
   row 0xC2 (pVImm16 .retImm16),
   row 0xC3 (pV .ret),
   row 0xCA (pVImm16 .retfImm16),
   row 0xCB (pV .retf),
   row 0xCC (pNone .int3),
   row 0xCD (pImm8 .int),
   row 0xCE (pNone .into),
   row 0xCF (pV .iret),
   row 0xD4 (pImm8 .aam)]

/-- The rows of the one-byte map. Part 6. -/
def opRows6 : List OpRow :=
  [row 0xD5 (pImm8 .aad),
   row 0xE4 (pImm8 .inAlImm8),
   row 0xE5 (pVImm8 .inEaxImm8),
   row 0xE6 (pImm8 .outImm8Al),
   row 0xE7 (pVImm8 .outImm8Eax),
   row 0xE8 (pImmV .callRelv),
   row 0xE9 (pImmV .jmpRelv),
   row 0xEA (pFar .jmpFar),
   row 0xEB (pVImm8 .jmpRel8),
   row 0xEC (pNone .inAlDx),
   row 0xED (pV .inEaxDx),
   row 0xEE (pNone .outDxAl),
   row 0xEF (pV .outDxEax),
   row 0xF4 (pNone .hlt),
   row 0xF5 (pNone .cmc),
   row 0xF8 (pNone .clc),
   row 0xF9 (pNone .stc),
   row 0xFA (pNone .cli),
   row 0xFB (pNone .sti),
   row 0xFC (pNone .cld),
   row 0xFD (pNone .std)]

/-- The rows of the one-byte map. -/
def opRows : List OpRow := opRows1 ++ opRows2 ++ opRows3 ++ opRows4 ++ opRows5 ++ opRows6

/-- The group rows of the one-byte map. Part 1. -/
def groupRows1 : List GroupRow :=
  [⟨0x80, 0, gRm8Imm8 .addRm8Imm8⟩,
   ⟨0x80, 1, gRm8Imm8 .orRm8Imm8⟩,
   ⟨0x80, 2, gRm8Imm8 .adcRm8Imm8⟩,
   ⟨0x80, 3, gRm8Imm8 .sbbRm8Imm8⟩,
   ⟨0x80, 4, gRm8Imm8 .andRm8Imm8⟩,
   ⟨0x80, 5, gRm8Imm8 .subRm8Imm8⟩,
   ⟨0x80, 6, gRm8Imm8 .xorRm8Imm8⟩,
   ⟨0x80, 7, gRm8Imm8 .cmpRm8Imm8⟩,
   ⟨0x81, 0, gRmvImmV .addRmvImmv⟩,
   ⟨0x81, 1, gRmvImmV .orRmvImmv⟩,
   ⟨0x81, 2, gRmvImmV .adcRmvImmv⟩,
   ⟨0x81, 3, gRmvImmV .sbbRmvImmv⟩,
   ⟨0x81, 4, gRmvImmV .andRmvImmv⟩,
   ⟨0x81, 5, gRmvImmV .subRmvImmv⟩,
   ⟨0x81, 6, gRmvImmV .xorRmvImmv⟩,
   ⟨0x81, 7, gRmvImmV .cmpRmvImmv⟩,
   ⟨0x83, 0, gRmvImm8 .addRmvSx8⟩,
   ⟨0x83, 1, gRmvImm8 .orRmvSx8⟩,
   ⟨0x83, 2, gRmvImm8 .adcRmvSx8⟩,
   ⟨0x83, 3, gRmvImm8 .sbbRmvSx8⟩,
   ⟨0x83, 4, gRmvImm8 .andRmvSx8⟩,
   ⟨0x83, 5, gRmvImm8 .subRmvSx8⟩,
   ⟨0x83, 6, gRmvImm8 .xorRmvSx8⟩,
   ⟨0x83, 7, gRmvImm8 .cmpRmvSx8⟩]

/-- The group rows of the one-byte map. Part 2. -/
def groupRows2 : List GroupRow :=
  [⟨0xC0, 0, gRm8Imm8 .rolRm8Imm8⟩,
   ⟨0xC0, 1, gRm8Imm8 .rorRm8Imm8⟩,
   ⟨0xC0, 2, gRm8Imm8 .rclRm8Imm8⟩,
   ⟨0xC0, 3, gRm8Imm8 .rcrRm8Imm8⟩,
   ⟨0xC0, 4, gRm8Imm8 .shlRm8Imm8⟩,
   ⟨0xC0, 5, gRm8Imm8 .shrRm8Imm8⟩,
   ⟨0xC0, 7, gRm8Imm8 .sarRm8Imm8⟩,
   ⟨0xC1, 0, gRmvImm8 .rolRmvImm8⟩,
   ⟨0xC1, 1, gRmvImm8 .rorRmvImm8⟩,
   ⟨0xC1, 2, gRmvImm8 .rclRmvImm8⟩,
   ⟨0xC1, 3, gRmvImm8 .rcrRmvImm8⟩,
   ⟨0xC1, 4, gRmvImm8 .shlRmvImm8⟩,
   ⟨0xC1, 5, gRmvImm8 .shrRmvImm8⟩,
   ⟨0xC1, 7, gRmvImm8 .sarRmvImm8⟩,
   ⟨0xC6, 0, gRm8Imm8 .movRm8Imm8⟩,
   ⟨0xC7, 0, gRmvImmV .movRmvImmv⟩,
   ⟨0xD0, 0, gRm8 .rolRm8One⟩,
   ⟨0xD0, 1, gRm8 .rorRm8One⟩,
   ⟨0xD0, 2, gRm8 .rclRm8One⟩,
   ⟨0xD0, 3, gRm8 .rcrRm8One⟩,
   ⟨0xD0, 4, gRm8 .shlRm8One⟩,
   ⟨0xD0, 5, gRm8 .shrRm8One⟩,
   ⟨0xD0, 7, gRm8 .sarRm8One⟩,
   ⟨0xD1, 0, gRmv .rolRmvOne⟩]

/-- The group rows of the one-byte map. Part 3. -/
def groupRows3 : List GroupRow :=
  [⟨0xD1, 1, gRmv .rorRmvOne⟩,
   ⟨0xD1, 2, gRmv .rclRmvOne⟩,
   ⟨0xD1, 3, gRmv .rcrRmvOne⟩,
   ⟨0xD1, 4, gRmv .shlRmvOne⟩,
   ⟨0xD1, 5, gRmv .shrRmvOne⟩,
   ⟨0xD1, 7, gRmv .sarRmvOne⟩,
   ⟨0xD2, 0, gRm8 .rolRm8Cl⟩,
   ⟨0xD2, 1, gRm8 .rorRm8Cl⟩,
   ⟨0xD2, 2, gRm8 .rclRm8Cl⟩,
   ⟨0xD2, 3, gRm8 .rcrRm8Cl⟩,
   ⟨0xD2, 4, gRm8 .shlRm8Cl⟩,
   ⟨0xD2, 5, gRm8 .shrRm8Cl⟩,
   ⟨0xD2, 7, gRm8 .sarRm8Cl⟩,
   ⟨0xD3, 0, gRmv .rolRmvCl⟩,
   ⟨0xD3, 1, gRmv .rorRmvCl⟩,
   ⟨0xD3, 2, gRmv .rclRmvCl⟩,
   ⟨0xD3, 3, gRmv .rcrRmvCl⟩,
   ⟨0xD3, 4, gRmv .shlRmvCl⟩,
   ⟨0xD3, 5, gRmv .shrRmvCl⟩,
   ⟨0xD3, 7, gRmv .sarRmvCl⟩,
   ⟨0xF6, 0, gRm8Imm8 .testRm8Imm8⟩,
   ⟨0xF6, 2, gRm8 .notRm8⟩,
   ⟨0xF6, 3, gRm8 .negRm8⟩,
   ⟨0xF6, 4, gRm8 .mulRm8⟩]

/-- The group rows of the one-byte map. Part 4. -/
def groupRows4 : List GroupRow :=
  [⟨0xF6, 5, gRm8 .imulRm8⟩,
   ⟨0xF6, 6, gRm8 .divRm8⟩,
   ⟨0xF6, 7, gRm8 .idivRm8⟩,
   ⟨0xF7, 0, gRmvImmV .testRmvImmv⟩,
   ⟨0xF7, 2, gRmv .notRmv⟩,
   ⟨0xF7, 3, gRmv .negRmv⟩,
   ⟨0xF7, 4, gRmv .mulRmv⟩,
   ⟨0xF7, 5, gRmv .imulRmv⟩,
   ⟨0xF7, 6, gRmv .divRmv⟩,
   ⟨0xF7, 7, gRmv .idivRmv⟩,
   ⟨0xFE, 0, gRm8 .incRm8⟩,
   ⟨0xFE, 1, gRm8 .decRm8⟩,
   ⟨0xFF, 0, gRmv .incRmv⟩,
   ⟨0xFF, 1, gRmv .decRmv⟩,
   ⟨0xFF, 2, gRmv .callRmv⟩,
   ⟨0xFF, 4, gRmv .jmpRmv⟩]

/-- The group rows of the one-byte map. -/
def groupRows : List GroupRow := groupRows1 ++ groupRows2 ++ groupRows3 ++ groupRows4

/-- The rows of the 0F map. Part 1. -/
def op0FRows1 : List OpRow :=
  [row 0x06 (pNone .clts),
   row 0x20 (pCr .movR32Cr),
   row 0x21 (pDr .movR32Dr),
   row 0x22 (pCr fun r c => .movCrR32 c r),
   row 0x23 (pDr fun r n => .movDrR32 n r),
   row 0x80 (pImmV .joRelv),
   row 0x81 (pImmV .jnoRelv),
   row 0x82 (pImmV .jbRelv),
   row 0x83 (pImmV .jaeRelv),
   row 0x84 (pImmV .jeRelv),
   row 0x85 (pImmV .jneRelv),
   row 0x86 (pImmV .jbeRelv),
   row 0x87 (pImmV .jaRelv),
   row 0x88 (pImmV .jsRelv),
   row 0x89 (pImmV .jnsRelv),
   row 0x8A (pImmV .jpRelv),
   row 0x8B (pImmV .jnpRelv),
   row 0x8C (pImmV .jlRelv),
   row 0x8D (pImmV .jgeRelv),
   row 0x8E (pImmV .jleRelv),
   row 0x8F (pImmV .jgRelv),
   row 0xA0 (pV .pushFs),
   row 0xA1 (pV .popFs),
   row 0xA8 (pV .pushGs)]

/-- The rows of the 0F map. Part 2. -/
def op0FRows2 : List OpRow :=
  [row 0xA9 (pV .popGs),
   row 0xAF (pRmvRv fun o m r => .imulRvRmv o r m)]

/-- The rows of the 0F map. -/
def op0FRows : List OpRow := op0FRows1 ++ op0FRows2

/-- The group rows of the 0F map. -/
def group0FRows : List GroupRow :=
  [⟨0x00, 2, gRm16Prot .lldt⟩,
   ⟨0x00, 3, gRm16Prot .ltr⟩,
   ⟨0x01, 2, gMemV .lgdt⟩,
   ⟨0x01, 3, gMemV .lidt⟩]

/-- Choose the row of an opcode byte: a plain row; else, for a group opcode, the row of the ModR/M byte's reg field
(spec/30_encoding.md R159, R161). -/
def decodeOp (ops : List OpRow) (grps : List GroupRow) (c : DecodeCtx) (b : Byte) : Dec Instr :=
  match ops.find? fun r => (b &&& r.mask) == r.opcode with
  | some r => r.parse c b
  | none =>
    if grps.any fun g => g.opcode == b then
      .ask fun modrm =>
        match grps.find? fun g => g.opcode == b && g.digit == regField modrm with
        | some g => g.parse c modrm
        | none => .refuse .groupMemberNotAdmitted
    else .refuse .opcodeNotAdmitted

/-- Decode one row of the table: a prefix byte, or a whole instruction under the prefixes latched so far
(spec/30_encoding.md R145, R159). -/
def decodeOne (c : DecodeCtx) : Dec Instr :=
  .ask fun b =>
    match prefixRows.find? fun r => r.1 == b with
    | some r => .done r.2
    | none => if b = 0x0F then .ask fun b2 => decodeOp op0FRows group0FRows c b2 else decodeOp opRows groupRows c b

/-- What a prefix row leaves latched; `none` for a row that is no prefix (spec/30_encoding.md R141). -/
def Latch.after (l : Latch) : Instr → Option Latch
  | .prefixEs => some { l with seg := some .es }
  | .prefixCs => some { l with seg := some .cs }
  | .prefixSs => some { l with seg := some .ss }
  | .prefixDs => some { l with seg := some .ds }
  | .prefixFs => some { l with seg := some .fs }
  | .prefixGs => some { l with seg := some .gs }
  | .prefixOpsize => some { l with opflip := true }
  | .prefixAddrsize => some { l with adflip := true }
  | .prefixLock => some l
  | .prefixRepne => some { l with rep := some .repne }
  | .prefixRep => some { l with rep := some .rep }
  | _ => none

/-- Decode a whole instruction: prefix rows until a row that is none. The bound on the number of prefix rows is never met
within the 15 bytes an instruction may have (spec/30_encoding.md R144). -/
def decodeFrom : Nat → DecodeCtx → Dec Instr
  | 0, _ => .ask fun _ => .invalid
  | n + 1, c =>
    (decodeOne c).bind fun i =>
      match c.latch.after i with
      | some l => decodeFrom n { c with latch := l }
      | none => .done i

/-- Decode the instruction at the head of a list of bytes; the instruction may have at most 15 (spec/30_encoding.md R144,
R159). -/
def decode (c : DecodeCtx) (bs : List Byte) : DecodeResult Instr :=
  match (decodeFrom 16 c).run (bs.take 15) with
  | .ok i rest => .ok i (rest ++ bs.drop 15)
  | .truncated => if bs.length > 15 then .tooLong else .truncated
  | r => r

/-! ## The encoder -/

/-- A 16-bit value as bytes, little-endian. -/
def halfBytes (v : Half) : List Byte := [v.extractLsb' 0 8, v.extractLsb' 8 8]

/-- A 32-bit value as bytes, little-endian. -/
def wordBytes (v : Word) : List Byte :=
  [v.extractLsb' 0 8, v.extractLsb' 8 8, v.extractLsb' 16 8, v.extractLsb' 24 8]

/-- An immv as bytes (spec/30_encoding.md R154). -/
def ImmV.bytes : ImmV → List Byte
  | .i16 v => halfBytes v
  | .i32 v => wordBytes v

/-- A ModR/M byte (spec/30_encoding.md R146). -/
def modrmByte (md : BitVec 2) (reg rm : BitVec 3) : Byte := md ++ reg ++ rm

/-- A SIB byte (spec/30_encoding.md R150). -/
def sibByte (ss : BitVec 2) (index base : BitVec 3) : Byte := ss ++ index ++ base

/-- The override prefix of a segment (spec/30_encoding.md R141). -/
def SReg.overrideByte : SReg → Byte
  | .es => 0x26 | .cs => 0x2E | .ss => 0x36 | .ds => 0x3E | .fs => 0x64 | .gs => 0x65

/-- The address size an address form needs (spec/30_encoding.md R148, R149). -/
def Addr.asize : Addr → OSize
  | .abs16 _ => .o16
  | .base16 _ _ => .o16
  | .abs32 _ _ => .o32
  | .base32 _ _ _ => .o32

/-- The mod field and the bytes of a 16-bit displacement (spec/30_encoding.md R148). -/
def Disp16.enc : Disp16 → BitVec 2 × List Byte
  | .none => (0, [])
  | .d8 v => (1, [v])
  | .d16 v => (2, halfBytes v)

/-- The mod field and the bytes of a 32-bit displacement (spec/30_encoding.md R149). -/
def Disp32.enc : Disp32 → BitVec 2 × List Byte
  | .none => (0, [])
  | .d8 v => (1, [v])
  | .d32 v => (2, wordBytes v)

/-- The ModR/M byte, SIB byte and displacement of an address form (spec/30_encoding.md R148 to R150). -/
def Addr.bytes (reg : BitVec 3) : Addr → List Byte
  | .abs16 d => [modrmByte 0 reg 6] ++ halfBytes d
  | .base16 b d => [modrmByte d.enc.1 reg b.toBits] ++ d.enc.2
  | .abs32 none d => [modrmByte 0 reg 5] ++ wordBytes d
  | .abs32 (some (i, s)) d => [modrmByte 0 reg 4, sibByte s.toBits i.toBits 5] ++ wordBytes d
  | .base32 .esp none d => [modrmByte d.enc.1 reg 4, sibByte 0 4 4] ++ d.enc.2
  | .base32 b none d => [modrmByte d.enc.1 reg b.toBits] ++ d.enc.2
  | .base32 b (some (i, s)) d => [modrmByte d.enc.1 reg 4, sibByte s.toBits i.toBits b.toBits] ++ d.enc.2

/-- The prefix bytes that select an override segment, an operand size and an address size in code whose D bit is `db`
(spec/30_encoding.md R141, R142). -/
def prefixBytes (db : Bool) (o a : Option OSize) (g : Option SReg) : List Byte :=
  (match g with | some s => [s.overrideByte] | none => []) ++
  (match o with | some s => if s = sizeOf db false then [] else [0x66] | none => []) ++
  (match a with | some s => if s = sizeOf db false then [] else [0x67] | none => [])

/-- A form with an operand size and no memory operand. -/
def encV (db : Bool) (o : OSize) (body : List Byte) : List Byte := prefixBytes db (some o) none none ++ body

/-- A form with a memory operand. -/
def encMem (db : Bool) (o : Option OSize) (op : List Byte) (reg : BitVec 3) (m : MemOp) : List Byte :=
  prefixBytes db o (some m.addr.asize) m.seg ++ op ++ m.addr.bytes reg

/-- A form with an r/m8 operand. -/
def encRm8 (db : Bool) (op : List Byte) (reg : BitVec 3) (m : Rm8) (imm : List Byte) : List Byte :=
  match m with
  | .reg r => op ++ [modrmByte 3 reg r.toBits] ++ imm
  | .mem m => encMem db none op reg m ++ imm

/-- A form with an r/mv operand. -/
def encRmv (db : Bool) (o : OSize) (op : List Byte) (reg : BitVec 3) (m : Rm) (imm : List Byte) : List Byte :=
  match m with
  | .reg r => encV db o (op ++ [modrmByte 3 reg r.toBits] ++ imm)
  | .mem m => encMem db (some o) op reg m ++ imm

/-- A form with an r/m16 operand whose width the operand size does not touch. -/
def encRm16 (db : Bool) (op : List Byte) (reg : BitVec 3) (m : Rm) : List Byte :=
  match m with
  | .reg r => op ++ [modrmByte 3 reg r.toBits]
  | .mem m => encMem db none op reg m

/-- A moffs form (spec/30_encoding.md R158). -/
def encMoffs (db : Bool) (o : Option OSize) (g : Option SReg) (a : Moffs) (op : Byte) : List Byte :=
  match a with
  | .a16 v => prefixBytes db o (some .o16) g ++ [op] ++ halfBytes v
  | .a32 v => prefixBytes db o (some .o32) g ++ [op] ++ wordBytes v

/-- The bytes of a well-formed instruction in code whose D bit is `d`, from the table of spec/30_encoding.md R168. Where
several encodings mean the same, one of them. -/
def encode (d : Bool) : Instr → List Byte
  | .prefixEs => [0x26]
  | .prefixCs => [0x2E]
  | .prefixSs => [0x36]
  | .prefixDs => [0x3E]
  | .prefixFs => [0x64]
  | .prefixGs => [0x65]
  | .prefixOpsize => [0x66]
  | .prefixAddrsize => [0x67]
  | .prefixLock => [0xF0]
  | .prefixRepne => [0xF2]
  | .prefixRep => [0xF3]
  | .addRm8R8 m r => encRm8 d [0x00] r.toBits m []
  | .addRmvRv o m r => encRmv d o [0x01] r.toBits m []
  | .addR8Rm8 r m => encRm8 d [0x02] r.toBits m []
  | .addRvRmv o r m => encRmv d o [0x03] r.toBits m []
  | .addAlImm8 i => [0x04, i]
  | .addEaxImmv i => encV d i.osize ([0x05] ++ i.bytes)
  | .addRm8Imm8 m i => encRm8 d [0x80] 0 m [i]
  | .addRmvImmv m i => encRmv d i.osize [0x81] 0 m i.bytes
  | .addRmvSx8 o m i => encRmv d o [0x83] 0 m [i]
  | .orRm8R8 m r => encRm8 d [0x08] r.toBits m []
  | .orRmvRv o m r => encRmv d o [0x09] r.toBits m []
  | .orR8Rm8 r m => encRm8 d [0x0A] r.toBits m []
  | .orRvRmv o r m => encRmv d o [0x0B] r.toBits m []
  | .orAlImm8 i => [0x0C, i]
  | .orEaxImmv i => encV d i.osize ([0x0D] ++ i.bytes)
  | .orRm8Imm8 m i => encRm8 d [0x80] 1 m [i]
  | .orRmvImmv m i => encRmv d i.osize [0x81] 1 m i.bytes
  | .orRmvSx8 o m i => encRmv d o [0x83] 1 m [i]
  | .adcRm8R8 m r => encRm8 d [0x10] r.toBits m []
  | .adcRmvRv o m r => encRmv d o [0x11] r.toBits m []
  | .adcR8Rm8 r m => encRm8 d [0x12] r.toBits m []
  | .adcRvRmv o r m => encRmv d o [0x13] r.toBits m []
  | .adcAlImm8 i => [0x14, i]
  | .adcEaxImmv i => encV d i.osize ([0x15] ++ i.bytes)
  | .adcRm8Imm8 m i => encRm8 d [0x80] 2 m [i]
  | .adcRmvImmv m i => encRmv d i.osize [0x81] 2 m i.bytes
  | .adcRmvSx8 o m i => encRmv d o [0x83] 2 m [i]
  | .sbbRm8R8 m r => encRm8 d [0x18] r.toBits m []
  | .sbbRmvRv o m r => encRmv d o [0x19] r.toBits m []
  | .sbbR8Rm8 r m => encRm8 d [0x1A] r.toBits m []
  | .sbbRvRmv o r m => encRmv d o [0x1B] r.toBits m []
  | .sbbAlImm8 i => [0x1C, i]
  | .sbbEaxImmv i => encV d i.osize ([0x1D] ++ i.bytes)
  | .sbbRm8Imm8 m i => encRm8 d [0x80] 3 m [i]
  | .sbbRmvImmv m i => encRmv d i.osize [0x81] 3 m i.bytes
  | .sbbRmvSx8 o m i => encRmv d o [0x83] 3 m [i]
  | .andRm8R8 m r => encRm8 d [0x20] r.toBits m []
  | .andRmvRv o m r => encRmv d o [0x21] r.toBits m []
  | .andR8Rm8 r m => encRm8 d [0x22] r.toBits m []
  | .andRvRmv o r m => encRmv d o [0x23] r.toBits m []
  | .andAlImm8 i => [0x24, i]
  | .andEaxImmv i => encV d i.osize ([0x25] ++ i.bytes)
  | .andRm8Imm8 m i => encRm8 d [0x80] 4 m [i]
  | .andRmvImmv m i => encRmv d i.osize [0x81] 4 m i.bytes
  | .andRmvSx8 o m i => encRmv d o [0x83] 4 m [i]
  | .subRm8R8 m r => encRm8 d [0x28] r.toBits m []
  | .subRmvRv o m r => encRmv d o [0x29] r.toBits m []
  | .subR8Rm8 r m => encRm8 d [0x2A] r.toBits m []
  | .subRvRmv o r m => encRmv d o [0x2B] r.toBits m []
  | .subAlImm8 i => [0x2C, i]
  | .subEaxImmv i => encV d i.osize ([0x2D] ++ i.bytes)
  | .subRm8Imm8 m i => encRm8 d [0x80] 5 m [i]
  | .subRmvImmv m i => encRmv d i.osize [0x81] 5 m i.bytes
  | .subRmvSx8 o m i => encRmv d o [0x83] 5 m [i]
  | .xorRm8R8 m r => encRm8 d [0x30] r.toBits m []
  | .xorRmvRv o m r => encRmv d o [0x31] r.toBits m []
  | .xorR8Rm8 r m => encRm8 d [0x32] r.toBits m []
  | .xorRvRmv o r m => encRmv d o [0x33] r.toBits m []
  | .xorAlImm8 i => [0x34, i]
  | .xorEaxImmv i => encV d i.osize ([0x35] ++ i.bytes)
  | .xorRm8Imm8 m i => encRm8 d [0x80] 6 m [i]
  | .xorRmvImmv m i => encRmv d i.osize [0x81] 6 m i.bytes
  | .xorRmvSx8 o m i => encRmv d o [0x83] 6 m [i]
  | .cmpRm8R8 m r => encRm8 d [0x38] r.toBits m []
  | .cmpRmvRv o m r => encRmv d o [0x39] r.toBits m []
  | .cmpR8Rm8 r m => encRm8 d [0x3A] r.toBits m []
  | .cmpRvRmv o r m => encRmv d o [0x3B] r.toBits m []
  | .cmpAlImm8 i => [0x3C, i]
  | .cmpEaxImmv i => encV d i.osize ([0x3D] ++ i.bytes)
  | .cmpRm8Imm8 m i => encRm8 d [0x80] 7 m [i]
  | .cmpRmvImmv m i => encRmv d i.osize [0x81] 7 m i.bytes
  | .cmpRmvSx8 o m i => encRmv d o [0x83] 7 m [i]
  | .incRv o r => encV d o [0x40 ||| r.toByte]
  | .incRm8 m => encRm8 d [0xFE] 0 m []
  | .incRmv o m => encRmv d o [0xFF] 0 m []
  | .decRv o r => encV d o [0x48 ||| r.toByte]
  | .decRm8 m => encRm8 d [0xFE] 1 m []
  | .decRmv o m => encRmv d o [0xFF] 1 m []
  | .testRm8Imm8 m i => encRm8 d [0xF6] 0 m [i]
  | .testRmvImmv m i => encRmv d i.osize [0xF7] 0 m i.bytes
  | .notRm8 m => encRm8 d [0xF6] 2 m []
  | .notRmv o m => encRmv d o [0xF7] 2 m []
  | .negRm8 m => encRm8 d [0xF6] 3 m []
  | .negRmv o m => encRmv d o [0xF7] 3 m []
  | .mulRm8 m => encRm8 d [0xF6] 4 m []
  | .mulRmv o m => encRmv d o [0xF7] 4 m []
  | .imulRm8 m => encRm8 d [0xF6] 5 m []
  | .imulRmv o m => encRmv d o [0xF7] 5 m []
  | .divRm8 m => encRm8 d [0xF6] 6 m []
  | .divRmv o m => encRmv d o [0xF7] 6 m []
  | .idivRm8 m => encRm8 d [0xF6] 7 m []
  | .idivRmv o m => encRmv d o [0xF7] 7 m []
  | .testRm8R8 m r => encRm8 d [0x84] r.toBits m []
  | .testRmvRv o m r => encRmv d o [0x85] r.toBits m []
  | .testAlImm8 i => [0xA8, i]
  | .testEaxImmv i => encV d i.osize ([0xA9] ++ i.bytes)
  | .imulRvRmv o r m => encRmv d o [0x0F, 0xAF] r.toBits m []
  | .imulRvRmvImmv r m i => encRmv d i.osize [0x69] r.toBits m i.bytes
  | .imulRvRmvSx8 o r m i => encRmv d o [0x6B] r.toBits m [i]
  | .rolRm8Imm8 m i => encRm8 d [0xC0] 0 m [i]
  | .rolRmvImm8 o m i => encRmv d o [0xC1] 0 m [i]
  | .rolRm8One m => encRm8 d [0xD0] 0 m []
  | .rolRmvOne o m => encRmv d o [0xD1] 0 m []
  | .rolRm8Cl m => encRm8 d [0xD2] 0 m []
  | .rolRmvCl o m => encRmv d o [0xD3] 0 m []
  | .rorRm8Imm8 m i => encRm8 d [0xC0] 1 m [i]
  | .rorRmvImm8 o m i => encRmv d o [0xC1] 1 m [i]
  | .rorRm8One m => encRm8 d [0xD0] 1 m []
  | .rorRmvOne o m => encRmv d o [0xD1] 1 m []
  | .rorRm8Cl m => encRm8 d [0xD2] 1 m []
  | .rorRmvCl o m => encRmv d o [0xD3] 1 m []
  | .rclRm8Imm8 m i => encRm8 d [0xC0] 2 m [i]
  | .rclRmvImm8 o m i => encRmv d o [0xC1] 2 m [i]
  | .rclRm8One m => encRm8 d [0xD0] 2 m []
  | .rclRmvOne o m => encRmv d o [0xD1] 2 m []
  | .rclRm8Cl m => encRm8 d [0xD2] 2 m []
  | .rclRmvCl o m => encRmv d o [0xD3] 2 m []
  | .rcrRm8Imm8 m i => encRm8 d [0xC0] 3 m [i]
  | .rcrRmvImm8 o m i => encRmv d o [0xC1] 3 m [i]
  | .rcrRm8One m => encRm8 d [0xD0] 3 m []
  | .rcrRmvOne o m => encRmv d o [0xD1] 3 m []
  | .rcrRm8Cl m => encRm8 d [0xD2] 3 m []
  | .rcrRmvCl o m => encRmv d o [0xD3] 3 m []
  | .shlRm8Imm8 m i => encRm8 d [0xC0] 4 m [i]
  | .shlRmvImm8 o m i => encRmv d o [0xC1] 4 m [i]
  | .shlRm8One m => encRm8 d [0xD0] 4 m []
  | .shlRmvOne o m => encRmv d o [0xD1] 4 m []
  | .shlRm8Cl m => encRm8 d [0xD2] 4 m []
  | .shlRmvCl o m => encRmv d o [0xD3] 4 m []
  | .shrRm8Imm8 m i => encRm8 d [0xC0] 5 m [i]
  | .shrRmvImm8 o m i => encRmv d o [0xC1] 5 m [i]
  | .shrRm8One m => encRm8 d [0xD0] 5 m []
  | .shrRmvOne o m => encRmv d o [0xD1] 5 m []
  | .shrRm8Cl m => encRm8 d [0xD2] 5 m []
  | .shrRmvCl o m => encRmv d o [0xD3] 5 m []
  | .sarRm8Imm8 m i => encRm8 d [0xC0] 7 m [i]
  | .sarRmvImm8 o m i => encRmv d o [0xC1] 7 m [i]
  | .sarRm8One m => encRm8 d [0xD0] 7 m []
  | .sarRmvOne o m => encRmv d o [0xD1] 7 m []
  | .sarRm8Cl m => encRm8 d [0xD2] 7 m []
  | .sarRmvCl o m => encRmv d o [0xD3] 7 m []
  | .cbwCwde o => encV d o [0x98]
  | .cwdCdq o => encV d o [0x99]
  | .daa => [0x27]
  | .das => [0x2F]
  | .aaa => [0x37]
  | .aas => [0x3F]
  | .aam i => [0xD4, i]
  | .aad i => [0xD5, i]
  | .movRm8R8 m r => encRm8 d [0x88] r.toBits m []
  | .movRmvRv o m r => encRmv d o [0x89] r.toBits m []
  | .movR8Rm8 r m => encRm8 d [0x8A] r.toBits m []
  | .movRvRmv o r m => encRmv d o [0x8B] r.toBits m []
  | .movR8Imm8 r i => [0xB0 ||| r.toByte, i]
  | .movRvImmv r i => encV d i.osize ([0xB8 ||| r.toByte] ++ i.bytes)
  | .movRm8Imm8 m i => encRm8 d [0xC6] 0 m [i]
  | .movRmvImmv m i => encRmv d i.osize [0xC7] 0 m i.bytes
  | .movAlMoffs g a => encMoffs d none g a 0xA0
  | .movEaxMoffs o g a => encMoffs d (some o) g a 0xA1
  | .movMoffsAl g a => encMoffs d none g a 0xA2
  | .movMoffsEax o g a => encMoffs d (some o) g a 0xA3
  | .movRm16Sreg o m g => encRmv d o [0x8C] g.toBits m []
  | .movSregRm16 g m => encRm16 d [0x8E] g.toBits m
  | .lea o r m => encMem d (some o) [0x8D] r.toBits m
  | .nop => [0x90]
  | .pushRv o r => encV d o [0x50 ||| r.toByte]
  | .popRv o r => encV d o [0x58 ||| r.toByte]
  | .pushImmv i => encV d i.osize ([0x68] ++ i.bytes)
  | .pushSx8 o i => encV d o [0x6A, i]
  | .pushEs o => encV d o [0x06]
  | .pushCs o => encV d o [0x0E]
  | .pushSs o => encV d o [0x16]
  | .pushDs o => encV d o [0x1E]
  | .pushFs o => encV d o [0x0F, 0xA0]
  | .pushGs o => encV d o [0x0F, 0xA8]
  | .popEs o => encV d o [0x07]
  | .popSs o => encV d o [0x17]
  | .popDs o => encV d o [0x1F]
  | .popFs o => encV d o [0x0F, 0xA1]
  | .popGs o => encV d o [0x0F, 0xA9]
  | .pusha o => encV d o [0x60]
  | .popa o => encV d o [0x61]
  | .pushf o => encV d o [0x9C]
  | .popf o => encV d o [0x9D]
  | .lahf => [0x9F]
  | .sahf => [0x9E]
  | .clc => [0xF8]
  | .stc => [0xF9]
  | .cmc => [0xF5]
  | .cld => [0xFC]
  | .std => [0xFD]
  | .cli => [0xFA]
  | .sti => [0xFB]
  | .jmpRel8 o i => encV d o [0xEB, i]
  | .jmpRelv i => encV d i.osize ([0xE9] ++ i.bytes)
  | .jmpRmv o m => encRmv d o [0xFF] 4 m []
  | .joRel8 o i => encV d o [0x70, i]
  | .jnoRel8 o i => encV d o [0x71, i]
  | .jbRel8 o i => encV d o [0x72, i]
  | .jaeRel8 o i => encV d o [0x73, i]
  | .jeRel8 o i => encV d o [0x74, i]
  | .jneRel8 o i => encV d o [0x75, i]
  | .jbeRel8 o i => encV d o [0x76, i]
  | .jaRel8 o i => encV d o [0x77, i]
  | .jsRel8 o i => encV d o [0x78, i]
  | .jnsRel8 o i => encV d o [0x79, i]
  | .jpRel8 o i => encV d o [0x7A, i]
  | .jnpRel8 o i => encV d o [0x7B, i]
  | .jlRel8 o i => encV d o [0x7C, i]
  | .jgeRel8 o i => encV d o [0x7D, i]
  | .jleRel8 o i => encV d o [0x7E, i]
  | .jgRel8 o i => encV d o [0x7F, i]
  | .joRelv i => encV d i.osize ([0x0F, 0x80] ++ i.bytes)
  | .jnoRelv i => encV d i.osize ([0x0F, 0x81] ++ i.bytes)
  | .jbRelv i => encV d i.osize ([0x0F, 0x82] ++ i.bytes)
  | .jaeRelv i => encV d i.osize ([0x0F, 0x83] ++ i.bytes)
  | .jeRelv i => encV d i.osize ([0x0F, 0x84] ++ i.bytes)
  | .jneRelv i => encV d i.osize ([0x0F, 0x85] ++ i.bytes)
  | .jbeRelv i => encV d i.osize ([0x0F, 0x86] ++ i.bytes)
  | .jaRelv i => encV d i.osize ([0x0F, 0x87] ++ i.bytes)
  | .jsRelv i => encV d i.osize ([0x0F, 0x88] ++ i.bytes)
  | .jnsRelv i => encV d i.osize ([0x0F, 0x89] ++ i.bytes)
  | .jpRelv i => encV d i.osize ([0x0F, 0x8A] ++ i.bytes)
  | .jnpRelv i => encV d i.osize ([0x0F, 0x8B] ++ i.bytes)
  | .jlRelv i => encV d i.osize ([0x0F, 0x8C] ++ i.bytes)
  | .jgeRelv i => encV d i.osize ([0x0F, 0x8D] ++ i.bytes)
  | .jleRelv i => encV d i.osize ([0x0F, 0x8E] ++ i.bytes)
  | .jgRelv i => encV d i.osize ([0x0F, 0x8F] ++ i.bytes)
  | .callRelv i => encV d i.osize ([0xE8] ++ i.bytes)
  | .callRmv o m => encRmv d o [0xFF] 2 m []
  | .jmpFar i sel => encV d i.osize ([0xEA] ++ i.bytes ++ halfBytes sel)
  | .callFar i sel => encV d i.osize ([0x9A] ++ i.bytes ++ halfBytes sel)
  | .ret o => encV d o [0xC3]
  | .retImm16 o i => encV d o ([0xC2] ++ halfBytes i)
  | .retf o => encV d o [0xCB]
  | .retfImm16 o i => encV d o ([0xCA] ++ halfBytes i)
  | .iret o => encV d o [0xCF]
  | .int i => [0xCD, i]
  | .int3 => [0xCC]
  | .into => [0xCE]
  | .hlt => [0xF4]
  | .lgdt o m => encMem d (some o) [0x0F, 0x01] 2 m
  | .lidt o m => encMem d (some o) [0x0F, 0x01] 3 m
  | .lldt m => encRm16 d [0x0F, 0x00] 2 m
  | .ltr m => encRm16 d [0x0F, 0x00] 3 m
  | .movR32Cr r c => [0x0F, 0x20, modrmByte 3 c.toBits r.toBits]
  | .movCrR32 c r => [0x0F, 0x22, modrmByte 3 c.toBits r.toBits]
  | .movR32Dr r n => [0x0F, 0x21, modrmByte 3 n.toBits r.toBits]
  | .movDrR32 n r => [0x0F, 0x23, modrmByte 3 n.toBits r.toBits]
  | .clts => [0x0F, 0x06]
  | .inAlImm8 i => [0xE4, i]
  | .inEaxImm8 o i => encV d o [0xE5, i]
  | .inAlDx => [0xEC]
  | .inEaxDx o => encV d o [0xED]
  | .outImm8Al i => [0xE6, i]
  | .outImm8Eax o i => encV d o [0xE7, i]
  | .outDxAl => [0xEE]
  | .outDxEax o => encV d o [0xEF]
  | .bound o r m => encMem d (some o) [0x62] r.toBits m

/-! ## The opcode table's numbers -/

/-- The bytes of an instruction whose bits spec/opcode_table.json numbers as w. The table's match numbers hold the key bytes
with the first one most significant (spec/30_encoding.md R164), so a number whose leading byte begins a key of several bytes
is read that way; any other number is read from its least significant byte up. Zero bytes follow, up to the longest
instruction (log 1). -/
def tableBytes (nbits w : Nat) : List Byte :=
  let byteAt (k : Nat) : Byte := BitVec.ofNat 8 (w >>> (8 * k))
  let heads := groupRows.any fun g => g.opcode == byteAt 1
  let key : List Byte :=
    if w >>> 16 = 0x0F then [byteAt 2, byteAt 1, byteAt 0]
    else if w >>> 8 = 0x0F then [byteAt 1, byteAt 0]
    else if w >>> 16 = 0 ∧ w >>> 8 ≠ 0 ∧ heads then [byteAt 1, byteAt 0]
    else (List.range (nbits / 8)).map byteAt
  (key ++ List.replicate 15 0).take 15

/-- The instruction the decoder reads from the bits w of an opcode-table row, in 16-bit code as after reset, with CR0.PE set
so that the forms that are invalid in real mode are read too (log 1). -/
def decodeTableWord (nbits w : Nat) : Option Instr :=
  match (decodeOne { db := false, pe := true, latch := Latch.empty }).run (tableBytes nbits w) with
  | .ok i _ => some i
  | _ => none

end Sys2Proof
end

