-- ==== Sys2Proof/Config.lean ====
section
/-! DEFINITION. What the implementation or the platform fixes: the parameters of spec/00_scope.md R9 as plain data (a run's
State carries one such record), and the free values the spec leaves open, as constants without a body. -/

namespace Sys2Proof

/-- STRADDLE_WRITE_COMMIT (spec/00_scope.md R9, spec/20_memory.md R84). -/
inductive StraddleCommit where
  | bytewise
  | allOrNothing
  deriving DecidableEq, Repr

/-- The parameters the spec's model takes as arguments (spec/00_scope.md R9). Every state carries them, so a statement about
every state holds for every choice of them. -/
structure Params where
  /-- RAM_SIZE: physical addresses at or above it read 0 and drop writes. -/
  ramSize : Nat
  /-- BLOCK_SIZE: the size of a provider block in the low 1 MiB. -/
  blockSize : Nat
  /-- PROVIDER_MAP: block number and the provider it maps to. -/
  providers : List (Nat × Nat)
  /-- ENTRY_POINT: `none` for F000:0000, or a selector and an offset. -/
  entryPoint : Option (Half × Word)
  /-- A20_AT_RESET. -/
  a20AtReset : Bool
  /-- SET_DESC_ACCESSED. -/
  setDescAccessed : Bool
  /-- STRADDLE_WRITE_COMMIT. -/
  straddle : StraddleCommit
  /-- The ports a device claims (spec/20_memory.md R113: the others read all ones and drop writes). -/
  ports : List Half
  deriving DecidableEq, Repr

/-- The parameters at State.reset.
DESIGN CHOICE (log 3): the spec leaves every one of them to the platform. unsafe -/
def Params.default : Params :=
  { ramSize := 0x1000000, blockSize := 0x4000, providers := [], entryPoint := none, a20AtReset := true,
    setDescAccessed := false, straddle := .bytewise, ports := [] }

/-- One access of the core to a device: what the device side has seen (spec/20_memory.md R71, R113; the acknowledgement of an
IRQ, spec/60_exceptions.md R426). -/
inductive DevEvent where
  | portRead (port : Half) (n : Nat)
  | portWrite (port : Half) (n : Nat) (v : Word)
  | provRead (id : Nat) (addr : Word) (n : Nat)
  | provWrite (id : Nat) (addr : Word) (n : Nat) (v : Quad)
  | irqAck (vector : Byte)
  deriving DecidableEq, Repr

/-- The k-th free value of a run: spec/00_scope.md R14's `draw`. No body, so nothing is known of it (log 4). -/
opaque Config.draw : Nat → Word

/-- Whether a 66 prefix selects the register form of 8C, a row of fixed width whose rule names osize: spec/30_encoding.md R142
says no, spec/45_data_flags_stack.md R282 yes. No body, so a claim holds under both (log 35). -/
opaque Config.opsizeSelectsSregForm : Bool

/-- IO_READ: what the device side answers to a port read, given every access it has seen before (spec/20_memory.md R113,
log 5). -/
opaque Config.ioRead : List DevEvent → Half → Nat → Word

/-- What a memory provider answers to a read of n bytes, given every access it has seen before (spec/20_memory.md R72,
log 5). -/
opaque Config.providerRead : List DevEvent → Nat → Word → Nat → Quad

end Sys2Proof
end

