-- ==== Sys2Proof/Machine/State.lean ====
section
/-! DEFINITION. The state of the machine: every piece of state the spec gives it (spec/10_state.md, INVENTORY.md), as plain
data; the reasons a step can stop; the state after reset. -/

namespace Sys2Proof.Machine

/-- Memory: the bytes that differ from what an unlisted address reads as (0: spec/70_reset_and_hazards.md R465), by rising
physical address. -/
abbrev Memory := List Host.Cell

/-- The eight general registers (spec/10_state.md R20). -/
structure Regs where
  eax : Word
  ecx : Word
  edx : Word
  ebx : Word
  esp : Word
  ebp : Word
  esi : Word
  edi : Word
  deriving DecidableEq, Repr

/-- The eight debug registers: storage only (spec/10_state.md R44). -/
structure DebugRegs where
  dr0 : Word
  dr1 : Word
  dr2 : Word
  dr3 : Word
  dr4 : Word
  dr5 : Word
  dr6 : Word
  dr7 : Word
  deriving DecidableEq, Repr

/-- EFLAGS (spec/10_state.md R27) with the lazy ZF, SF and PF (R29): their eager bits, and the result they are read from
while they are dirty. The fixed and reserved bits are not storage (R28). -/
structure Flags where
  cf : Bool
  af : Bool
  of : Bool
  tf : Bool
  ifl : Bool
  df : Bool
  iopl : BitVec 2
  nt : Bool
  rf : Bool
  vm : Bool
  ac : Bool
  vif : Bool
  vip : Bool
  id : Bool
  zfE : Bool
  sfE : Bool
  pfE : Bool
  lastResult : Word
  lastOpSize : Size
  dirtyZ : Bool
  dirtyS : Bool
  dirtyP : Bool
  deriving DecidableEq, Repr

/-- A cached segment descriptor (spec/10_state.md R35). -/
structure SegCache where
  base : Word
  /-- The effective limit, granularity already applied. -/
  limit : Word
  code : Bool
  conforming : Bool
  readable : Bool
  writable : Bool
  expandDown : Bool
  dpl : BitVec 2
  present : Bool
  db : Bool
  g : Bool
  inSS : Bool
  rpl : BitVec 2
  null : Bool
  deriving DecidableEq, Repr

/-- A segment register: its selector and its cached descriptor (spec/10_state.md R34). -/
structure SegReg where
  selector : Half
  cache : SegCache
  deriving DecidableEq, Repr

/-- GDTR or IDTR (spec/10_state.md R45). -/
structure TableReg where
  base : Word
  limit : Half
  deriving DecidableEq, Repr

/-- LDTR (spec/10_state.md R46). -/
structure LdtReg where
  selector : Half
  base : Word
  limit : Word
  null : Bool
  deriving DecidableEq, Repr

/-- TR, the task register (spec/10_state.md R47). -/
structure TaskReg where
  selector : Half
  base : Word
  limit : Word
  is32 : Bool
  deriving DecidableEq, Repr

/-- The class of an event being delivered (spec/60_exceptions.md R412). -/
inductive EventClass where
  | benign
  | contributory
  | pageFault
  | doubleFault
  deriving DecidableEq, Repr

/-- A command latched from outside (spec/60_exceptions.md R429). -/
inductive Command where
  | enterDebugger
  | exitDebugger
  | hardReboot
  deriving DecidableEq, Repr

/-- The state of the machine. -/
structure State where
  /-- The general registers (R20). -/
  regs : Regs
  /-- EIP: the offset of the next instruction byte (R25). -/
  eip : Word
  /-- EFLAGS (R27, R29). -/
  flags : Flags
  es : SegReg
  cs : SegReg
  ss : SegReg
  ds : SegReg
  fs : SegReg
  gs : SegReg
  /-- CR0 (R39). -/
  cr0 : Word
  /-- CR2: the linear address of the last page fault, or what MOV wrote (R40). -/
  cr2 : Word
  /-- CR3: the page directory (R41). -/
  cr3 : Word
  /-- CR4: storage only (R42). -/
  cr4 : Word
  /-- DR0 to DR7 (R44). -/
  dr : DebugRegs
  /-- GDTR (R45). -/
  gdtr : TableReg
  /-- IDTR (R45). -/
  idtr : TableReg
  /-- LDTR (R46). -/
  ldtr : LdtReg
  /-- TR (R47). -/
  tr : TaskReg
  /-- inhibit_next: the next boundary takes neither trap nor interrupt (R48). -/
  inhibitNext : Bool
  /-- halted (R49). -/
  halted : Bool
  /-- cycles: the instructions completed (R50). -/
  cycles : BitVec 64
  /-- a20_enabled (R51). -/
  a20 : Bool
  /-- Whether an event is being delivered (R52). -/
  delivering : Bool
  /-- The class of the event delivered last (R52). -/
  deliveringClass : EventClass
  /-- shutdown: set by a triple fault (R54). -/
  shutdown : Bool
  /-- The CS selector of the instruction being executed (R26). -/
  baseCs : Half
  /-- The EIP of the first byte of the instruction being executed (R26). -/
  baseEip : Word
  /-- What the decoder has latched of the instruction being fetched (spec/30_encoding.md R159). -/
  latch : Latch
  /-- The bytes of RAM (spec/20_memory.md R71). -/
  mem : Memory
  /-- The parameters of spec/00_scope.md R9; no step changes them. -/
  params : Params
  /-- The answers the PIC will give at the coming samples of IRQ_PENDING and IRQ_VECTOR, first one first; after the last one
  no IRQ is pending (R53). -/
  irqs : List (Option Byte)
  /-- The command found latched at each of the coming steps, first one first; after the last one none (R53). -/
  commands : List (Option Command)
  /-- What the outside writes to a20_enabled before each of the coming steps, first one first; after the last one nothing
  (R51). -/
  a20Writes : List (Option Bool)
  /-- The accesses devices have seen, newest first. -/
  events : List DevEvent
  /-- How many free values have been drawn. -/
  draws : Nat
  deriving DecidableEq, Repr

/-- Why the machine stops. The spec names no such stop: every error of a program is an exception it delivers. -/
inductive Fault where
  /-- Raised by the delivery of an exception when more deliveries fail one inside the other than the escalation of
  spec/60_exceptions.md R412 allows; that bound is never reached (log 25). Safe: the machine stops. -/
  | deliveryChain
  deriving DecidableEq, Repr

/-- Why an instruction has no meaning. Each but the first is a refusal the spec itself states. -/
inductive Refusal where
  /-- Raised by exec's arm of an instruction without a meaning. Safe. -/
  | notModelled (mnemonic : String)
  /-- Raised by the decoder: the opcode is no row of the table (spec/30_encoding.md R161). Safe. -/
  | opcodeNotAdmitted
  /-- Raised by the decoder: the group opcode has no such member (spec/30_encoding.md R161). Safe. -/
  | groupMemberNotAdmitted
  /-- Raised by IRETD at CPL 0 when the popped EFLAGS has VM = 1: refuse("return to virtual-8086 mode")
  (spec/46_control.md R334). Safe. -/
  | virtual8086Return
  /-- Raised by a task switch whose new EFLAGS has VM = 1: refuse("task switch to virtual-8086 mode")
  (spec/60_exceptions.md R440). Safe. -/
  | virtual8086Task
  /-- Raised by a privilege-raising far CALL through a call gate with parameters: refuse("call-gate parameter copy")
  (spec/46_control.md R329). Safe. -/
  | callGateParameters
  deriving DecidableEq, Repr

/-- The cache of a null selector: null, nothing else set but the RPL (spec/20_memory.md R100). -/
def SegCache.nullOf (rpl : BitVec 2) (inSS : Bool) : SegCache :=
  { base := 0, limit := 0, code := false, conforming := false, readable := false, writable := false, expandDown := false,
    dpl := 0, present := false, db := false, g := false, inSS := inSS, rpl := rpl, null := true }

/-- EFLAGS after reset: 0x00003202, the lazy triple empty (spec/70_reset_and_hazards.md R461). -/
def Flags.reset : Flags :=
  { cf := false, af := false, of := false, tf := false, ifl := true, df := false, iopl := 3, nt := false, rf := false,
    vm := false, ac := false, vif := false, vip := false, id := false, zfE := false, sfE := false, pfE := false,
    lastResult := 0, lastOpSize := .b, dirtyZ := false, dirtyS := false, dirtyP := false }

/-- DS, ES, SS, FS or GS after reset: selector 0 with the real-mode cache (spec/70_reset_and_hazards.md R462). -/
def SegReg.resetData (inSS : Bool) : SegReg :=
  { selector := 0,
    cache :=
      { base := 0, limit := 0xFFFF, code := false, conforming := false, readable := false, writable := true,
        expandDown := false, dpl := 0, present := true, db := false, g := false, inSS := inSS, rpl := 0, null := false } }

/-- CS after reset: the real-mode load of the entry point's selector (spec/70_reset_and_hazards.md R462). -/
def SegReg.resetCode (sel : Half) : SegReg :=
  { selector := sel,
    cache :=
      { base := sel.setWidth 32 <<< 4, limit := 0xFFFF, code := true, conforming := false, readable := true,
        writable := false, expandDown := false, dpl := 0, present := true, db := false, g := false, inSS := false,
        rpl := 0, null := false } }

/-- The state after a reset with the parameters p (spec/70_reset_and_hazards.md R460 to R467). The CS:EIP is F000:0000 or
the entry point. baseCs, baseEip and deliveringClass: DESIGN CHOICE (logs 8, 26). The model's own fields irqs, commands,
a20Writes, events and draws: DESIGN CHOICE (logs 4, 5, 6). unsafe -/
def State.resetWith (p : Params) : State :=
  { regs := { eax := 0, ecx := 0, edx := 0, ebx := 0, esp := 0, ebp := 0, esi := 0, edi := 0 }
    eip := match p.entryPoint with | some e => e.2 | none => 0
    flags := Flags.reset
    es := SegReg.resetData false
    cs := SegReg.resetCode (match p.entryPoint with | some e => e.1 | none => 0xF000)
    ss := SegReg.resetData true
    ds := SegReg.resetData false
    fs := SegReg.resetData false
    gs := SegReg.resetData false
    cr0 := 0
    cr2 := 0
    cr3 := 0
    cr4 := 0
    dr := { dr0 := 0, dr1 := 0, dr2 := 0, dr3 := 0, dr4 := 0, dr5 := 0, dr6 := 0, dr7 := 0 }
    gdtr := { base := 0, limit := 0 }
    idtr := { base := 0, limit := 0 }
    ldtr := { selector := 0, base := 0, limit := 0, null := true }
    tr := { selector := 0, base := 0, limit := 0, is32 := false }
    inhibitNext := false
    halted := false
    cycles := 0
    a20 := p.a20AtReset
    delivering := false
    deliveringClass := .benign
    shutdown := false
    baseCs := 0
    baseEip := 0
    latch := Latch.empty
    mem := []
    params := p
    irqs := []
    commands := []
    a20Writes := []
    events := []
    draws := 0 }

/-- The machine right after reset (spec/70_reset_and_hazards.md R460 to R467), with the parameters of Params.default (log 3). -/
def State.reset : State := State.resetWith Params.default

end Sys2Proof.Machine
end

