-- ==== Sys2Proof/Machine/Bits.lean ====
section
/-! DEFINITION. Width functions (spec/00_scope.md R11) on operand values: a value of width w is held zero-extended in 32
bits. -/

namespace Sys2Proof.Machine

/-- trunc_w of a 32-bit value: its low w bits (spec/00_scope.md R11). -/
def cut (sz : Size) (v : Word) : Word :=
  match sz with
  | .b => v &&& 0xFF
  | .w => v &&& 0xFFFF
  | .d => v

/-- trunc_w of a natural number (spec/00_scope.md R11). -/
def truncNat (sz : Size) (x : Nat) : Word := cut sz (BitVec.ofNat 32 x)

/-- trunc_w of an integer (spec/00_scope.md R11). -/
def truncInt (sz : Size) (x : Int) : Word := cut sz (BitVec.ofInt 32 x)

/-- msb_w (spec/00_scope.md R11). -/
def msb (sz : Size) (v : Word) : Bool := v.getLsbD (sz.bits - 1)

/-- signed_w (spec/00_scope.md R11). -/
def signed (sz : Size) (v : Word) : Int :=
  match sz with
  | .b => (v.setWidth 8).toInt
  | .w => (v.setWidth 16).toInt
  | .d => v.toInt

/-- sext_w of a byte (spec/00_scope.md R11, spec/30_encoding.md R154). -/
def sextByte (sz : Size) (i : Byte) : Word := cut sz (i.signExtend 32)

/-- parity8: even number of 1 bits in the low byte (spec/00_scope.md R11). -/
def parity8 (v : Word) : Bool :=
  !(v.getLsbD 0 ^^ v.getLsbD 1 ^^ v.getLsbD 2 ^^ v.getLsbD 3 ^^ v.getLsbD 4 ^^ v.getLsbD 5 ^^ v.getLsbD 6 ^^ v.getLsbD 7)

/-- The value of an immv, zero-extended (spec/30_encoding.md R154). -/
def immVal : ImmV → Word
  | .i16 v => v.setWidth 32
  | .i32 v => v

/-- sext_32 of a relv (spec/30_encoding.md R156). -/
def immSext : ImmV → Word
  | .i16 v => v.signExtend 32
  | .i32 v => v

/-- A selector without its RPL: sel AND 0xFFFC, the selector form of an error code (spec/60_exceptions.md R402). -/
def selCode (sel : Half) : Half := sel &&& 0xFFFC

/-- sel[15:3], the index of a selector (spec/20_memory.md R94). -/
def selIndex (sel : Half) : Nat := sel.toNat / 8

/-- sel[2], the table indicator: set for the LDT (spec/20_memory.md R94). -/
def selTI (sel : Half) : Bool := sel.getLsbD 2

/-- sel[1:0], the requested privilege level (spec/20_memory.md R94). -/
def selRPL (sel : Half) : BitVec 2 := sel.extractLsb' 0 2

/-- A selector with its RPL replaced: (sel AND 0xFFFC) OR rpl. -/
def withRPL (sel : Half) (rpl : BitVec 2) : Half := selCode sel ||| rpl.setWidth 16

/-! Descriptor and gate fields of a 64-bit little-endian value (spec/20_memory.md R95 to R98). -/

/-- base = {d[63:56], d[39:32], d[31:16]} (R95). -/
def descBase (d : Quad) : Word := d.extractLsb' 56 8 ++ d.extractLsb' 32 8 ++ d.extractLsb' 16 16

/-- The 20-bit limit {d[51:48], d[15:0]} (R95). -/
def descRawLimit (d : Quad) : Word := (d.extractLsb' 48 4 ++ d.extractLsb' 0 16).setWidth 32

/-- G (R95). -/
def descG (d : Quad) : Bool := d.getLsbD 55

/-- The effective limit: G ? (limit << 12) OR 0xFFF : limit (R95). -/
def descLimit (d : Quad) : Word := if descG d then (descRawLimit d <<< 12) ||| 0xFFF else descRawLimit d

/-- type = d[43:40] (R95). -/
def descType (d : Quad) : Nat := (d.extractLsb' 40 4).toNat

/-- S (R95): set for a code or data descriptor. -/
def descS (d : Quad) : Bool := d.getLsbD 44

/-- DPL (R95). -/
def descDPL (d : Quad) : BitVec 2 := d.extractLsb' 45 2

/-- P (R95). -/
def descP (d : Quad) : Bool := d.getLsbD 47

/-- D/B (R95). -/
def descDB (d : Quad) : Bool := d.getLsbD 54

/-- d[47:40], the access byte (R95, R102). -/
def descAccess (d : Quad) : Byte := d.extractLsb' 40 8

/-- Code: type bit 3 (R96). -/
def descCode (d : Quad) : Bool := d.getLsbD 43

/-- Conforming: type bit 2 of a code descriptor (R96). -/
def descConforming (d : Quad) : Bool := descCode d && d.getLsbD 42

/-- Readable: type bit 1 of a code descriptor (R96). -/
def descReadable (d : Quad) : Bool := descCode d && d.getLsbD 41

/-- Expand-down: type bit 2 of a data descriptor (R96). -/
def descExpandDown (d : Quad) : Bool := !descCode d && d.getLsbD 42

/-- Writable: type bit 1 of a data descriptor (R96). -/
def descWritable (d : Quad) : Bool := !descCode d && d.getLsbD 41

/-- Accessed: type bit 0 (R96). -/
def descAccessed (d : Quad) : Bool := d.getLsbD 40

/-- A gate's target selector d[31:16] (R98). -/
def gateSelector (d : Quad) : Half := d.extractLsb' 16 16

/-- A call gate's parameter count d[36:32] (R98). -/
def gateCount (d : Quad) : Nat := (d.extractLsb' 32 5).toNat

/-- A gate's size: 32 for types 0xC, 0xE and 0xF, else 16 (R97). -/
def gateSize (d : Quad) : OSize := if descType d = 0xC ∨ descType d = 0xE ∨ descType d = 0xF then .o32 else .o16

/-- A gate's offset: {d[63:48], d[15:0]} for a 32-bit gate, d[15:0] for a 16-bit one (R98). -/
def gateOffset (d : Quad) : Word :=
  match gateSize d with
  | .o32 => d.extractLsb' 48 16 ++ d.extractLsb' 0 16
  | .o16 => (d.extractLsb' 0 16).setWidth 32

end Sys2Proof.Machine
end

