-- ==== Sys2Proof/Machine/Effect.lean ====
section
/-! DEFINITION. What an operation of the machine does: it reads and changes the state, and it may raise an exception or
refuse (spec/00_scope.md R14). An exception carries the state it was raised in, since stores made before it stay
(spec/20_memory.md R116). -/

namespace Sys2Proof.Machine

/-- An exception: its vector, its error code, and for a page fault the linear address (spec/60_exceptions.md R401).
`newTask` marks one raised while a task switch loads the new task's segments: the handler sees the new task (R443, log 17). -/
structure Exc where
  vector : Byte
  err : Option Half
  addr : Option Word
  newTask : Bool
  deriving DecidableEq, Repr

/-- Why an operation did not complete. -/
inductive Abort where
  | exc (e : Exc)
  | stop (r : Refusal)
  deriving DecidableEq, Repr

/-- An operation: a function of the state that answers a value and a state, or aborts in a state. -/
abbrev M := EStateM Abort State

/-- The state. -/
def getS : M State := fun s => .ok s s

/-- Change the state. -/
def modS (f : State → State) : M Unit := fun s => .ok () (f s)

/-- raise #XX(code) (spec/00_scope.md R14). -/
def raise {α : Type} (e : Exc) : M α := fun s => .error (.exc e) s

/-- refuse(reason) (spec/00_scope.md R14). -/
def refuse {α : Type} (r : Refusal) : M α := fun s => .error (.stop r) s

/-- `if c: raise e`. -/
def raiseIf (c : Prop) [Decidable c] (e : Exc) : M Unit := if c then raise e else pure ()

/-- `if c: m`. -/
def whenM (c : Prop) [Decidable c] (m : M Unit) : M Unit := if c then m else pure ()

/-- A fresh free value (spec/00_scope.md R14 draw, log 4). -/
def drawWord : M Word := fun s => .ok (Config.draw s.draws) { s with draws := s.draws + 1 }

/-- A fresh free bit. -/
def drawBit : M Bool := do
  let w ← drawWord
  pure (w.getLsbD 0)

/-! The exceptions of spec/60_exceptions.md R400 that an instruction raises. -/

/-- An exception without an error code. -/
def Exc.plain (v : Byte) : Exc := { vector := v, err := none, addr := none, newTask := false }

/-- An exception with an error code. -/
def Exc.coded (v : Byte) (c : Half) : Exc := { vector := v, err := some c, addr := none, newTask := false }

/-- #DE. -/
def Exc.de : Exc := .plain 0
/-- #BR. -/
def Exc.br : Exc := .plain 5
/-- #UD. -/
def Exc.ud : Exc := .plain 6
/-- #TS(c). -/
def Exc.ts (c : Half) : Exc := .coded 10 c
/-- #NP(c). -/
def Exc.np (c : Half) : Exc := .coded 11 c
/-- #SS(c). -/
def Exc.ss (c : Half) : Exc := .coded 12 c
/-- #GP(c). -/
def Exc.gp (c : Half) : Exc := .coded 13 c
/-- #PF(c) at the linear address l. -/
def Exc.pf (c : Half) (l : Word) : Exc := { vector := 14, err := some c, addr := some l, newTask := false }

end Sys2Proof.Machine
end

