-- ==== Sys2Proof/Machine/Flags.lean ====
section
/-! DEFINITION. EFLAGS: reading the lazy flags, the image, masked writes, and every flag computation of files 40 to 44. -/

namespace Sys2Proof.Machine

/-! ## Reading and writing single flags (spec/10_state.md R29, R30) -/

/-- ZF, materialized (R29). -/
def Flags.zf (f : Flags) : Bool := if f.dirtyZ then cut f.lastOpSize f.lastResult == 0 else f.zfE

/-- SF, materialized (R29). -/
def Flags.sf (f : Flags) : Bool := if f.dirtyS then msb f.lastOpSize f.lastResult else f.sfE

/-- PF, materialized (R29). -/
def Flags.pf (f : Flags) : Bool := if f.dirtyP then parity8 f.lastResult else f.pfE

/-- SetSZP(r, w): record the last result (R29). -/
def Flags.setSZP (f : Flags) (r : Word) (sz : Size) : Flags :=
  { f with lastResult := r, lastOpSize := sz, dirtyZ := true, dirtyS := true, dirtyP := true }

/-- ZF <- b, eagerly (R30). -/
def Flags.setZF (f : Flags) (b : Bool) : Flags := { f with zfE := b, dirtyZ := false }

/-- SF <- b, eagerly (R30). -/
def Flags.setSF (f : Flags) (b : Bool) : Flags := { f with sfE := b, dirtyS := false }

/-- PF <- b, eagerly (R30). -/
def Flags.setPF (f : Flags) (b : Bool) : Flags := { f with pfE := b, dirtyP := false }

/-! ## The image and masked writes (spec/10_state.md R32, R33) -/

/-- A flag at its bit position. -/
def bitAt (b : Bool) (i : Nat) : Word := if b then 1#32 <<< i else 0

/-- EFLAGS_image() (R32): bit positions of R27, fixed bits of R28. -/
def Flags.image (f : Flags) : Word :=
  bitAt f.cf 0 ||| bitAt true 1 ||| bitAt f.pf 2 ||| bitAt f.af 4 ||| bitAt f.zf 6 ||| bitAt f.sf 7 ||| bitAt f.tf 8 |||
  bitAt f.ifl 9 ||| bitAt f.df 10 ||| bitAt f.of 11 ||| (f.iopl.setWidth 32 <<< 12) ||| bitAt f.nt 14 ||| bitAt f.rf 16 |||
  bitAt f.vm 17 ||| bitAt f.ac 18 ||| bitAt f.vif 19 ||| bitAt f.vip 20 ||| bitAt f.id 21

/-- Bit i of v where the mask m selects it, else the old value. -/
def pick (v m : Word) (i : Nat) (old : Bool) : Bool := if m.getLsbD i then v.getLsbD i else old

/-- WriteEFLAGS(v, m) (R33): the fields whose bits are all set in m take their value in v; ZF, SF and PF eagerly. -/
def Flags.write (f : Flags) (v m : Word) : Flags :=
  { cf := pick v m 0 f.cf
    af := pick v m 4 f.af
    of := pick v m 11 f.of
    tf := pick v m 8 f.tf
    ifl := pick v m 9 f.ifl
    df := pick v m 10 f.df
    iopl := if m.getLsbD 12 && m.getLsbD 13 then v.extractLsb' 12 2 else f.iopl
    nt := pick v m 14 f.nt
    rf := pick v m 16 f.rf
    vm := pick v m 17 f.vm
    ac := pick v m 18 f.ac
    vif := pick v m 19 f.vif
    vip := pick v m 20 f.vip
    id := pick v m 21 f.id
    zfE := pick v m 6 f.zfE
    sfE := pick v m 7 f.sfE
    pfE := pick v m 2 f.pfE
    lastResult := f.lastResult
    lastOpSize := f.lastOpSize
    dirtyZ := f.dirtyZ && !m.getLsbD 6
    dirtyS := f.dirtyS && !m.getLsbD 7
    dirtyP := f.dirtyP && !m.getLsbD 2 }

/-! ## Arithmetic (spec/40_alu_arith.md R200, R201) -/

/-- Bit 4 of a XOR b XOR r: the carry out of, or borrow into, bit 3 (R200, R201). -/
def auxCarry (a b r : Word) : Bool := (a ^^^ b ^^^ r).getLsbD 4

/-- The result of AddFlags(a, b, cin, w) (R200). -/
def addResult (sz : Size) (a b : Word) (cin : Bool) : Word := truncNat sz (a.toNat + b.toNat + cin.toNat)

/-- The flags of AddFlags(a, b, cin, w) (R200). -/
def Flags.add (f : Flags) (sz : Size) (a b : Word) (cin : Bool) : Flags :=
  let r := addResult sz a b cin
  { f with
    cf := decide (2 ^ sz.bits ≤ a.toNat + b.toNat + cin.toNat)
    of := msb sz a == msb sz b && msb sz r != msb sz a
    af := auxCarry a b r }.setSZP r sz

/-- The result of SubFlags(a, b, bin, w) (R201). -/
def subResult (sz : Size) (a b : Word) (bin : Bool) : Word :=
  truncInt sz ((a.toNat : Int) - (b.toNat : Int) - (bin.toNat : Int))

/-- The flags of SubFlags(a, b, bin, w) (R201). -/
def Flags.sub (f : Flags) (sz : Size) (a b : Word) (bin : Bool) : Flags :=
  let r := subResult sz a b bin
  { f with
    cf := decide (a.toNat < b.toNat + bin.toNat)
    of := msb sz a != msb sz b && msb sz r != msb sz a
    af := auxCarry a b r }.setSZP r sz

/-! ## Logic (spec/41_alu_logic.md R230) -/

/-- LogicFlags(r, w), the undefined AF given (R230). -/
def Flags.logic (f : Flags) (sz : Size) (r : Word) (af : Bool) : Flags :=
  { f with cf := false, of := false, af := af }.setSZP r sz

/-! ## Shifts and rotates (spec/42_alu_shift_rotate.md) -/

/-- The seven shifts and rotates. -/
inductive ShiftOp where
  | rol | ror | rcl | rcr | shl | shr | sar
  deriving DecidableEq, Repr

/-- A rotate leaves ZF, SF, PF and AF alone; a shift does not (R241). -/
def ShiftOp.isRotate : ShiftOp → Bool
  | .rol | .ror | .rcl | .rcr => true
  | .shl | .shr | .sar => false

/-- The bit b at bit position w-1. -/
def topBit (sz : Size) (b : Bool) : Word := bitAt b (sz.bits - 1)

/-- One one-bit step: the value and CF before give the value and CF after (R242 to R248). -/
def shiftStep (op : ShiftOp) (sz : Size) (r : Word) (cf : Bool) : Word × Bool :=
  match op with
  | .shl => (cut sz (r <<< 1), msb sz r)
  | .shr => (r >>> 1, r.getLsbD 0)
  | .sar => ((r >>> 1) ||| topBit sz (msb sz r), r.getLsbD 0)
  | .rol => (cut sz (r <<< 1) ||| bitAt (msb sz r) 0, msb sz r)
  | .ror => ((r >>> 1) ||| topBit sz (r.getLsbD 0), r.getLsbD 0)
  | .rcl => (cut sz (r <<< 1) ||| bitAt cf 0, msb sz r)
  | .rcr => ((r >>> 1) ||| topBit sz cf, r.getLsbD 0)

/-- c one-bit steps in sequence (R240). -/
def shiftIter (op : ShiftOp) (sz : Size) : Nat → Word → Bool → Word × Bool
  | 0, r, cf => (r, cf)
  | c + 1, r, cf => shiftIter op sz c (shiftStep op sz r cf).1 (shiftStep op sz r cf).2

/-- OF for a count of 1, from the operand, the result, and CF before and after (R241). -/
def shiftOF (op : ShiftOp) (sz : Size) (a r : Word) (cf0 cf1 : Bool) : Bool :=
  match op with
  | .shl => msb sz r ^^ cf1
  | .shr => msb sz a
  | .sar => false
  | .rol => msb sz r ^^ cf1
  | .rcl => msb sz r ^^ cf1
  | .ror => msb sz a ^^ cf1
  | .rcr => msb sz a ^^ cf0

/-- The flags of a shift or rotate by c ≥ 1: the undefined OF (for c ≥ 2) and AF (for a shift) given (R241). -/
def Flags.shift (f : Flags) (op : ShiftOp) (sz : Size) (a r : Word) (cf1 : Bool) (c : Nat) (ofDraw afDraw : Bool) : Flags :=
  let g := { f with cf := cf1, of := if c = 1 then shiftOF op sz a r f.cf cf1 else ofDraw }
  if op.isRotate then g else { g with af := afDraw }.setSZP r sz

/-! ## Undefined flags, and operations on the flags of a state -/

/-- Change EFLAGS. -/
def modFlags (g : Flags → Flags) : M Unit := modS fun s => { s with flags := g s.flags }

/-- SF, ZF, AF and PF become free values: after MUL and IMUL (spec/43_alu_muldiv.md R260). -/
def drawSZAP : M Unit := do
  let sf ← drawBit
  let zf ← drawBit
  let af ← drawBit
  let pf ← drawBit
  modFlags fun f => ((({ f with af := af }.setSF sf).setZF zf).setPF pf)

/-- OF, SF, ZF and PF become free values: after AAA and AAS (spec/44_alu_bcd.md R272). -/
def drawOSZP : M Unit := do
  let of ← drawBit
  let sf ← drawBit
  let zf ← drawBit
  let pf ← drawBit
  modFlags fun f => ((({ f with of := of }.setSF sf).setZF zf).setPF pf)

/-- All six status flags become free values: after DIV and IDIV (spec/43_alu_muldiv.md R264). -/
def drawStatus : M Unit := do
  let cf ← drawBit
  let of ← drawBit
  modFlags fun f => { f with cf := cf, of := of }
  drawSZAP

/-- AddFlags (spec/40_alu_arith.md R200). -/
def addOp (sz : Size) (a b : Word) (cin : Bool) : M Word := do
  modFlags fun f => f.add sz a b cin
  pure (addResult sz a b cin)

/-- SubFlags (spec/40_alu_arith.md R201). -/
def subOp (sz : Size) (a b : Word) (bin : Bool) : M Word := do
  modFlags fun f => f.sub sz a b bin
  pure (subResult sz a b bin)

/-- LogicFlags with a fresh AF; answers its operand (spec/41_alu_logic.md R230). -/
def logicOp (sz : Size) (r : Word) : M Word := do
  let af ← drawBit
  modFlags fun f => f.logic sz r af
  pure r

/-- A shift or rotate by count AND 0x1F; nothing changes when that is 0 (spec/42_alu_shift_rotate.md R240, R241). -/
def shiftOp (op : ShiftOp) (sz : Size) (a : Word) (count : Word) : M Word := do
  let s ← getS
  let c := (count &&& 0x1F).toNat
  if c = 0 then pure a
  else
    let res := shiftIter op sz c a s.flags.cf
    let ofDraw ← drawBit
    let afDraw ← drawBit
    modFlags fun f => f.shift op sz a res.1 res.2 c ofDraw afDraw
    pure res.1

/-! ## Conditions (spec/46_control.md R323) -/

/-- Cond(cc) on the materialized flags. -/
def Flags.cond (f : Flags) (cc : BitVec 4) : Bool :=
  match cc.toNat with
  | 0x0 => f.of
  | 0x1 => !f.of
  | 0x2 => f.cf
  | 0x3 => !f.cf
  | 0x4 => f.zf
  | 0x5 => !f.zf
  | 0x6 => f.cf || f.zf
  | 0x7 => !f.cf && !f.zf
  | 0x8 => f.sf
  | 0x9 => !f.sf
  | 0xA => f.pf
  | 0xB => !f.pf
  | 0xC => f.sf != f.of
  | 0xD => f.sf == f.of
  | 0xE => f.zf || f.sf != f.of
  | _ => !f.zf && f.sf == f.of

end Sys2Proof.Machine
end

