-- ==== Sys2Proof/Machine/Regs.lean ====
section
/-! DEFINITION. The register file with its dword, word and byte views (spec/10_state.md R20 to R24), segment, control and
debug registers, and what the mode and privilege are (R37, R38). Every read and write of a register goes through here. -/

namespace Sys2Proof.Machine

/-- x[i] (R20). -/
def Regs.get (x : Regs) : Reg → Word
  | .eax => x.eax | .ecx => x.ecx | .edx => x.edx | .ebx => x.ebx
  | .esp => x.esp | .ebp => x.ebp | .esi => x.esi | .edi => x.edi

/-- x[i] <- v (R20). -/
def Regs.set (x : Regs) (r : Reg) (v : Word) : Regs :=
  match r with
  | .eax => { x with eax := v } | .ecx => { x with ecx := v } | .edx => { x with edx := v } | .ebx => { x with ebx := v }
  | .esp => { x with esp := v } | .ebp => { x with ebp := v } | .esi => { x with esi := v } | .edi => { x with edi := v }

/-- The word view of a cell (R22), the whole cell at width 32 (R21), its low byte at width 8. -/
def Regs.view (x : Regs) (sz : Size) (r : Reg) : Word := cut sz (x.get r)

/-- The cell with its low w bits replaced by those of v (R21, R22). -/
def merge (sz : Size) (old v : Word) : Word :=
  match sz with
  | .b => (old &&& 0xFFFFFF00) ||| (v &&& 0xFF)
  | .w => (old &&& 0xFFFF0000) ||| (v &&& 0xFFFF)
  | .d => v

/-- Write the view of width w of a cell: only the bits it covers change (R21, R22). -/
def Regs.put (x : Regs) (sz : Size) (r : Reg) (v : Word) : Regs := x.set r (merge sz (x.get r) v)

/-- The cell of a byte view (R23). -/
def reg8Cell : Reg8 → Reg
  | .al => .eax | .cl => .ecx | .dl => .edx | .bl => .ebx
  | .ah => .eax | .ch => .ecx | .dh => .edx | .bh => .ebx

/-- A byte view covers bits 15:8 of its cell, or bits 7:0 (R23). -/
def reg8High : Reg8 → Bool
  | .al | .cl | .dl | .bl => false
  | .ah | .ch | .dh | .bh => true

/-- R8(j) (R23). -/
def Regs.get8 (x : Regs) (r : Reg8) : Word :=
  if reg8High r then (x.get (reg8Cell r) >>> 8) &&& 0xFF else x.get (reg8Cell r) &&& 0xFF

/-- R8(j) <- v: only those 8 bits of the cell change (R23). -/
def Regs.set8 (x : Regs) (r : Reg8) (v : Word) : Regs :=
  x.set (reg8Cell r)
    (if reg8High r then (x.get (reg8Cell r) &&& 0xFFFF00FF) ||| ((v &&& 0xFF) <<< 8)
     else (x.get (reg8Cell r) &&& 0xFFFFFF00) ||| (v &&& 0xFF))

/-- Read DRn (R44). -/
def DebugRegs.get (x : DebugRegs) : DReg → Word
  | .dr0 => x.dr0 | .dr1 => x.dr1 | .dr2 => x.dr2 | .dr3 => x.dr3
  | .dr4 => x.dr4 | .dr5 => x.dr5 | .dr6 => x.dr6 | .dr7 => x.dr7

/-- DRn <- v (R44). -/
def DebugRegs.set (x : DebugRegs) (n : DReg) (v : Word) : DebugRegs :=
  match n with
  | .dr0 => { x with dr0 := v } | .dr1 => { x with dr1 := v } | .dr2 => { x with dr2 := v } | .dr3 => { x with dr3 := v }
  | .dr4 => { x with dr4 := v } | .dr5 => { x with dr5 := v } | .dr6 => { x with dr6 := v } | .dr7 => { x with dr7 := v }

/-- Read CRn (R39 to R42). -/
def State.getCr (s : State) : CReg → Word
  | .cr0 => s.cr0 | .cr2 => s.cr2 | .cr3 => s.cr3 | .cr4 => s.cr4

/-- CRn <- v (R39 to R42). -/
def State.setCr (s : State) (n : CReg) (v : Word) : State :=
  match n with
  | .cr0 => { s with cr0 := v } | .cr2 => { s with cr2 := v } | .cr3 => { s with cr3 := v } | .cr4 => { s with cr4 := v }

/-- A segment register (R34). -/
def State.seg (s : State) : SReg → SegReg
  | .es => s.es | .cs => s.cs | .ss => s.ss | .ds => s.ds | .fs => s.fs | .gs => s.gs

/-- Write a segment register (R34). -/
def State.setSeg (s : State) (g : SReg) (v : SegReg) : State :=
  match g with
  | .es => { s with es := v } | .cs => { s with cs := v } | .ss => { s with ss := v }
  | .ds => { s with ds := v } | .fs => { s with fs := v } | .gs => { s with gs := v }

/-- Replace the general registers. -/
def State.withRegs (s : State) (x : Regs) : State := { s with regs := x }

/-- Write the view of width w of a general register. -/
def State.putReg (s : State) (sz : Size) (r : Reg) (v : Word) : State := s.withRegs (s.regs.put sz r v)

/-- Write a byte view. -/
def State.putReg8 (s : State) (r : Reg8) (v : Word) : State := s.withRegs (s.regs.set8 r v)

/-- Write EIP. -/
def State.withEip (s : State) (v : Word) : State := { s with eip := v }

/-- CR0.PE: protected mode (R38, R39). -/
def State.pe (s : State) : Bool := s.cr0.getLsbD 0

/-- CR0.WP (R39). -/
def State.wp (s : State) : Bool := s.cr0.getLsbD 16

/-- CR0.PG: paging enabled (R39). -/
def State.pg (s : State) : Bool := s.cr0.getLsbD 31

/-- CPL: CS.rpl in protected mode, 0 in real mode (R37). -/
def State.cpl (s : State) : BitVec 2 := if s.pe then s.cs.cache.rpl else 0

/-! The same as operations. -/

/-- Read the view of width w of a general register. -/
def readReg (sz : Size) (r : Reg) : M Word := fun s => .ok (s.regs.view sz r) s

/-- Write the view of width w of a general register. -/
def writeReg (sz : Size) (r : Reg) (v : Word) : M Unit := modS fun s => s.putReg sz r v

/-- Read a byte view. -/
def readReg8 (r : Reg8) : M Word := fun s => .ok (s.regs.get8 r) s

/-- Write a byte view. -/
def writeReg8 (r : Reg8) (v : Word) : M Unit := modS fun s => s.putReg8 r v

/-- EIP <- v. -/
def writeEip (v : Word) : M Unit := modS fun s => s.withEip v

/-- A privileged operation: #GP(0) when CPL is not 0 (spec/47_system.md). -/
def requireCpl0 : M Unit := do
  let s ← getS
  raiseIf (s.cpl ≠ 0) (Exc.gp 0)

end Sys2Proof.Machine
end

