-- ==== Sys2Proof/Machine/Memory.lean ====
section
/-! DEFINITION. Memory: the bytes of RAM, the physical dispatch, the page walk, and linear accesses (spec/20_memory.md
sections 2 and 3). -/

namespace Sys2Proof.Machine

/-! ## The bytes of RAM -/

/-- What an address reads as: the listed byte, or 0 (spec/70_reset_and_hazards.md R465, log 9). -/
def Memory.read (m : Memory) (a : Nat) : Byte :=
  match m with
  | [] => 0
  | c :: cs => if c.1 = a then c.2 else Memory.read cs a

/-- Store a byte, keeping the canonical form: storing 0 removes the entry (log 9). -/
def Memory.write (m : Memory) (a : Nat) (b : Byte) : Memory :=
  match m with
  | [] => if b = 0 then [] else [(a, b)]
  | c :: cs =>
    if a < c.1 then (if b = 0 then c :: cs else (a, b) :: c :: cs)
    else if c.1 = a then (if b = 0 then cs else (a, b) :: cs)
    else c :: Memory.write cs a b

/-- Every entry is at or above the address a, the addresses rise strictly, and no entry is 0. -/
def Memory.wfFrom : Nat → Memory → Bool
  | _, [] => true
  | a, c :: cs => decide (a ≤ c.1) && (c.2 != 0) && Memory.wfFrom (c.1 + 1) cs

/-- The canonical form: addresses strictly rising, and no entry equal to what an unlisted address reads as. -/
def Memory.wf (m : Memory) : Bool := Memory.wfFrom 0 m

/-- Every listed address is below n. -/
def Memory.below (m : Memory) (n : Nat) : Bool := m.all fun c => decide (c.1 < n)

/-- The n bytes from an address on, little-endian (spec/20_memory.md R73). -/
def Memory.readBytes (m : Memory) (a : Nat) : Nat → Quad
  | 0 => 0
  | n + 1 => (m.read a).setWidth 64 ||| (m.readBytes (a + 1) n <<< 8)

/-- Store the low n bytes of a value from an address on, little-endian (spec/20_memory.md R73). -/
def Memory.writeBytes (m : Memory) (a : Nat) : Nat → Quad → Memory
  | 0, _ => m
  | n + 1, v => (m.write a (v.setWidth 8)).writeBytes (a + 1) n (v >>> 8)

/-! ## Physical memory (spec/20_memory.md R71 to R74) -/

/-- The A20 mask (R71). -/
def State.maskA20 (s : State) (p : Word) : Word := if s.a20 then p else p &&& 0xFFEFFFFF

/-- The provider that covers a masked physical address, if any (R71, R72). -/
def State.provider (s : State) (a : Nat) : Option Nat :=
  if a < 0x100000 then s.params.providers.lookup (a / s.params.blockSize) else none

/-- The n bytes from a masked physical address on all fall in one provider block (R74). -/
def State.inOneBlock (s : State) (a n : Nat) : Bool :=
  (s.provider a).isSome &&
    (List.range n).all fun i => decide (a + i < 0x100000) && ((a + i) / s.params.blockSize == a / s.params.blockSize)

/-- The access is made as n one-byte accesses: it has more than one byte, and they do not all fall in one provider block
(R74); an access of RAM alone is one of them. -/
def State.splits (s : State) (a n : Nat) : Bool := decide (1 < n) && !s.inOneBlock a n

/-- Log an access that a device has seen (log 5). -/
def State.log (s : State) (e : DevEvent) : State := { s with events := e :: s.events }

/-- Replace the bytes of RAM. -/
def State.withMem (s : State) (m : Memory) : State := { s with mem := m }

/-- The low 8n bits of a value. -/
def cutBytes (n : Nat) (v : Quad) : Quad := v &&& BitVec.ofNat 64 (2 ^ (8 * n) - 1)

/-- The dispatch of a read by its masked address: a provider, RAM, or 0 (R71). -/
def State.dispatchRead (s : State) (p : Word) (n : Nat) : Quad × State :=
  let q := s.maskA20 p
  match s.provider q.toNat with
  | some id => (cutBytes n (Config.providerRead s.events id q n), s.log (.provRead id q n))
  | none => (if q.toNat < s.params.ramSize then s.mem.readBytes q.toNat n else 0, s)

/-- The dispatch of a write by its masked address: a provider, RAM, or discarded (R71). -/
def State.dispatchWrite (s : State) (p : Word) (n : Nat) (v : Quad) : State :=
  let q := s.maskA20 p
  match s.provider q.toNat with
  | some id => s.log (.provWrite id q n (cutBytes n v))
  | none => if q.toNat < s.params.ramSize then s.withMem (s.mem.writeBytes q.toNat n v) else s

/-- n one-byte reads in ascending order, each dispatched on its own; past the last physical address there is nothing: 0
(R74, log 10). -/
def State.physReadEach (s : State) (a : Nat) : Nat → Quad × State
  | 0 => (0, s)
  | n + 1 =>
    let lo := if a < 2 ^ 32 then s.dispatchRead (BitVec.ofNat 32 a) 1 else (0, s)
    let hi := lo.2.physReadEach (a + 1) n
    (lo.1 ||| (hi.1 <<< 8), hi.2)

/-- PhysRead(p, n) (R71, R74). -/
def State.physRead (s : State) (p : Word) (n : Nat) : Quad × State :=
  if s.splits (s.maskA20 p).toNat n then s.physReadEach p.toNat n else s.dispatchRead p n

/-- n one-byte writes in ascending order, each dispatched on its own; past the last physical address there is nothing to
write (R74, log 10). -/
def State.physWriteEach (s : State) (a : Nat) : Nat → Quad → State
  | 0, _ => s
  | n + 1, v =>
    (if a < 2 ^ 32 then s.dispatchWrite (BitVec.ofNat 32 a) 1 v else s).physWriteEach (a + 1) n (v >>> 8)

/-- PhysWrite(p, n, v) (R71, R74). -/
def State.physWrite (s : State) (p : Word) (n : Nat) (v : Quad) : State :=
  if s.splits (s.maskA20 p).toNat n then s.physWriteEach p.toNat n v else s.dispatchWrite p n v

/-- PhysRead as an operation: it never raises. -/
def physRead (p : Word) (n : Nat) : M Quad := fun s => .ok (s.physRead p n).1 (s.physRead p n).2

/-- PhysWrite as an operation: it never raises. -/
def physWrite (p : Word) (n : Nat) (v : Quad) : M Unit := modS fun s => s.physWrite p n v

/-! ## Translation (spec/20_memory.md R75 to R83) -/

/-- What an access does (R75). -/
inductive AccKind where
  | read
  | write
  | rmw
  | fetch
  deriving DecidableEq, Repr

/-- A write access: kind write or rmw (R75). -/
def AccKind.writes : AccKind → Bool
  | .read => false
  | .write => true
  | .rmw => true
  | .fetch => false

/-- An access descriptor: its kind, and whether it is a user access (R75). -/
structure Acc where
  kind : AccKind
  user : Bool
  deriving DecidableEq, Repr

/-- The access descriptor of a non-system access made at the privilege level cpl (R75). -/
def accAt (kind : AccKind) (cpl : BitVec 2) : Acc := { kind := kind, user := cpl == 3 }

/-- The access descriptor of a system access (R75, R89). -/
def accSys (kind : AccKind) : Acc := { kind := kind, user := false }

/-- The #PF error code (R83). -/
def pfCode (present : Bool) (a : Acc) : Half :=
  (if present then 1 else 0) ||| (if a.kind.writes then 2 else 0) ||| (if a.user then 4 else 0) |||
    (if a.kind = .fetch then 16 else 0)

/-- CR2 <- l; raise #PF (R77, R78, R83). -/
def pageFault {α : Type} (l : Word) (a : Acc) (present : Bool) : M α :=
  fun s => .error (.exc (Exc.pf (pfCode present a) l)) { s with cr2 := l }

/-- Whether the two entries' U/S and R/W bits allow the access (R78). -/
def pageAllows (a : Acc) (wp : Bool) (pde pte : Word) : Bool :=
  !(a.user && !(pde.getLsbD 2 && pte.getLsbD 2)) &&
    !(a.kind.writes && (a.user || wp) && !(pde.getLsbD 1 && pte.getLsbD 1))

/-- The page walk (R77, R78). -/
def walk (l : Word) (a : Acc) : M Word := do
  let s ← getS
  let pdeAddr := (s.cr3 &&& 0xFFFFF000) ||| ((l >>> 22) <<< 2)
  let pdeQ ← physRead pdeAddr 4
  let pde : Word := pdeQ.setWidth 32
  if !pde.getLsbD 0 then pageFault l a false
  else
    let pteAddr := (pde &&& 0xFFFFF000) ||| (((l >>> 12) &&& 0x3FF) <<< 2)
    let pteQ ← physRead pteAddr 4
    let pte : Word := pteQ.setWidth 32
    if !pte.getLsbD 0 then pageFault l a false
    else if !pageAllows a s.wp pde pte then pageFault l a true
    else
      whenM (pde.getLsbD 5 = false) (physWrite pdeAddr 4 ((pde ||| 0x20).setWidth 64))
      whenM (pte.getLsbD 5 = false ∨ (a.kind.writes = true ∧ pte.getLsbD 6 = false))
        (physWrite pteAddr 4 ((pte ||| 0x20 ||| (if a.kind.writes then 0x40 else 0)).setWidth 64))
      pure ((pte &&& 0xFFFFF000) ||| (l &&& 0xFFF))

/-- Translate(l, acc) (R76). -/
def translate (l : Word) (a : Acc) : M Word := do
  let s ← getS
  if s.pg then walk l a else pure l

/-! ## Linear accesses (spec/20_memory.md R84, R89, R115) -/

/-- The access straddles a page boundary with paging on (R84). -/
def State.straddles (s : State) (l : Word) (n : Nat) : Bool := s.pg && decide (4096 < l.toNat % 4096 + n)

/-- LinRead byte by byte (R84). -/
def linReadBytes (l : Word) (a : Acc) : Nat → M Quad
  | 0 => pure 0
  | n + 1 => do
    let p ← translate l a
    let lo ← physRead p 1
    let hi ← linReadBytes (l + 1) a n
    pure (lo ||| (hi <<< 8))

/-- LinRead(l, n, acc) (R84). -/
def linRead (l : Word) (n : Nat) (a : Acc) : M Quad := do
  let s ← getS
  if s.straddles l n then linReadBytes l a n
  else
    let p ← translate l a
    physRead p n

/-- LinWrite byte by byte, each byte committed as it is translated (R84). -/
def linWriteBytes (l : Word) (a : Acc) : Nat → Quad → M Unit
  | 0, _ => pure ()
  | n + 1, v => do
    let p ← translate l a
    physWrite p 1 (cutBytes 1 v)
    linWriteBytes (l + 1) a n (v >>> 8)

/-- Translate n bytes in ascending order (R84, R115). -/
def translateBytes (l : Word) (a : Acc) : Nat → M (List Word)
  | 0 => pure []
  | n + 1 => do
    let p ← translate l a
    let ps ← translateBytes (l + 1) a n
    pure (p :: ps)

/-- Where the bytes of a translated access lie: one run of physical addresses, or one address for each byte. -/
inductive Place where
  | run (p : Word)
  | bytes (ps : List Word)
  deriving DecidableEq, Repr

/-- Translate every byte of an access before any is read or written (R84 all_or_nothing, R115). -/
def linPlace (l : Word) (n : Nat) (a : Acc) : M Place := do
  let s ← getS
  if s.straddles l n then
    let ps ← translateBytes l a n
    pure (.bytes ps)
  else
    let p ← translate l a
    pure (.run p)

/-- Read a list of physical bytes in order, the first one least significant. -/
def State.readEach (s : State) : List Word → Quad × State
  | [] => (0, s)
  | p :: ps =>
    let lo := s.physRead p 1
    let hi := lo.2.readEach ps
    (lo.1 ||| (hi.1 <<< 8), hi.2)

/-- Write a list of physical bytes in order, the first one least significant. -/
def State.writeEach (s : State) : List Word → Quad → State
  | [], _ => s
  | p :: ps, v => (s.physWrite p 1 (cutBytes 1 v)).writeEach ps (v >>> 8)

/-- Read the n bytes of a place: it never raises. -/
def State.readPlace (s : State) (pl : Place) (n : Nat) : Quad × State :=
  match pl with
  | .run p => s.physRead p n
  | .bytes ps => s.readEach ps

/-- Write the n bytes of a place: it never raises. -/
def State.writePlace (s : State) (pl : Place) (n : Nat) (v : Quad) : State :=
  match pl with
  | .run p => s.physWrite p n v
  | .bytes ps => s.writeEach ps v

/-- LinWrite(l, n, v, acc) (R84). -/
def linWrite (l : Word) (n : Nat) (v : Quad) (a : Acc) : M Unit := do
  let s ← getS
  if s.straddles l n then
    match s.params.straddle with
    | .bytewise => linWriteBytes l a n v
    | .allOrNothing =>
      let ps ← translateBytes l a n
      modS fun s => s.writeEach ps v
  else
    let p ← translate l a
    physWrite p n v

/-- SysRead(l, n) (R89). -/
def sysRead (l : Word) (n : Nat) : M Quad := linRead l n (accSys .read)

/-- SysWrite(l, n, v) (R89). -/
def sysWrite (l : Word) (n : Nat) (v : Quad) : M Unit := linWrite l n v (accSys .write)

end Sys2Proof.Machine
end

