-- ==== Sys2Proof/Machine/Segment.lean ====
section
/-! DEFINITION. Segmentation: the segment check, accesses through a segment, the stack, descriptors, and the selector loader
(spec/20_memory.md sections 4 to 6). -/

namespace Sys2Proof.Machine

/-! ## Accesses through a segment (spec/20_memory.md R85 to R88) -/

/-- The limit test of R86 and R87: whether the n bytes at off lie outside the segment. The sum does not wrap. -/
def outsideLimit (c : SegCache) (pe : Bool) (off n : Nat) : Bool :=
  if pe && c.expandDown then
    decide (off ≤ c.limit.toNat) || decide ((if c.db then 0xFFFFFFFF else 0xFFFF) < off + n - 1)
  else decide (c.limit.toNat < off + n - 1)

/-- The null and type tests of R86; a fetch is checked by the limit test only, and real mode makes none of them (R87). -/
def wrongKind (c : SegCache) (isCs pe : Bool) (k : AccKind) : Bool :=
  pe &&
    match k with
    | .fetch => false
    | .read => (c.null && !isCs) || (c.code && !c.readable)
    | .rmw => (c.null && !isCs) || (c.code && !c.readable) || c.code || !c.writable
    | .write => (c.null && !isCs) || c.code || !c.writable

/-- Whether SegCheck lets the access pass (R86, R87). -/
def segAllows (c : SegCache) (isCs pe : Bool) (off n : Nat) (k : AccKind) : Bool :=
  !wrongKind c isCs pe k && !outsideLimit c pe off n

/-- fault(0): #SS(0) through a segment loaded in SS, else #GP(0) (R86). -/
def segFault (c : SegCache) : Exc := if c.inSS then Exc.ss 0 else Exc.gp 0

/-- SegCheck with the exception it raises given. -/
def segCheckAs (e : Exc) (c : SegCache) (isCs : Bool) (off n : Nat) (k : AccKind) : M Unit := do
  let s ← getS
  raiseIf (segAllows c isCs s.pe off n k = false) e

/-- SegCheck(seg, off, n, kind) (R86, R87). -/
def segCheck (c : SegCache) (isCs : Bool) (off n : Nat) (k : AccKind) : M Unit := segCheckAs (segFault c) c isCs off n k

/-- linear = trunc_32(seg.base + offset) (R85). -/
def segLinear (c : SegCache) (off : Nat) : Word := c.base + BitVec.ofNat 32 off

/-- MemRead through a segment register (R88). -/
def memRead (g : SReg) (off n : Nat) : M Quad := do
  let s ← getS
  segCheck (s.seg g).cache (g = .cs) off n .read
  linRead (segLinear (s.seg g).cache off) n (accAt .read s.cpl)

/-- MemWrite through a segment register (R88). -/
def memWrite (g : SReg) (off n : Nat) (v : Quad) : M Unit := do
  let s ← getS
  segCheck (s.seg g).cache (g = .cs) off n .write
  linWrite (segLinear (s.seg g).cache off) n v (accAt .write s.cpl)

/-- Open a read-modify-write destination: SegCheck as rmw, then every byte translated as a write (R115). -/
def memOpen (g : SReg) (off n : Nat) : M Place := do
  let s ← getS
  segCheck (s.seg g).cache (g = .cs) off n .rmw
  linPlace (segLinear (s.seg g).cache off) n (accAt .rmw s.cpl)

/-- MemWrite on a stack that is not yet SS, through its descriptor and at its privilege level; e is what the segment check
raises (spec/60_exceptions.md R423, spec/46_control.md R329, log 18). -/
def memWriteVia (e : Exc) (c : SegCache) (cpl : BitVec 2) (off n : Nat) (v : Quad) : M Unit := do
  segCheckAs e c false off n .write
  linWrite (segLinear c off) n v (accAt .write cpl)

/-! ## The stack (spec/20_memory.md R91 to R93) -/

/-- The stack width is 32 (R92); real mode is always 16 (log 12). -/
def State.sp32 (s : State) : Bool := s.pe && s.ss.cache.db

/-- trunc_sw (R93). -/
def State.spTrunc (s : State) (v : Word) : Word := if s.sp32 then v else v &&& 0xFFFF

/-- SP_w (R92). -/
def State.sp (s : State) : Word := s.spTrunc s.regs.esp

/-- SP_w <- v: the upper half of ESP stays when the stack width is 16 (R92, R93). -/
def State.setSp (s : State) (v : Word) : State := s.putReg (if s.sp32 then .d else .w) .esp v

/-- A stack offset k bytes above SP_w, wrapped at the stack width (R93, R291, log 13). -/
def State.spAt (s : State) (k : Nat) : Nat := (s.spTrunc (s.sp + BitVec.ofNat 32 k)).toNat

/-- A stack offset k bytes below SP_w, wrapped at the stack width (R93, R291, log 13). -/
def State.spBelow (s : State) (k : Nat) : Nat := (s.spTrunc (s.sp - BitVec.ofNat 32 k)).toNat

/-- SP_w <- trunc_sw(SP_w + k). -/
def moveSp (k : Word) : M Unit := modS fun s => s.setSp (s.spTrunc (s.sp + k))

/-- Push(w, v): the stack pointer moves only after the store succeeded (R93). -/
def push (o : OSize) (v : Word) : M Unit := do
  let s ← getS
  memWrite .ss (s.spBelow o.bytes) o.bytes (v.setWidth 64)
  moveSp (-(BitVec.ofNat 32 o.bytes))

/-- MemRead(SS, SP_w + k, n) without moving the stack pointer (R335, log 13). -/
def peek (o : OSize) (k : Nat) : M Word := do
  let s ← getS
  let v ← memRead .ss (s.spAt k) o.bytes
  pure (v.setWidth 32)

/-- Pop(w) (R93). -/
def pop (o : OSize) : M Word := do
  let v ← peek o 0
  moveSp (BitVec.ofNat 32 o.bytes)
  pure v

/-- MemWrite of the values of a multi-value push, the first one highest, without moving the stack pointer (R335, log 13);
`k` bytes have been staged before. -/
def stage (o : OSize) : Nat → List Word → M Unit
  | _, [] => pure ()
  | k, v :: vs => do
    let s ← getS
    memWrite .ss (s.spBelow (k + o.bytes)) o.bytes (v.setWidth 64)
    stage o (k + o.bytes) vs

/-- A stack offset k bytes below nesp on a stack that is not yet SS, wrapped at that stack's width (log 13). -/
def newStackOff (c : SegCache) (nesp : Word) (k : Nat) : Nat :=
  (if c.db then nesp - BitVec.ofNat 32 k else (nesp - BitVec.ofNat 32 k) &&& 0xFFFF).toNat

/-- The stores of a multi-value push on a stack that is not yet SS, the first value highest
(spec/60_exceptions.md R423, spec/46_control.md R329). -/
def stageVia (e : Exc) (c : SegCache) (cpl : BitVec 2) (nesp : Word) (o : OSize) : Nat → List Word → M Unit
  | _, [] => pure ()
  | k, v :: vs => do
    memWriteVia e c cpl (newStackOff c nesp (k + o.bytes)) o.bytes (v.setWidth 64)
    stageVia e c cpl nesp o (k + o.bytes) vs

/-- ESP after a delivery to an inner stack, k bytes below nesp: only the low half changes on a 16-bit stack
(spec/60_exceptions.md R423). -/
def newEsp (c : SegCache) (old nesp : Word) (k : Nat) : Word :=
  merge (if c.db then .d else .w) old (nesp - BitVec.ofNat 32 k)

/-- A selector pushed or stored at width w: its upper half is a free value at 32 bits
(spec/45_data_flags_stack.md R282, R288, log 4). -/
def selectorAt (o : OSize) (sel : Half) : M Word :=
  match o with
  | .o16 => pure (sel.setWidth 32)
  | .o32 => do
    let w ← drawWord
    pure ((w &&& 0xFFFF0000) ||| sel.setWidth 32)

/-! ## Descriptors (spec/20_memory.md R94 to R99) -/

/-- The linear base of the table a selector names (R99). -/
def State.tableBase (s : State) (sel : Half) : Word := if selTI sel then s.ldtr.base else s.gdtr.base

/-- The limit of the table a selector names (R99). -/
def State.tableLimit (s : State) (sel : Half) : Nat := if selTI sel then s.ldtr.limit.toNat else s.gdtr.limit.toNat

/-- The linear address of the descriptor a selector names (R99). -/
def State.descAddr (s : State) (sel : Half) : Word := s.tableBase sel + BitVec.ofNat 32 (selIndex sel * 8)

/-- DescRead(sel, E, 0), E given by its vector (R99). -/
def descRead (sel : Half) (e : Byte) : M Quad := do
  let s ← getS
  raiseIf (s.tableLimit sel < selIndex sel * 8 + 7) (Exc.coded e (selCode sel))
  sysRead (s.descAddr sel) 8

/-- The vector of #TS. -/
def vTS : Byte := 10

/-- The vector of #GP. -/
def vGP : Byte := 13

/-! ## The selector loader (spec/20_memory.md R100 to R107) -/

/-- The cache Snapshot makes of a descriptor (R102). -/
def cacheOf (d : Quad) (inSS : Bool) (rpl : BitVec 2) : SegCache :=
  { base := descBase d, limit := descLimit d, code := descCode d, conforming := descConforming d,
    readable := descReadable d, writable := descWritable d, expandDown := descExpandDown d, dpl := descDPL d,
    present := descP d, db := descDB d, g := descG d, inSS := inSS, rpl := rpl, null := false }

/-- The accessed bit, where SET_DESC_ACCESSED asks for it (R102). -/
def markAccessed (sel : Half) (d : Quad) : M Unit := do
  let s ← getS
  whenM (s.params.setDescAccessed = true ∧ descAccessed d = false)
    (sysWrite (s.descAddr sel + 5) 1 ((descAccess d ||| 1).setWidth 64))

/-- Write a segment register. -/
def writeSeg (g : SReg) (v : SegReg) : M Unit := modS fun s => s.setSeg g v

/-- An operation that, where it raises, leaves the segment register g as it was (R103). -/
def keepSegOnRaise (g : SReg) (m : M Unit) : M Unit := fun s =>
  match m s with
  | .ok u t => .ok u t
  | .error a t => .error a (t.setSeg g (s.seg g))

/-- Snapshot(seg, sel, d): the register, then the accessed bit (R102); where the write of the bit raises, the register is
unchanged (R103). -/
def snapshot (g : SReg) (sel : Half) (d : Quad) : M Unit :=
  keepSegOnRaise g do
    writeSeg g { selector := sel, cache := cacheOf d (g = .ss) (selRPL sel) }
    markAccessed sel d

/-- A segment register holding the null selector sel (R100). -/
def SegReg.nullOf (sel : Half) (inSS : Bool) : SegReg :=
  { selector := sel, cache := SegCache.nullOf (selRPL sel) inSS }

/-- A segment register after a real-mode load (R106); the fields R106 does not name are false (log 15). -/
def SegReg.realOf (g : SReg) (sel : Half) : SegReg :=
  { selector := sel
    cache :=
      { base := sel.setWidth 32 <<< 4, limit := 0xFFFF, code := g = .cs, conforming := false, readable := g = .cs,
        writable := g ≠ .cs, expandDown := false, dpl := 0, present := true, db := false, g := false, inSS := g = .ss,
        rpl := 0, null := false } }

/-- Load a segment register in real mode (R106). -/
def loadReal (g : SReg) (sel : Half) : M Unit := writeSeg g (SegReg.realOf g sel)

/-- Whether R100's type test rejects a descriptor: not data and not readable code. -/
def notLoadable (d : Quad) : Bool := !descS d || (descCode d && !descReadable d)

/-- Whether R100's privilege test rejects a descriptor. -/
def tooPrivileged (d : Quad) (cpl rpl : BitVec 2) : Bool :=
  (!descCode d || !descConforming d) && decide ((descDPL d).toNat < max cpl.toNat rpl.toNat)

/-- Load DS, ES, FS or GS in protected mode, E given by its vector: #GP (R100), or #TS in a task switch
(spec/60_exceptions.md R443). -/
def loadData (e : Byte) (g : SReg) (sel : Half) : M Unit := do
  if selIndex sel = 0 then writeSeg g (SegReg.nullOf sel false)
  else
    let d ← descRead sel e
    let s ← getS
    raiseIf (notLoadable d = true ∨ tooPrivileged d s.cpl (selRPL sel) = true) (Exc.coded e (selCode sel))
    raiseIf (descP d = false) (Exc.np (selCode sel))
    snapshot g sel d

/-- Writable data (R101). -/
def isWritableData (d : Quad) : Bool := descS d && !descCode d && descWritable d

/-- Load SS in protected mode (R101). -/
def loadStack (sel : Half) : M Unit := do
  raiseIf (selIndex sel = 0) (Exc.gp 0)
  let d ← descRead sel vGP
  let s ← getS
  raiseIf (selRPL sel ≠ s.cpl ∨ isWritableData d = false ∨ descDPL d ≠ s.cpl) (Exc.gp (selCode sel))
  raiseIf (descP d = false) (Exc.ss (selCode sel))
  snapshot .ss sel d

/-- The selector load of MOV Sreg and POP Sreg (R100, R101, R106). -/
def loadSeg (g : SReg) (sel : Half) : M Unit := do
  let s ← getS
  if s.pe then
    match g with
    | .ss => loadStack sel
    | _ => loadData vGP g sel
  else loadReal g sel

/-- CheckDirectCS(sel, offset) (R107). -/
def checkDirectCs (sel : Half) (off : Word) : M Quad := do
  raiseIf (selIndex sel = 0) (Exc.gp 0)
  let d ← descRead sel vGP
  let s ← getS
  raiseIf (descS d = false ∨ descCode d = false) (Exc.gp (selCode sel))
  raiseIf (descConforming d = true ∧ s.cpl.toNat < (descDPL d).toNat) (Exc.gp (selCode sel))
  raiseIf (descConforming d = false ∧ (descDPL d ≠ s.cpl ∨ s.cpl.toNat < (selRPL sel).toNat)) (Exc.gp (selCode sel))
  raiseIf (descP d = false) (Exc.np (selCode sel))
  raiseIf ((descLimit d).toNat < off.toNat) (Exc.gp 0)
  pure d

/-- CS <- (sel AND 0xFFFC) OR rpl with Snapshot(d); EIP <- off. -/
def enterCs (sel : Half) (rpl : BitVec 2) (d : Quad) (off : Word) : M Unit := do
  snapshot .cs (withRPL sel rpl) d
  writeEip off

/-! ## Targets (spec/46_control.md R320) -/

/-- The target t at a transfer of the given size (R320). -/
def cutTarget (o : OSize) (t : Word) : Word := cut o.size t

/-- The check of SetEIP without the write: t', or #GP(0) beyond the limit of CS (R320). -/
def checkTarget (o : OSize) (t : Word) : M Word := do
  let s ← getS
  raiseIf (s.cs.cache.limit.toNat < (cutTarget o t).toNat) (Exc.gp 0)
  pure (cutTarget o t)

/-- SetEIP(t, size) (R320). -/
def setEip (o : OSize) (t : Word) : M Unit := do
  let t' ← checkTarget o t
  writeEip t'

end Sys2Proof.Machine
end

