-- ==== Sys2Proof/Machine/Operands.lean ====
section
/-! DEFINITION. Operands: effective addresses, reading and writing r/m operands, read-modify-write destinations, immediates
and relative targets (spec/30_encoding.md R147 to R158, spec/20_memory.md R115). -/

namespace Sys2Proof.Machine

/-! ## Effective addresses (spec/30_encoding.md R148 to R151) -/

/-- The 16-bit base value (R148), zero-extended. -/
def base16Val (x : Regs) : Base16 → Word
  | .bxSi => x.view .w .ebx + x.view .w .esi
  | .bxDi => x.view .w .ebx + x.view .w .edi
  | .bpSi => x.view .w .ebp + x.view .w .esi
  | .bpDi => x.view .w .ebp + x.view .w .edi
  | .si => x.view .w .esi
  | .di => x.view .w .edi
  | .bp => x.view .w .ebp
  | .bx => x.view .w .ebx

/-- The displacement of a 16-bit form, sign-extended (R148). -/
def disp16Val : Disp16 → Word
  | .none => 0
  | .d8 v => v.signExtend 32
  | .d16 v => v.setWidth 32

/-- The displacement of a 32-bit form, sign-extended (R149). -/
def disp32Val : Disp32 → Word
  | .none => 0
  | .d8 v => v.signExtend 32
  | .d32 v => v

/-- The general register an index names (R150). -/
def indexReg : Index → Reg
  | .eax => .eax | .ecx => .ecx | .edx => .edx | .ebx => .ebx | .ebp => .ebp | .esi => .esi | .edi => .edi

/-- A scaled index: 2^ss times the register; no index is 0 (R150). -/
def indexVal (x : Regs) : Option (Index × Scale) → Word
  | none => 0
  | some (i, .x1) => x.get (indexReg i)
  | some (i, .x2) => x.get (indexReg i) <<< 1
  | some (i, .x4) => x.get (indexReg i) <<< 2
  | some (i, .x8) => x.get (indexReg i) <<< 3

/-- The effective address, wrapped at its address size (R148 to R150). -/
def effAddr (x : Regs) : Addr → Word
  | .abs16 d => d.setWidth 32
  | .base16 b d => (base16Val x b + disp16Val d) &&& 0xFFFF
  | .abs32 i d => indexVal x i + d
  | .base32 b i d => x.get b + indexVal x i + disp32Val d

/-- The default segment of an address form: SS for the forms with a BP or EBP or ESP base, else DS (R148 to R151). -/
def defaultSeg : Addr → SReg
  | .abs16 _ => .ds
  | .base16 .bpSi _ => .ss
  | .base16 .bpDi _ => .ss
  | .base16 .bp _ => .ss
  | .base16 .bxSi _ => .ds
  | .base16 .bxDi _ => .ds
  | .base16 .si _ => .ds
  | .base16 .di _ => .ds
  | .base16 .bx _ => .ds
  | .abs32 _ _ => .ds
  | .base32 .esp _ _ => .ss
  | .base32 .ebp _ _ => .ss
  | .base32 .eax _ _ => .ds
  | .base32 .ecx _ _ => .ds
  | .base32 .edx _ _ => .ds
  | .base32 .ebx _ _ => .ds
  | .base32 .esi _ _ => .ds
  | .base32 .edi _ _ => .ds

/-- The segment of a memory operand: the override, or the default (R151). -/
def memSeg (m : MemOp) : SReg :=
  match m.seg with
  | some g => g
  | none => defaultSeg m.addr

/-- The offset of a memory operand. -/
def memOff (x : Regs) (m : MemOp) : Nat := (effAddr x m.addr).toNat

/-- The segment of a moffs operand: the override, or DS (R158). -/
def moffsSeg (g : Option SReg) : SReg :=
  match g with
  | some g => g
  | none => .ds

/-- The offset of a moffs operand (R158). -/
def moffsOff : Moffs → Nat
  | .a16 v => v.toNat
  | .a32 v => v.toNat

/-! ## Places that hold an operand -/

/-- A place an operand can be read from and written to. -/
inductive Loc where
  | reg8 (r : Reg8)
  | reg (r : Reg)
  | mem (g : SReg) (off : Nat)
  deriving DecidableEq, Repr

/-- A source: a place or an immediate. -/
inductive Source where
  | loc (l : Loc)
  | imm (v : Word)
  deriving DecidableEq, Repr

/-- The place of a byte register. -/
def r8 (r : Reg8) (_ : State) : Loc := .reg8 r

/-- The place of a general register. -/
def rv (r : Reg) (_ : State) : Loc := .reg r

/-- The place of an r/m8 operand in a state. -/
def rm8 (m : Rm8) (s : State) : Loc :=
  match m with
  | .reg r => .reg8 r
  | .mem m => .mem (memSeg m) (memOff s.regs m)

/-- The place of an r/m16, r/m32 or r/mv operand in a state. -/
def rmv (m : Rm) (s : State) : Loc :=
  match m with
  | .reg r => .reg r
  | .mem m => .mem (memSeg m) (memOff s.regs m)

/-- Read a place at width w. -/
def readLoc (sz : Size) : Loc → M Word
  | .reg8 r => readReg8 r
  | .reg r => readReg sz r
  | .mem g off => do
    let v ← memRead g off sz.bytes
    pure (v.setWidth 32)

/-- Write a place at width w. -/
def writeLoc (sz : Size) (v : Word) : Loc → M Unit
  | .reg8 r => writeReg8 r v
  | .reg r => writeReg sz r v
  | .mem g off => memWrite g off sz.bytes (v.setWidth 64)

/-- Read a source at width w. -/
def readSrc (sz : Size) : Source → M Word
  | .loc l => readLoc sz l
  | .imm v => pure v

/-- A destination opened for a read-modify-write (R115). -/
inductive Opened where
  | reg8 (r : Reg8)
  | reg (r : Reg)
  | mem (p : Place)
  deriving DecidableEq, Repr

/-- Open a destination: for memory, check it and translate it as a write; nothing after this can fail (R115). -/
def openLoc (sz : Size) : Loc → M Opened
  | .reg8 r => pure (.reg8 r)
  | .reg r => pure (.reg r)
  | .mem g off => do
    let p ← memOpen g off sz.bytes
    pure (.mem p)

/-- Read an opened destination: it never raises. -/
def State.readOpened (s : State) (sz : Size) : Opened → Word × State
  | .reg8 r => (s.regs.get8 r, s)
  | .reg r => (s.regs.view sz r, s)
  | .mem p => ((s.readPlace p sz.bytes).1.setWidth 32, (s.readPlace p sz.bytes).2)

/-- Write an opened destination: it never raises. -/
def State.writeOpened (s : State) (sz : Size) (v : Word) : Opened → State
  | .reg8 r => s.putReg8 r v
  | .reg r => s.putReg sz r v
  | .mem p => s.writePlace p sz.bytes (v.setWidth 64)

/-- Read an opened destination. -/
def readOpened (sz : Size) (o : Opened) : M Word := fun s => .ok (s.readOpened sz o).1 (s.readOpened sz o).2

/-- Write an opened destination. -/
def writeOpened (sz : Size) (v : Word) (o : Opened) : M Unit := modS fun s => s.writeOpened sz v o

/-- Read, modify, write a destination (R115). -/
def modifyLoc (sz : Size) (l : Loc) (f : Word → M Word) : M Unit := do
  let o ← openLoc sz l
  let a ← readOpened sz o
  let r ← f a
  writeOpened sz r o

/-! ## Relative targets (spec/30_encoding.md R156) -/

/-- trunc_32(EIP + sext_32(rel)) (R156). -/
def State.relTarget (s : State) (rel : Word) : Word := s.eip + rel

end Sys2Proof.Machine
end

