-- ==== Sys2Proof/Machine/Task.lean ====
section
/-! DEFINITION. The task switch and the layout of a task state segment (spec/60_exceptions.md section 5). -/

namespace Sys2Proof.Machine

/-- What switches the task (R440). -/
inductive TaskKind where
  | jmp
  | call
  | int
  | iret
  deriving DecidableEq, Repr

/-- The kinds that keep a link to the outgoing task (R442). -/
def TaskKind.links : TaskKind → Bool
  | .jmp => false
  | .call => true
  | .int => true
  | .iret => false

/-! ## TSS layout (R441) -/

/-- The fields of a 32-bit TSS in ascending order: offset and size (R441). -/
def tss32Fields : List (Nat × Nat) :=
  [(0x00, 2), (0x04, 4), (0x08, 2), (0x0C, 4), (0x10, 2), (0x14, 4), (0x18, 2), (0x1C, 4), (0x20, 4), (0x24, 4),
   (0x28, 4), (0x2C, 4), (0x30, 4), (0x34, 4), (0x38, 4), (0x3C, 4), (0x40, 4), (0x44, 4), (0x48, 2), (0x4C, 2),
   (0x50, 2), (0x54, 2), (0x58, 2), (0x5C, 2), (0x60, 2), (0x66, 2)]

/-- The fields of a 16-bit TSS in ascending order: offset and size (R441). -/
def tss16Fields : List (Nat × Nat) :=
  [(0x00, 2), (0x02, 2), (0x04, 2), (0x06, 2), (0x08, 2), (0x0A, 2), (0x0C, 2), (0x0E, 2), (0x10, 2), (0x12, 2),
   (0x14, 2), (0x16, 2), (0x18, 2), (0x1A, 2), (0x1C, 2), (0x1E, 2), (0x20, 2), (0x22, 2), (0x24, 2), (0x26, 2),
   (0x28, 2), (0x2A, 2)]

/-- The fields of a TSS. -/
def tssFields (is32 : Bool) : List (Nat × Nat) := if is32 then tss32Fields else tss16Fields

/-- Read fields at a base through SysRead, in the order listed (R440 step 2, log 19). -/
def readFields (base : Word) : List (Nat × Nat) → M (List Word)
  | [] => pure []
  | f :: fs => do
    let v ← sysRead (base + BitVec.ofNat 32 f.1) f.2
    let vs ← readFields base fs
    pure (v.setWidth 32 :: vs)

/-- Write fields at a base through SysWrite, in the order listed (R440 step 3, log 19). -/
def writeFields (base : Word) : List (Nat × Nat × Word) → M Unit
  | [] => pure ()
  | f :: fs => do
    sysWrite (base + BitVec.ofNat 32 f.1) f.2.1 (f.2.2.setWidth 64)
    writeFields base fs

/-- The part of a TSS a task switch loads. -/
structure TssImage where
  cr3 : Word
  eip : Word
  eflags : Word
  regs : Regs
  es : Half
  cs : Half
  ss : Half
  ds : Half
  fs : Half
  gs : Half
  ldt : Half
  deriving DecidableEq, Repr

/-- The image of the values read from the fields of a TSS (R441); a 16-bit TSS has no CR3, FS or GS: FS and GS are null. -/
def tssImage (is32 : Bool) (v : List Word) : TssImage :=
  let at' (i : Nat) : Word := v.getD i 0
  let sel (i : Nat) : Half := (at' i).setWidth 16
  if is32 then
    { cr3 := at' 7, eip := at' 8, eflags := at' 9
      regs := { eax := at' 10, ecx := at' 11, edx := at' 12, ebx := at' 13, esp := at' 14, ebp := at' 15, esi := at' 16,
                edi := at' 17 }
      es := sel 18, cs := sel 19, ss := sel 20, ds := sel 21, fs := sel 22, gs := sel 23, ldt := sel 24 }
  else
    { cr3 := 0, eip := at' 7, eflags := at' 8
      regs := { eax := at' 9, ecx := at' 10, edx := at' 11, ebx := at' 12, esp := at' 13, ebp := at' 14, esi := at' 15,
                edi := at' 16 }
      es := sel 17, cs := sel 18, ss := sel 19, ds := sel 20, fs := 0, gs := 0, ldt := sel 21 }

/-- What a task switch saves in the outgoing TSS, in the order of R440 step 3: general registers, segment selectors, EIP,
EFLAGS, and CR3 in a 32-bit TSS. -/
def savedFields (s : State) (eip eflags : Word) : List (Nat × Nat × Word) :=
  let sel (r : SegReg) : Word := r.selector.setWidth 32
  if s.tr.is32 then
    [(0x28, 4, s.regs.eax), (0x2C, 4, s.regs.ecx), (0x30, 4, s.regs.edx), (0x34, 4, s.regs.ebx), (0x38, 4, s.regs.esp),
     (0x3C, 4, s.regs.ebp), (0x40, 4, s.regs.esi), (0x44, 4, s.regs.edi),
     (0x48, 2, sel s.es), (0x4C, 2, sel s.cs), (0x50, 2, sel s.ss), (0x54, 2, sel s.ds), (0x58, 2, sel s.fs),
     (0x5C, 2, sel s.gs), (0x20, 4, eip), (0x24, 4, eflags), (0x1C, 4, s.cr3)]
  else
    [(0x12, 2, s.regs.eax), (0x14, 2, s.regs.ecx), (0x16, 2, s.regs.edx), (0x18, 2, s.regs.ebx), (0x1A, 2, s.regs.esp),
     (0x1C, 2, s.regs.ebp), (0x1E, 2, s.regs.esi), (0x20, 2, s.regs.edi),
     (0x22, 2, sel s.es), (0x24, 2, sel s.cs), (0x26, 2, sel s.ss), (0x28, 2, sel s.ds), (0x0E, 2, eip),
     (0x10, 2, eflags)]

/-! ## The switch (R440) -/

/-- An available or busy TSS descriptor type (R97, R440). -/
def isTssType (d : Quad) : Bool :=
  !descS d && (descType d == 1 || descType d == 3 || descType d == 9 || descType d == 0xB)

/-- A busy TSS descriptor type (R97). -/
def isBusyType (d : Quad) : Bool := descType d == 3 || descType d == 0xB

/-- A 32-bit TSS descriptor type (R97). -/
def isTss32 (d : Quad) : Bool := descType d == 9 || descType d == 0xB

/-- E of R440: #TS for IRET, #GP otherwise, for the read of the new TSS's descriptor too, where spec/20_memory.md R99 says E is
#TS in a task switch (log 36, DEDUCED, unsafe). -/
def TaskKind.vector : TaskKind → Byte
  | .iret => vTS
  | .jmp | .call | .int => vGP

/-- Step 1: the checks on the new TSS's descriptor (R440). -/
def checkNewTss (sel : Half) (kind : TaskKind) : M Quad := do
  raiseIf (selTI sel = true ∨ selIndex sel = 0) (Exc.coded kind.vector (selCode sel))
  let d ← descRead sel kind.vector
  raiseIf (isTssType d = false) (Exc.coded kind.vector (selCode sel))
  raiseIf (kind ≠ .iret ∧ isBusyType d = true) (Exc.gp (selCode sel))
  raiseIf (descP d = false) (Exc.np (selCode sel))
  raiseIf ((descLimit d).toNat < (if isTss32 d then 0x67 else 0x2B)) (Exc.ts (selCode sel))
  pure d

/-- Step 4: the busy bits and the link (R440, log 29). The outgoing descriptor's access byte is read and written back with
the busy bit clear. -/
def moveBusy (sel : Half) (d : Quad) (kind : TaskKind) : M Unit := do
  let s ← getS
  let outByte := s.gdtr.base + BitVec.ofNat 32 (selIndex s.tr.selector * 8) + 5
  let old ← sysRead outByte 1
  sysWrite outByte 1 (old &&& 0xFD)
  sysWrite (s.gdtr.base + BitVec.ofNat 32 (selIndex sel * 8) + 5) 1 ((descAccess d ||| 2).setWidth 64)
  whenM (kind.links = true) (sysWrite (descBase d) 2 (s.tr.selector.setWidth 64))

/-- The bits of EFLAGS a task switch writes: every field of spec/10_state.md R27, or those of the low half (R440). -/
def taskFlagsMask (is32 : Bool) : Word := if is32 then 0x003F7FD5 else 0x00007FD5

/-- The general registers after a switch: a 16-bit TSS keeps their upper halves (R440). -/
def taskRegs (is32 : Bool) (old new : Regs) : Regs :=
  if is32 then new
  else
    { eax := merge .w old.eax new.eax, ecx := merge .w old.ecx new.ecx, edx := merge .w old.edx new.edx,
      ebx := merge .w old.ebx new.ebx, esp := merge .w old.esp new.esp, ebp := merge .w old.ebp new.ebp,
      esi := merge .w old.esi new.esi, edi := merge .w old.edi new.edi }

/-- Step 5: the commit (R440). Each segment register and LDTR holds its new selector with a null cache until it is validated
(R443, log 23). -/
def State.commitTask (s : State) (sel : Half) (d : Quad) (kind : TaskKind) (t : TssImage) : State :=
  let is32 := isTss32 d
  let f := s.flags.write t.eflags (taskFlagsMask is32)
  { s with
    tr := { selector := sel, base := descBase d, limit := descLimit d, is32 := is32 }
    cr0 := s.cr0 ||| 8
    cr3 := if is32 then t.cr3 else s.cr3
    eip := t.eip
    flags := if kind.links then { f with nt := true } else f
    regs := taskRegs is32 s.regs t.regs
    ldtr := { selector := t.ldt, base := 0, limit := 0, null := true }
    es := SegReg.nullOf t.es false
    cs := SegReg.nullOf t.cs false
    ss := SegReg.nullOf t.ss true
    ds := SegReg.nullOf t.ds false
    fs := SegReg.nullOf t.fs false
    gs := SegReg.nullOf t.gs false }

/-! ## The new task's segments (R443) -/

/-- R443 item 1, and the load of LLDT: LDTR <- the descriptor's base and limit. -/
def writeLdtr (sel : Half) (d : Quad) : M Unit :=
  modS fun s => { s with ldtr := { selector := sel, base := descBase d, limit := descLimit d, null := false } }

/-- R443 item 1. -/
def taskLdtr (sel : Half) : M Unit := do
  if selIndex sel = 0 then pure ()
  else
    raiseIf (selTI sel = true) (Exc.ts (selCode sel))
    let d ← descRead sel vTS
    raiseIf (descS d = true ∨ descType d ≠ 2) (Exc.ts (selCode sel))
    raiseIf (descP d = false) (Exc.ts (selCode sel))
    writeLdtr sel d

/-- R443 item 2. -/
def taskCs (sel : Half) : M Unit := do
  raiseIf (selIndex sel = 0) (Exc.ts (selCode sel))
  let d ← descRead sel vTS
  raiseIf (descS d = false ∨ descCode d = false) (Exc.ts (selCode sel))
  raiseIf (descConforming d = false ∧ descDPL d ≠ selRPL sel) (Exc.ts (selCode sel))
  raiseIf (descConforming d = true ∧ (selRPL sel).toNat < (descDPL d).toNat) (Exc.ts (selCode sel))
  raiseIf (descP d = false) (Exc.np (selCode sel))
  snapshot .cs sel d

/-- R443 item 3. -/
def taskSs (sel : Half) : M Unit := do
  raiseIf (selIndex sel = 0) (Exc.ts 0)
  let d ← descRead sel vTS
  let s ← getS
  raiseIf (selRPL sel ≠ s.cpl ∨ descDPL d ≠ s.cpl ∨ isWritableData d = false) (Exc.ts (selCode sel))
  raiseIf (descP d = false) (Exc.ss (selCode sel))
  snapshot .ss sel d

/-- Step 6: the new task's segments in order (R443). -/
def loadTaskSegments (t : TssImage) : M Unit := do
  taskLdtr t.ldt
  taskCs t.cs
  taskSs t.ss
  loadData vTS .ds t.ds
  loadData vTS .es t.es
  loadData vTS .fs t.fs
  loadData vTS .gs t.gs

/-- Mark an abort's exception as one whose handler sees the new task (R443, log 17). -/
def Abort.inNewTask : Abort → Abort
  | .exc e => .exc { e with newTask := true }
  | .stop r => .stop r

/-- Run the loads of the new task's segments, marking what they raise. -/
def inNewTask (m : M Unit) : M Unit := fun s =>
  match m s with
  | .ok u s' => .ok u s'
  | .error a s' => .error a.inNewTask s'

/-- TaskSwitch(sel, kind, ret) (R440). -/
def taskSwitch (sel : Half) (kind : TaskKind) (ret : Word) : M Unit := do
  let d ← checkNewTss sel kind
  let vs ← readFields (descBase d) (tssFields (isTss32 d))
  let t := tssImage (isTss32 d) vs
  if isTss32 d && t.eflags.getLsbD 17 then refuse .virtual8086Task
  else
    let s ← getS
    let image := s.flags.image &&& (if kind = .iret then 0xFFFFBFFF else 0xFFFFFFFF)
    writeFields s.tr.base (savedFields s ret image)
    moveBusy sel d kind
    modS fun s => s.commitTask sel d kind t
    inNewTask (loadTaskSegments t)

end Sys2Proof.Machine
end

