-- ==== Sys2Proof/Machine/Ops.lean ====
section
/-! DEFINITION. Taking an exception or an interrupt as one shared operation, the escalation to a double and a triple fault,
the return from an exception, and how an instruction's body becomes an outcome (spec/60_exceptions.md sections 2 and 3,
spec/46_control.md R331 to R335). -/

namespace Sys2Proof.Machine

/-! ## Delivery in real mode (spec/60_exceptions.md R420) -/

/-- The linear address of an entry of the real-mode interrupt table (R420). -/
def ivtAddr (v : Byte) : Word := v.setWidth 32 <<< 2

/-- DeliverReal(v, ret) (R420). -/
def deliverReal (v : Byte) (ret : Word) : M Unit := do
  let s ← getS
  stage .o16 0 [s.flags.image, s.cs.selector.setWidth 32, ret]
  let off ← linRead (ivtAddr v) 2 (accSys .read)
  let sel ← linRead (ivtAddr v + 2) 2 (accSys .read)
  moveSp (-6)
  modFlags fun f => { f with ifl := false, tf := false }
  loadReal .cs (sel.setWidth 16)
  writeEip (off.setWidth 32)

/-! ## Delivery in protected mode (spec/60_exceptions.md R421 to R424, R430) -/

/-- The source of an event (R411). -/
inductive Src where
  | exception
  | software
  | external
  deriving DecidableEq, Repr

/-- The IDT form of an error code, EXT aside (R402). -/
def idtCode (v : Byte) : Half := (v.setWidth 16 <<< 3) ||| 2

/-- The values an error code adds to a push (R422, R423). -/
def errWords : Option Half → List Word
  | none => []
  | some c => [c.setWidth 32]

/-- FlagsOnEntry(g) (R424). -/
def flagsOnEntry (g : Quad) (f : Flags) : Flags :=
  { f with
    tf := false, nt := false, rf := false, vm := false
    ifl := if descType g = 6 ∨ descType g = 0xE then false else f.ifl }

/-- SameDelivery (R422). -/
def sameDelivery (g : Quad) (tsel : Half) (d : Quad) (off : Word) (o : OSize) (err : Option Half) (ret : Word) : M Unit := do
  let s ← getS
  let cs ← selectorAt o s.cs.selector
  let vs := [s.flags.image, cs, ret] ++ errWords err
  stage o 0 vs
  moveSp (-(BitVec.ofNat 32 (vs.length * o.bytes)))
  enterCs tsel s.cpl d off
  modFlags (flagsOnEntry g)

/-- InnerStack(n): the stack of level n from the current TSS, validated (R423). -/
def innerStack (n : BitVec 2) : M (Half × Word × Quad) := do
  let s ← getS
  let w := if s.tr.is32 then 4 else 2
  let o := if s.tr.is32 then 4 + 8 * n.toNat else 2 + 4 * n.toNat
  raiseIf (s.tr.limit.toNat < o + w + 1) (Exc.ts (selCode s.tr.selector))
  let nesp ← sysRead (s.tr.base + BitVec.ofNat 32 o) w
  let nssQ ← sysRead (s.tr.base + BitVec.ofNat 32 (o + w)) 2
  let nss : Half := nssQ.setWidth 16
  raiseIf (selIndex nss = 0) (Exc.ts 0)
  let ds ← descRead nss vTS
  raiseIf (selRPL nss ≠ n ∨ isWritableData ds = false ∨ descDPL ds ≠ n) (Exc.ts (selCode nss))
  raiseIf (descP ds = false) (Exc.ss (selCode nss))
  pure (nss, nesp.setWidth 32, ds)

/-- The commit of a stack switch: SS <- nss with Snapshot(ds); ESP <- esp (R423, spec/46_control.md R329). -/
def enterStack (nss : Half) (ds : Quad) (esp : Word) : M Unit := do
  snapshot .ss nss ds
  writeReg .d .esp esp

/-- InnerDelivery (R423). -/
def innerDelivery (g : Quad) (tsel : Half) (d : Quad) (off : Word) (o : OSize) (err : Option Half) (ret : Word) : M Unit := do
  let n := descDPL d
  let st ← innerStack n
  let s ← getS
  let ss ← selectorAt o s.ss.selector
  let cs ← selectorAt o s.cs.selector
  let vs := [ss, s.regs.esp, s.flags.image, cs, ret] ++ errWords err
  stageVia (Exc.ss (selCode st.1)) (cacheOf st.2.2 true (selRPL st.1)) n st.2.1 o 0 vs
  enterStack st.1 st.2.2 (newEsp (cacheOf st.2.2 true (selRPL st.1)) s.regs.esp st.2.1 (vs.length * o.bytes))
  enterCs tsel n d off
  modFlags (flagsOnEntry g)

/-- The operand size of the current task's TSS (R430). -/
def State.taskSize (s : State) : OSize := if s.tr.is32 then .o32 else .o16

/-- TaskGateDelivery(g, err, ret) (R430). -/
def taskGateDelivery (g : Quad) (err : Option Half) (ret : Word) : M Unit := do
  taskSwitch (gateSelector g) .int ret
  let s ← getS
  match err with
  | none => pure ()
  | some c => push s.taskSize (c.setWidth 32)

/-- A gate the IDT may hold (R421). -/
def isIdtGate (g : Quad) : Bool :=
  !descS g &&
    (descType g == 5 || descType g == 6 || descType g == 7 || descType g == 0xE || descType g == 0xF)

/-- The delivery through an interrupt or trap gate (R421, its last part). -/
def gateDelivery (g : Quad) (err : Option Half) (ret : Word) : M Unit := do
  let tsel := gateSelector g
  raiseIf (selIndex tsel = 0) (Exc.gp 0)
  let d ← descRead tsel vGP
  let s ← getS
  raiseIf (descS d = false ∨ descCode d = false ∨ s.cpl.toNat < (descDPL d).toNat) (Exc.gp (selCode tsel))
  raiseIf (descP d = false) (Exc.np (selCode tsel))
  raiseIf ((descLimit d).toNat < (gateOffset g).toNat) (Exc.gp 0)
  if !descConforming d && decide ((descDPL d).toNat < s.cpl.toNat) then
    innerDelivery g tsel d (gateOffset g) (gateSize g) err ret
  else sameDelivery g tsel d (gateOffset g) (gateSize g) err ret

/-- DeliverProtected(v, src, err, ret) (R421). -/
def deliverProtected (v : Byte) (src : Src) (err : Option Half) (ret : Word) : M Unit := do
  let s ← getS
  raiseIf (s.idtr.limit.toNat < v.toNat * 8 + 7) (Exc.gp (idtCode v))
  let g ← sysRead (s.idtr.base + BitVec.ofNat 32 (v.toNat * 8)) 8
  raiseIf (isIdtGate g = false) (Exc.gp (idtCode v))
  raiseIf (src = .software ∧ (descDPL g).toNat < s.cpl.toNat) (Exc.gp (idtCode v))
  raiseIf (descP g = false) (Exc.np (idtCode v))
  if descType g = 5 then taskGateDelivery g err ret else gateDelivery g err ret

/-! ## Delivery and escalation (spec/60_exceptions.md R402, R410 to R413) -/

/-- The codes of #TS, #NP, #SS and #GP get EXT; #PF's does not (R402). -/
def Exc.withExt (e : Exc) : Exc :=
  if e.vector = 10 ∨ e.vector = 11 ∨ e.vector = 12 ∨ e.vector = 13 then { e with err := e.err.map fun c => c ||| 1 } else e

/-- The same of an abort. -/
def Abort.withExt : Abort → Abort
  | .exc e => .exc e.withExt
  | .stop r => .stop r

/-- EXT is 1 exactly while an external interrupt is being delivered (R402, log 24). -/
def underExt (src : Src) (m : M Unit) : M Unit := fun s =>
  match m s with
  | .ok u s' => .ok u s'
  | .error a s' => .error (if src = .external then a.withExt else a) s'

/-- The class of an event (R412). -/
def classOf (v : Byte) (src : Src) : EventClass :=
  match src with
  | .software => .benign
  | .external => .benign
  | .exception =>
    if v = 8 then .doubleFault
    else if v = 14 then .pageFault
    else if v = 0 ∨ v = 10 ∨ v = 11 ∨ v = 12 ∨ v = 13 then .contributory
    else .benign

/-- Set the delivery path's state (R52, R411). -/
def State.deliverOn (s : State) (on : Bool) (c : EventClass) : State :=
  { s with delivering := on, deliveringClass := c }

/-- The steps of Deliver(v, src, err, ret) up to its own handling of an exception (R411). -/
def deliver (v : Byte) (src : Src) (err : Option Half) (ret : Word) : M Unit := do
  modS fun s => s.deliverOn true (classOf v src)
  underExt src do
    let s ← getS
    if s.pe then deliverProtected v src err ret else deliverReal v ret
  modS fun s => s.deliverOn false (classOf v src)

/-- What an exception e2 raised while an event of class c is delivered leads to (R412). -/
inductive Escalation where
  | deliver
  | doubleFault
  | tripleFault
  deriving DecidableEq, Repr

/-- The escalation table (R412): e1's class, then e2's. -/
def escalate : EventClass → EventClass → Escalation
  | .benign, _ => .deliver
  | .contributory, .contributory => .doubleFault
  | .contributory, _ => .deliver
  | .pageFault, .contributory => .doubleFault
  | .pageFault, .pageFault => .doubleFault
  | .pageFault, _ => .deliver
  | .doubleFault, _ => .tripleFault

/-- The registers of s0 with what stays of s1 when s1's instruction or delivery is rolled back: memory, CR2, what devices
have seen, and the free values taken (R410 step 1, spec/20_memory.md R116). -/
def State.keepStores (s0 s1 : State) : State :=
  { s0 with
    mem := s1.mem, cr2 := s1.cr2, events := s1.events, draws := s1.draws, delivering := false,
    deliveringClass := s1.deliveringClass }

/-- The state a handler is entered from: the one before the event, stores kept; or the new task's, for a fault of a task
switch's last step (R410, R412, R443, log 17). -/
def handlerBase (e : Exc) (s0 s1 : State) : State :=
  if e.newTask then s1.deliverOn false s1.deliveringClass else s0.keepStores s1

/-- Set shutdown (R413). -/
def State.shutDown (s : State) : State := { s with shutdown := true }

/-- Deliver an event to the end: through it, or through what its delivery escalates to: another exception, which returns to
where the first event would have (log 16), or #DF, which returns to the base EIP (R411, R412). The bound is never met
(log 25). -/
def deliverChain : Nat → Byte → Src → Option Half → Word → State → Host.Outcome State Fault Refusal
  | 0, _, _, _, _, _ => .fault .deliveryChain
  | k + 1, v, src, err, ret, s0 =>
    match deliver v src err ret s0 with
    | .ok _ s1 => .next s1
    | .error (.stop r) _ => .refused r
    | .error (.exc e) s1 =>
      let b := handlerBase e s0 s1
      match escalate (classOf v src) (classOf e.vector .exception) with
      | .deliver => deliverChain k e.vector .exception e.err b.eip b
      | .doubleFault => deliverChain k 8 .exception (some 0) b.baseEip b
      | .tripleFault => .next b.shutDown

/-- The bound of deliverChain (log 25). -/
def chainBound : Nat := 8

/-- Deliver an event raised at a boundary (R425, R426). -/
def deliverEvent (v : Byte) (src : Src) (err : Option Half) (ret : Word) (s : State) : Host.Outcome State Fault Refusal :=
  deliverChain chainBound v src err ret s

/-- TAKING AN EXCEPTION raised by the instruction that started in s0 (its bytes fetched): registers rolled back, EIP reset to
the base EIP, the exception delivered (R410). -/
def takeException (e : Exc) (s0 s1 : State) : Host.Outcome State Fault Refusal :=
  let b := handlerBase e (s0.withEip s0.baseEip) s1
  deliverEvent e.vector .exception e.err b.eip b

/-- One more instruction completed (spec/10_state.md R50). -/
def State.count (s : State) : State := { s with cycles := s.cycles + 1 }

/-- Run an instruction's body: it completes, or its exception is taken, or it is refused (R410, R427 (c)). -/
def run (body : M Unit) (s : State) : Host.Outcome State Fault Refusal :=
  match body s with
  | .ok _ s1 => .next s1.count
  | .error (.exc e) s1 => takeException e s s1
  | .error (.stop r) _ => .refused r

/-! ## The return from an exception (spec/46_control.md R331 to R335) -/

/-- The bits POPF writes (spec/45_data_flags_stack.md R294). -/
def popfMask (pe : Bool) (cpl iopl : BitVec 2) (o : OSize) : Word :=
  0x00004DD5 |||
    (if !pe || cpl == 0 then 0x3000 else 0) |||
    (if !pe || decide (cpl.toNat ≤ iopl.toNat) then 0x0200 else 0) |||
    (match o with | .o16 => 0 | .o32 => 0x00250000)

/-- M_iret: the bits IRET writes (spec/46_control.md R334). -/
def iretMask (pe : Bool) (cpl iopl : BitVec 2) (o : OSize) : Word :=
  popfMask pe cpl iopl o ||| (match o with | .o16 => 0 | .o32 => if cpl == 0 then 0x00180000 else 0)

/-- WriteEFLAGS(v, m) (spec/10_state.md R33). -/
def writeFlags (v m : Word) : M Unit := modFlags fun f => f.write v m

/-- The CS checks of a return to sel:off (spec/46_control.md R331). -/
def checkReturnCs (sel : Half) (off : Word) : M Quad := do
  raiseIf (selIndex sel = 0) (Exc.gp 0)
  let d ← descRead sel vGP
  let s ← getS
  raiseIf (descS d = false ∨ descCode d = false) (Exc.gp (selCode sel))
  raiseIf ((selRPL sel).toNat < s.cpl.toNat) (Exc.gp (selCode sel))
  raiseIf (descConforming d = true ∧ (selRPL sel).toNat < (descDPL d).toNat) (Exc.gp (selCode sel))
  raiseIf (descConforming d = false ∧ descDPL d ≠ selRPL sel) (Exc.gp (selCode sel))
  raiseIf (descP d = false) (Exc.np (selCode sel))
  raiseIf ((descLimit d).toNat < off.toNat) (Exc.gp 0)
  pure d

/-- One register of ZeroStaleSegments: null, when its cache is not null and its DPL is below the new CPL
(spec/46_control.md R333). -/
def State.zeroStale (s : State) (g : SReg) : State :=
  if !(s.seg g).cache.null && decide ((s.seg g).cache.dpl.toNat < s.cpl.toNat) then s.setSeg g (SegReg.nullOf 0 false) else s

/-- ZeroStaleSegments() (spec/46_control.md R333). -/
def zeroStaleSegments : M Unit := modS fun s => (((s.zeroStale .ds).zeroStale .es).zeroStale .fs).zeroStale .gs

/-- OuterReturn: `k` is how far above SP_w the outer ESP and SS stand, `extra` what RETF adds to the outer ESP,
`flags` the EFLAGS write of IRET (spec/46_control.md R332). -/
def outerReturn (o : OSize) (k : Nat) (extra : Word) (sel : Half) (d : Quad) (off : Word) (flags : M Unit) : M Unit := do
  let nesp ← peek o k
  let nssW ← peek o (k + o.bytes)
  let nss : Half := nssW.setWidth 16
  let r := selRPL sel
  raiseIf (selIndex nss = 0) (Exc.gp 0)
  let ds ← descRead nss vGP
  raiseIf (selRPL nss ≠ r ∨ isWritableData ds = false ∨ descDPL ds ≠ r) (Exc.gp (selCode nss))
  raiseIf (descP ds = false) (Exc.ss (selCode nss))
  snapshot .cs sel d
  writeEip off
  flags
  snapshot .ss nss ds
  modS fun s => s.putReg .d .esp (merge (if descDB ds then .d else .w) s.regs.esp nesp + extra)
  zeroStaleSegments

/-- RETF (spec/46_control.md R331): `extra` is the imm16. -/
def farReturn (o : OSize) (extra : Word) : M Unit := do
  let s ← getS
  let off ← peek o 0
  let selW ← peek o o.bytes
  let sel : Half := selW.setWidth 16
  if !s.pe then
    loadReal .cs sel
    setEip o off
    moveSp (BitVec.ofNat 32 (2 * o.bytes) + extra)
  else
    let off' := cutTarget o off
    let d ← checkReturnCs sel off'
    if selRPL sel = s.cpl then
      snapshot .cs sel d
      writeEip off'
      moveSp (BitVec.ofNat 32 (2 * o.bytes) + extra)
    else outerReturn o (2 * o.bytes + extra.toNat) extra sel d off' (pure ())

/-- THE RETURN FROM AN EXCEPTION: IRET / IRETD (spec/46_control.md R334). -/
def interruptReturn (o : OSize) : M Unit := do
  let s ← getS
  let mask := iretMask s.pe s.cpl s.flags.iopl o
  if s.pe && s.flags.nt then
    let link ← sysRead s.tr.base 2
    taskSwitch (link.setWidth 16) .iret s.eip
  else
    let off ← peek o 0
    let selW ← peek o o.bytes
    let fl ← peek o (2 * o.bytes)
    let sel : Half := selW.setWidth 16
    if !s.pe then
      loadReal .cs sel
      setEip o off
      writeFlags fl mask
      moveSp (BitVec.ofNat 32 (3 * o.bytes))
    else if o = .o32 ∧ fl.getLsbD 17 = true ∧ s.cpl = 0 then refuse .virtual8086Return
    else
      let off' := cutTarget o off
      let d ← checkReturnCs sel off'
      if selRPL sel = s.cpl then
        snapshot .cs sel d
        writeEip off'
        writeFlags fl mask
        moveSp (BitVec.ofNat 32 (3 * o.bytes))
      else outerReturn o (3 * o.bytes) 0 sel d off' (writeFlags fl mask)

end Sys2Proof.Machine
end

