-- ==== Sys2Proof/Machine/Alu.lean ====
section
/-! DEFINITION. The operations the arithmetic, logic and shift instructions share: binary and unary operations on operand
places (spec/40_alu_arith.md R202), shifts by a count (spec/42_alu_shift_rotate.md R240). -/

namespace Sys2Proof.Machine

/-- The binary operations of spec/40_alu_arith.md R202 and TEST. -/
inductive BinOp where
  | add | or | adc | sbb | and | sub | xor | cmp | test
  deriving DecidableEq, Repr

/-- CMP and TEST do not write their destination (spec/40_alu_arith.md R207, spec/41_alu_logic.md R234). -/
def BinOp.writes : BinOp → Bool
  | .add | .or | .adc | .sbb | .and | .sub | .xor => true
  | .cmp | .test => false

/-- CF as it stands. -/
def readCF : M Bool := do
  let s ← getS
  pure s.flags.cf

/-- The result and the flags of a binary operation of a and b at width w (spec/40_alu_arith.md R203 to R207,
spec/41_alu_logic.md R231 to R234). -/
def binValue (op : BinOp) (sz : Size) (a b : Word) : M Word :=
  match op with
  | .add => addOp sz a b false
  | .adc => do
    let c ← readCF
    addOp sz a b c
  | .sub => subOp sz a b false
  | .sbb => do
    let c ← readCF
    subOp sz a b c
  | .cmp => subOp sz a b false
  | .and => logicOp sz (a &&& b)
  | .or => logicOp sz (a ||| b)
  | .xor => logicOp sz (a ^^^ b)
  | .test => logicOp sz (a &&& b)

/-- A binary instruction: a memory destination that is written is one read-modify-write (spec/40_alu_arith.md R202,
spec/20_memory.md R115). -/
def binary (op : BinOp) (sz : Size) (dst : Loc) (src : Source) : M Unit :=
  if op.writes then do
    let o ← openLoc sz dst
    let b ← readSrc sz src
    let a ← readOpened sz o
    let r ← binValue op sz a b
    writeOpened sz r o
  else do
    let a ← readLoc sz dst
    let b ← readSrc sz src
    let _ ← binValue op sz a b
    pure ()

/-- The unary operations on a destination (spec/40_alu_arith.md R208 to R210, spec/41_alu_logic.md R235). -/
inductive UnOp where
  | inc | dec | neg | not
  deriving DecidableEq, Repr

/-- Put CF back (spec/40_alu_arith.md R208, R209). -/
def keepCF (old : Bool) : M Unit := modFlags fun f => { f with cf := old }

/-- The result and the flags of a unary operation. -/
def unValue (op : UnOp) (sz : Size) (a : Word) : M Word :=
  match op with
  | .inc => do
    let old ← readCF
    let r ← addOp sz a 1 false
    keepCF old
    pure r
  | .dec => do
    let old ← readCF
    let r ← subOp sz a 1 false
    keepCF old
    pure r
  | .neg => subOp sz 0 a false
  | .not => pure (cut sz (~~~a))

/-- A unary instruction: a read-modify-write of its destination. -/
def unary (op : UnOp) (sz : Size) (dst : Loc) : M Unit := modifyLoc sz dst (unValue op sz)

/-- A shift or rotate of a destination by a count (spec/42_alu_shift_rotate.md R240). -/
def shiftLoc (op : ShiftOp) (sz : Size) (dst : Loc) (count : Source) : M Unit := do
  let c ← readSrc .b count
  modifyLoc sz dst fun a => shiftOp op sz a c

/-- An imm8 used as an 8-bit value (spec/30_encoding.md R154). -/
def immByte (i : Byte) : Source := .imm (i.setWidth 32)

/-- An imm8 sign-extended to the operand size (spec/30_encoding.md R154). -/
def immSx8 (o : OSize) (i : Byte) : Source := .imm (sextByte o.size i)

/-- The count 1 (spec/42_alu_shift_rotate.md R240). -/
def countOne : Source := .imm 1

/-- The count in CL (spec/42_alu_shift_rotate.md R240). -/
def countCl : Source := .loc (.reg8 .cl)

end Sys2Proof.Machine
end

