-- ==== Sys2Proof/Machine/Arith.lean ====
section
/-! DEFINITION. The meanings of ADD, ADC, SUB, SBB, CMP, INC, DEC and NEG (spec/40_alu_arith.md). -/

namespace Sys2Proof.Machine

/-- ADD r/m8, r8 (R203). -/
def execAddRm8R8 (m : Rm8) (r : Reg8) (s : State) : Host.Outcome State Fault Refusal :=
  run (binary .add .b (rm8 m s) (.loc (.reg8 r))) s

/-- ADD r/mv, rv (R203). -/
def execAddRmvRv (o : OSize) (m : Rm) (r : Reg) (s : State) : Host.Outcome State Fault Refusal :=
  run (binary .add o.size (rmv m s) (.loc (.reg r))) s

/-- ADD r8, r/m8 (R203). -/
def execAddR8Rm8 (r : Reg8) (m : Rm8) (s : State) : Host.Outcome State Fault Refusal :=
  run (binary .add .b (.reg8 r) (.loc (rm8 m s))) s

/-- ADD rv, r/mv (R203). -/
def execAddRvRmv (o : OSize) (r : Reg) (m : Rm) (s : State) : Host.Outcome State Fault Refusal :=
  run (binary .add o.size (.reg r) (.loc (rmv m s))) s

/-- ADD AL, imm8 (R203). -/
def execAddAlImm8 (i : Byte) (s : State) : Host.Outcome State Fault Refusal := run (binary .add .b (.reg8 .al) (immByte i)) s

/-- ADD eAX, immv (R203). -/
def execAddEaxImmv (i : ImmV) (s : State) : Host.Outcome State Fault Refusal :=
  run (binary .add i.osize.size (.reg .eax) (.imm (immVal i))) s

/-- ADD r/m8, imm8 (R203). -/
def execAddRm8Imm8 (m : Rm8) (i : Byte) (s : State) : Host.Outcome State Fault Refusal :=
  run (binary .add .b (rm8 m s) (immByte i)) s

/-- ADD r/mv, immv (R203). -/
def execAddRmvImmv (m : Rm) (i : ImmV) (s : State) : Host.Outcome State Fault Refusal :=
  run (binary .add i.osize.size (rmv m s) (.imm (immVal i))) s

/-- ADD r/mv, sign-extended imm8 (R203). -/
def execAddRmvSx8 (o : OSize) (m : Rm) (i : Byte) (s : State) : Host.Outcome State Fault Refusal :=
  run (binary .add o.size (rmv m s) (immSx8 o i)) s

/-- ADC r/m8, r8 (R204). -/
def execAdcRm8R8 (m : Rm8) (r : Reg8) (s : State) : Host.Outcome State Fault Refusal :=
  run (binary .adc .b (rm8 m s) (.loc (.reg8 r))) s

/-- ADC r/mv, rv (R204). -/
def execAdcRmvRv (o : OSize) (m : Rm) (r : Reg) (s : State) : Host.Outcome State Fault Refusal :=
  run (binary .adc o.size (rmv m s) (.loc (.reg r))) s

/-- ADC r8, r/m8 (R204). -/
def execAdcR8Rm8 (r : Reg8) (m : Rm8) (s : State) : Host.Outcome State Fault Refusal :=
  run (binary .adc .b (.reg8 r) (.loc (rm8 m s))) s

/-- ADC rv, r/mv (R204). -/
def execAdcRvRmv (o : OSize) (r : Reg) (m : Rm) (s : State) : Host.Outcome State Fault Refusal :=
  run (binary .adc o.size (.reg r) (.loc (rmv m s))) s

/-- ADC AL, imm8 (R204). -/
def execAdcAlImm8 (i : Byte) (s : State) : Host.Outcome State Fault Refusal := run (binary .adc .b (.reg8 .al) (immByte i)) s

/-- ADC eAX, immv (R204). -/
def execAdcEaxImmv (i : ImmV) (s : State) : Host.Outcome State Fault Refusal :=
  run (binary .adc i.osize.size (.reg .eax) (.imm (immVal i))) s

/-- ADC r/m8, imm8 (R204). -/
def execAdcRm8Imm8 (m : Rm8) (i : Byte) (s : State) : Host.Outcome State Fault Refusal :=
  run (binary .adc .b (rm8 m s) (immByte i)) s

/-- ADC r/mv, immv (R204). -/
def execAdcRmvImmv (m : Rm) (i : ImmV) (s : State) : Host.Outcome State Fault Refusal :=
  run (binary .adc i.osize.size (rmv m s) (.imm (immVal i))) s

/-- ADC r/mv, sign-extended imm8 (R204). -/
def execAdcRmvSx8 (o : OSize) (m : Rm) (i : Byte) (s : State) : Host.Outcome State Fault Refusal :=
  run (binary .adc o.size (rmv m s) (immSx8 o i)) s

/-- SUB r/m8, r8 (R205). -/
def execSubRm8R8 (m : Rm8) (r : Reg8) (s : State) : Host.Outcome State Fault Refusal :=
  run (binary .sub .b (rm8 m s) (.loc (.reg8 r))) s

/-- SUB r/mv, rv (R205). -/
def execSubRmvRv (o : OSize) (m : Rm) (r : Reg) (s : State) : Host.Outcome State Fault Refusal :=
  run (binary .sub o.size (rmv m s) (.loc (.reg r))) s

/-- SUB r8, r/m8 (R205). -/
def execSubR8Rm8 (r : Reg8) (m : Rm8) (s : State) : Host.Outcome State Fault Refusal :=
  run (binary .sub .b (.reg8 r) (.loc (rm8 m s))) s

/-- SUB rv, r/mv (R205). -/
def execSubRvRmv (o : OSize) (r : Reg) (m : Rm) (s : State) : Host.Outcome State Fault Refusal :=
  run (binary .sub o.size (.reg r) (.loc (rmv m s))) s

/-- SUB AL, imm8 (R205). -/
def execSubAlImm8 (i : Byte) (s : State) : Host.Outcome State Fault Refusal := run (binary .sub .b (.reg8 .al) (immByte i)) s

/-- SUB eAX, immv (R205). -/
def execSubEaxImmv (i : ImmV) (s : State) : Host.Outcome State Fault Refusal :=
  run (binary .sub i.osize.size (.reg .eax) (.imm (immVal i))) s

/-- SUB r/m8, imm8 (R205). -/
def execSubRm8Imm8 (m : Rm8) (i : Byte) (s : State) : Host.Outcome State Fault Refusal :=
  run (binary .sub .b (rm8 m s) (immByte i)) s

/-- SUB r/mv, immv (R205). -/
def execSubRmvImmv (m : Rm) (i : ImmV) (s : State) : Host.Outcome State Fault Refusal :=
  run (binary .sub i.osize.size (rmv m s) (.imm (immVal i))) s

/-- SUB r/mv, sign-extended imm8 (R205). -/
def execSubRmvSx8 (o : OSize) (m : Rm) (i : Byte) (s : State) : Host.Outcome State Fault Refusal :=
  run (binary .sub o.size (rmv m s) (immSx8 o i)) s

/-- SBB r/m8, r8 (R206). -/
def execSbbRm8R8 (m : Rm8) (r : Reg8) (s : State) : Host.Outcome State Fault Refusal :=
  run (binary .sbb .b (rm8 m s) (.loc (.reg8 r))) s

/-- SBB r/mv, rv (R206). -/
def execSbbRmvRv (o : OSize) (m : Rm) (r : Reg) (s : State) : Host.Outcome State Fault Refusal :=
  run (binary .sbb o.size (rmv m s) (.loc (.reg r))) s

/-- SBB r8, r/m8 (R206). -/
def execSbbR8Rm8 (r : Reg8) (m : Rm8) (s : State) : Host.Outcome State Fault Refusal :=
  run (binary .sbb .b (.reg8 r) (.loc (rm8 m s))) s

/-- SBB rv, r/mv (R206). -/
def execSbbRvRmv (o : OSize) (r : Reg) (m : Rm) (s : State) : Host.Outcome State Fault Refusal :=
  run (binary .sbb o.size (.reg r) (.loc (rmv m s))) s

/-- SBB AL, imm8 (R206). -/
def execSbbAlImm8 (i : Byte) (s : State) : Host.Outcome State Fault Refusal := run (binary .sbb .b (.reg8 .al) (immByte i)) s

/-- SBB eAX, immv (R206). -/
def execSbbEaxImmv (i : ImmV) (s : State) : Host.Outcome State Fault Refusal :=
  run (binary .sbb i.osize.size (.reg .eax) (.imm (immVal i))) s

/-- SBB r/m8, imm8 (R206). -/
def execSbbRm8Imm8 (m : Rm8) (i : Byte) (s : State) : Host.Outcome State Fault Refusal :=
  run (binary .sbb .b (rm8 m s) (immByte i)) s

/-- SBB r/mv, immv (R206). -/
def execSbbRmvImmv (m : Rm) (i : ImmV) (s : State) : Host.Outcome State Fault Refusal :=
  run (binary .sbb i.osize.size (rmv m s) (.imm (immVal i))) s

/-- SBB r/mv, sign-extended imm8 (R206). -/
def execSbbRmvSx8 (o : OSize) (m : Rm) (i : Byte) (s : State) : Host.Outcome State Fault Refusal :=
  run (binary .sbb o.size (rmv m s) (immSx8 o i)) s

/-- CMP r/m8, r8 (R207). -/
def execCmpRm8R8 (m : Rm8) (r : Reg8) (s : State) : Host.Outcome State Fault Refusal :=
  run (binary .cmp .b (rm8 m s) (.loc (.reg8 r))) s

/-- CMP r/mv, rv (R207). -/
def execCmpRmvRv (o : OSize) (m : Rm) (r : Reg) (s : State) : Host.Outcome State Fault Refusal :=
  run (binary .cmp o.size (rmv m s) (.loc (.reg r))) s

/-- CMP r8, r/m8 (R207). -/
def execCmpR8Rm8 (r : Reg8) (m : Rm8) (s : State) : Host.Outcome State Fault Refusal :=
  run (binary .cmp .b (.reg8 r) (.loc (rm8 m s))) s

/-- CMP rv, r/mv (R207). -/
def execCmpRvRmv (o : OSize) (r : Reg) (m : Rm) (s : State) : Host.Outcome State Fault Refusal :=
  run (binary .cmp o.size (.reg r) (.loc (rmv m s))) s

/-- CMP AL, imm8 (R207). -/
def execCmpAlImm8 (i : Byte) (s : State) : Host.Outcome State Fault Refusal := run (binary .cmp .b (.reg8 .al) (immByte i)) s

/-- CMP eAX, immv (R207). -/
def execCmpEaxImmv (i : ImmV) (s : State) : Host.Outcome State Fault Refusal :=
  run (binary .cmp i.osize.size (.reg .eax) (.imm (immVal i))) s

/-- CMP r/m8, imm8 (R207). -/
def execCmpRm8Imm8 (m : Rm8) (i : Byte) (s : State) : Host.Outcome State Fault Refusal :=
  run (binary .cmp .b (rm8 m s) (immByte i)) s

/-- CMP r/mv, immv (R207). -/
def execCmpRmvImmv (m : Rm) (i : ImmV) (s : State) : Host.Outcome State Fault Refusal :=
  run (binary .cmp i.osize.size (rmv m s) (.imm (immVal i))) s

/-- CMP r/mv, sign-extended imm8 (R207). -/
def execCmpRmvSx8 (o : OSize) (m : Rm) (i : Byte) (s : State) : Host.Outcome State Fault Refusal :=
  run (binary .cmp o.size (rmv m s) (immSx8 o i)) s

/-- INC rv, the register in the opcode (R208). -/
def execIncRv (o : OSize) (r : Reg) (s : State) : Host.Outcome State Fault Refusal := run (unary .inc o.size (.reg r)) s

/-- INC r/m8 (R208). -/
def execIncRm8 (m : Rm8) (s : State) : Host.Outcome State Fault Refusal := run (unary .inc .b (rm8 m s)) s

/-- INC r/mv (R208). -/
def execIncRmv (o : OSize) (m : Rm) (s : State) : Host.Outcome State Fault Refusal := run (unary .inc o.size (rmv m s)) s

/-- DEC rv, the register in the opcode (R209). -/
def execDecRv (o : OSize) (r : Reg) (s : State) : Host.Outcome State Fault Refusal := run (unary .dec o.size (.reg r)) s

/-- DEC r/m8 (R209). -/
def execDecRm8 (m : Rm8) (s : State) : Host.Outcome State Fault Refusal := run (unary .dec .b (rm8 m s)) s

/-- DEC r/mv (R209). -/
def execDecRmv (o : OSize) (m : Rm) (s : State) : Host.Outcome State Fault Refusal := run (unary .dec o.size (rmv m s)) s

/-- NEG r/m8 (R210). -/
def execNegRm8 (m : Rm8) (s : State) : Host.Outcome State Fault Refusal := run (unary .neg .b (rm8 m s)) s

/-- NEG r/mv (R210). -/
def execNegRmv (o : OSize) (m : Rm) (s : State) : Host.Outcome State Fault Refusal := run (unary .neg o.size (rmv m s)) s

end Sys2Proof.Machine
end

