-- ==== Sys2Proof/Machine/Bcd.lean ====
section
/-! DEFINITION. The meanings of DAA, DAS, AAA, AAS, AAM and AAD (spec/44_alu_bcd.md). -/

namespace Sys2Proof.Machine

/-- The undefined OF becomes a free value (spec/44_alu_bcd.md R270, R271). -/
def drawOF : M Unit := do
  let b ← drawBit
  modFlags fun f => { f with of := b }

/-- The undefined OF, AF and CF become free values (spec/44_alu_bcd.md R274, R275). -/
def drawOAC : M Unit := do
  let o ← drawBit
  let a ← drawBit
  let c ← drawBit
  modFlags fun f => { f with of := o, af := a, cf := c }

/-- The first test of DAA, DAS, AAA and AAS: the low digit of AL is above 9, or AF is set. -/
def lowAdjust (al : Word) (af : Bool) : Bool := decide (9 < (al &&& 0x0F).toNat) || af

/-- The second test of DAA and DAS: AL was above 0x99, or CF was set. -/
def highAdjust (al : Word) (cf : Bool) : Bool := decide (0x99 < al.toNat) || cf

/-- DAA (R270). -/
def decimalAdd : M Unit := do
  let s ← getS
  let al := s.regs.get8 .al
  let lo := lowAdjust al s.flags.af
  let hi := highAdjust al s.flags.cf
  let al1 := if lo then cut .b (al + 6) else al
  let al2 := if hi then cut .b (al1 + 0x60) else al1
  writeReg8 .al al2
  modFlags fun f => { f with cf := hi, af := lo }.setSZP al2 .b
  drawOF

/-- DAS (R271): a borrow of the first step survives. -/
def decimalSub : M Unit := do
  let s ← getS
  let al := s.regs.get8 .al
  let lo := lowAdjust al s.flags.af
  let hi := highAdjust al s.flags.cf
  let al1 := if lo then cut .b (al - 6) else al
  let al2 := if hi then cut .b (al1 - 0x60) else al1
  writeReg8 .al al2
  modFlags fun f => { f with cf := hi || (lo && (s.flags.cf || decide (al.toNat < 6))), af := lo }.setSZP al2 .b
  drawOF

/-- AAA and AAS: AL by `step` and AH by `carry`, once more where the editions differ and the free choice says so
(R272, R273). -/
def asciiAdjust (edge : Word → Bool) (step carry : Word) : M Unit := do
  let s ← getS
  let al := s.regs.get8 .al
  let ah := s.regs.get8 .ah
  let lo := lowAdjust al s.flags.af
  let twice ← drawBit
  whenM (lo = true) (writeReg8 .ah (if edge al && twice then ah + carry + carry else ah + carry))
  writeReg8 .al ((if lo then al + step else al) &&& 0x0F)
  modFlags fun f => { f with cf := lo, af := lo }
  drawOSZP

/-- AAM (R274). -/
def asciiMul (i : Byte) : M Unit := do
  raiseIf (i = 0) Exc.de
  let t ← readReg8 .al
  let q := BitVec.ofNat 32 (t.toNat / i.toNat)
  let r := BitVec.ofNat 32 (t.toNat % i.toNat)
  writeReg8 .ah q
  writeReg8 .al r
  modFlags fun f => f.setSZP r .b
  drawOAC

/-- AAD (R275). -/
def asciiDiv (i : Byte) : M Unit := do
  let s ← getS
  let r := truncNat .b ((s.regs.get8 .al).toNat + (s.regs.get8 .ah).toNat * i.toNat)
  writeReg8 .al r
  writeReg8 .ah 0
  modFlags fun f => f.setSZP r .b
  drawOAC

/-! ## The instructions -/

/-- DAA (R270). -/
def execDaa (s : State) : Host.Outcome State Fault Refusal := run decimalAdd s

/-- DAS (R271). -/
def execDas (s : State) : Host.Outcome State Fault Refusal := run decimalSub s

/-- AAA (R272). -/
def execAaa (s : State) : Host.Outcome State Fault Refusal := run (asciiAdjust (fun al => decide (0xFA ≤ al.toNat)) 6 1) s

/-- AAS (R273). -/
def execAas (s : State) : Host.Outcome State Fault Refusal := run (asciiAdjust (fun al => decide (al.toNat < 6)) (-6) (-1)) s

/-- AAM imm8, the base (R274). -/
def execAam (i : Byte) (s : State) : Host.Outcome State Fault Refusal := run (asciiMul i) s

/-- AAD imm8, the base (R275). -/
def execAad (i : Byte) (s : State) : Host.Outcome State Fault Refusal := run (asciiDiv i) s

end Sys2Proof.Machine
end

