-- ==== Sys2Proof/Machine/Transfer.lean ====
section
/-! DEFINITION. Far JMP and far CALL: direct, through a call gate, and to a task (spec/46_control.md R326 to R329). -/

namespace Sys2Proof.Machine

/-- The two pushes of a far CALL on the current stack, both checked before either commits: CS, then EIP (R326, R335). -/
def pushFarReturn (o : OSize) : M Unit := do
  let s ← getS
  let cs ← selectorAt o s.cs.selector
  stage o 0 [cs, s.eip]
  moveSp (-(BitVec.ofNat 32 (2 * o.bytes)))

/-- InnerCall(g, tsel, d, toff, gsize): all of ESP is written, on a 16-bit stack too (R329). -/
def innerCall (g : Quad) (tsel : Half) (d : Quad) : M Unit := do
  if gateCount g ≠ 0 then refuse .callGateParameters
  else
    let o := gateSize g
    let n := descDPL d
    let st ← innerStack n
    let s ← getS
    let ss ← selectorAt o s.ss.selector
    let cs ← selectorAt o s.cs.selector
    stageVia (Exc.ss 0) (cacheOf st.2.2 true (selRPL st.1)) n st.2.1 o 0 [ss, s.regs.esp, cs, s.eip]
    enterStack st.1 st.2.2 (st.2.1 - BitVec.ofNat 32 (4 * o.bytes))
    enterCs tsel n d (gateOffset g)

/-- GateTransfer(kind, gsel, g) (R328). -/
def gateTransfer (kind : TaskKind) (gsel : Half) (g : Quad) : M Unit := do
  let s ← getS
  raiseIf ((descDPL g).toNat < s.cpl.toNat ∨ (descDPL g).toNat < (selRPL gsel).toNat) (Exc.gp (selCode gsel))
  raiseIf (descP g = false) (Exc.np (selCode gsel))
  let tsel := gateSelector g
  raiseIf (selIndex tsel = 0) (Exc.gp 0)
  let d ← descRead tsel vGP
  raiseIf (descS d = false ∨ descCode d = false ∨ s.cpl.toNat < (descDPL d).toNat) (Exc.gp (selCode tsel))
  raiseIf (kind = .jmp ∧ descConforming d = false ∧ descDPL d ≠ s.cpl) (Exc.gp (selCode tsel))
  raiseIf (descP d = false) (Exc.np (selCode tsel))
  raiseIf ((descLimit d).toNat < (gateOffset g).toNat) (Exc.gp 0)
  if kind = .call ∧ descConforming d = false ∧ (descDPL d).toNat < s.cpl.toNat then innerCall g tsel d
  else
    whenM (kind = .call) (pushFarReturn (gateSize g))
    enterCs tsel s.cpl d (gateOffset g)

/-- A call gate (R97). -/
def isCallGate (d : Quad) : Bool := !descS d && (descType d == 4 || descType d == 0xC)

/-- A task gate (R97). -/
def isTaskGate (d : Quad) : Bool := !descS d && descType d == 5

/-- An available TSS (R97). -/
def isAvailableTss (d : Quad) : Bool := !descS d && (descType d == 1 || descType d == 9)

/-- A far JMP or CALL to a task gate or an available TSS (R326). -/
def taskTransfer (kind : TaskKind) (sel : Half) (d : Quad) : M Unit := do
  let s ← getS
  raiseIf ((descDPL d).toNat < s.cpl.toNat ∨ (descDPL d).toNat < (selRPL sel).toNat) (Exc.gp (selCode sel))
  raiseIf (descP d = false) (Exc.np (selCode sel))
  taskSwitch (if isTaskGate d then gateSelector d else sel) kind s.eip

/-- A far JMP or CALL to a code segment (R326). -/
def codeTransfer (kind : TaskKind) (o : OSize) (sel : Half) (off : Word) : M Unit := do
  let d ← checkDirectCs sel off
  whenM (kind = .call) (pushFarReturn o)
  let s ← getS
  enterCs sel s.cpl d off

/-- FarTransfer(kind, sel, off), kind JMP or CALL (R326). In real mode the limit is that of the CS being loaded (R320), and
it is checked before anything is pushed (log 22). -/
def farTransfer (kind : TaskKind) (o : OSize) (sel : Half) (off : Word) : M Unit := do
  let s ← getS
  if !s.pe then
    raiseIf ((SegReg.realOf .cs sel).cache.limit.toNat < (cutTarget o off).toNat) (Exc.gp 0)
    whenM (kind = .call) (pushFarReturn o)
    loadReal .cs sel
    writeEip (cutTarget o off)
  else
    raiseIf (selIndex sel = 0) (Exc.gp 0)
    let d ← descRead sel vGP
    if descS d && descCode d then codeTransfer kind o sel (cutTarget o off)
    else if isCallGate d then gateTransfer kind sel d
    else if isTaskGate d || isAvailableTss d then taskTransfer kind sel d
    else raise (Exc.gp (selCode sel))

end Sys2Proof.Machine
end

