-- ==== Sys2Proof/Machine/Control.lean ====
section
/-! DEFINITION. The meanings of the control transfers (spec/46_control.md). -/

namespace Sys2Proof.Machine

/-- JMP rel (R321). -/
def jumpRel (o : OSize) (rel : Word) : M Unit := do
  let s ← getS
  setEip o (s.relTarget rel)

/-- Jcc (R323). -/
def jumpIf (cc : BitVec 4) (o : OSize) (rel : Word) : M Unit := do
  let s ← getS
  whenM (s.flags.cond cc = true) (jumpRel o rel)

/-- JMP r/m (R322). -/
def jumpTo (o : OSize) (l : Loc) : M Unit := do
  let t ← readLoc o.size l
  setEip o t

/-- A near CALL: the target checked, the return EIP pushed, then EIP written (R324, R325). -/
def callNear (o : OSize) (t : Word) : M Unit := do
  let s ← getS
  let t' ← checkTarget o t
  push o s.eip
  writeEip t'

/-- CALL rel (R324). -/
def callRel (o : OSize) (rel : Word) : M Unit := do
  let s ← getS
  callNear o (s.relTarget rel)

/-- CALL r/m: the target is read before the push (R325). -/
def callTo (o : OSize) (l : Loc) : M Unit := do
  let t ← readLoc o.size l
  callNear o t

/-- RET near (R330). -/
def retNear (o : OSize) (extra : Half) : M Unit := do
  let t ← peek o 0
  let t' ← checkTarget o t
  moveSp (BitVec.ofNat 32 o.bytes + extra.setWidth 32)
  writeEip t'

/-- INT n and INT3: a software interrupt whose return EIP is the next instruction (R336, R337). -/
def softInt (v : Byte) : M Unit := do
  let s ← getS
  deliver v .software none s.eip

/-- INTO (R338). -/
def intOnOverflow : M Unit := do
  let s ← getS
  whenM (s.flags.of = true) (softInt 4)

/-! ## The instructions -/

/-- JMP rel8 (R321). -/
def execJmpRel8 (o : OSize) (i : Byte) (s : State) : Host.Outcome State Fault Refusal := run (jumpRel o (i.signExtend 32)) s

/-- JMP relv (R321). -/
def execJmpRelv (i : ImmV) (s : State) : Host.Outcome State Fault Refusal := run (jumpRel i.osize (immSext i)) s

/-- JMP r/mv (R322). -/
def execJmpRmv (o : OSize) (m : Rm) (s : State) : Host.Outcome State Fault Refusal := run (jumpTo o (rmv m s)) s

/-- JO rel8 (R323). -/
def execJoRel8 (o : OSize) (i : Byte) (s : State) : Host.Outcome State Fault Refusal := run (jumpIf 0x0 o (i.signExtend 32)) s

/-- JNO rel8 (R323). -/
def execJnoRel8 (o : OSize) (i : Byte) (s : State) : Host.Outcome State Fault Refusal := run (jumpIf 0x1 o (i.signExtend 32)) s

/-- JB rel8 (R323). -/
def execJbRel8 (o : OSize) (i : Byte) (s : State) : Host.Outcome State Fault Refusal := run (jumpIf 0x2 o (i.signExtend 32)) s

/-- JAE rel8 (R323). -/
def execJaeRel8 (o : OSize) (i : Byte) (s : State) : Host.Outcome State Fault Refusal := run (jumpIf 0x3 o (i.signExtend 32)) s

/-- JE rel8 (R323). -/
def execJeRel8 (o : OSize) (i : Byte) (s : State) : Host.Outcome State Fault Refusal := run (jumpIf 0x4 o (i.signExtend 32)) s

/-- JNE rel8 (R323). -/
def execJneRel8 (o : OSize) (i : Byte) (s : State) : Host.Outcome State Fault Refusal := run (jumpIf 0x5 o (i.signExtend 32)) s

/-- JBE rel8 (R323). -/
def execJbeRel8 (o : OSize) (i : Byte) (s : State) : Host.Outcome State Fault Refusal := run (jumpIf 0x6 o (i.signExtend 32)) s

/-- JA rel8 (R323). -/
def execJaRel8 (o : OSize) (i : Byte) (s : State) : Host.Outcome State Fault Refusal := run (jumpIf 0x7 o (i.signExtend 32)) s

/-- JS rel8 (R323). -/
def execJsRel8 (o : OSize) (i : Byte) (s : State) : Host.Outcome State Fault Refusal := run (jumpIf 0x8 o (i.signExtend 32)) s

/-- JNS rel8 (R323). -/
def execJnsRel8 (o : OSize) (i : Byte) (s : State) : Host.Outcome State Fault Refusal := run (jumpIf 0x9 o (i.signExtend 32)) s

/-- JP rel8 (R323). -/
def execJpRel8 (o : OSize) (i : Byte) (s : State) : Host.Outcome State Fault Refusal := run (jumpIf 0xa o (i.signExtend 32)) s

/-- JNP rel8 (R323). -/
def execJnpRel8 (o : OSize) (i : Byte) (s : State) : Host.Outcome State Fault Refusal := run (jumpIf 0xb o (i.signExtend 32)) s

/-- JL rel8 (R323). -/
def execJlRel8 (o : OSize) (i : Byte) (s : State) : Host.Outcome State Fault Refusal := run (jumpIf 0xc o (i.signExtend 32)) s

/-- JGE rel8 (R323). -/
def execJgeRel8 (o : OSize) (i : Byte) (s : State) : Host.Outcome State Fault Refusal := run (jumpIf 0xd o (i.signExtend 32)) s

/-- JLE rel8 (R323). -/
def execJleRel8 (o : OSize) (i : Byte) (s : State) : Host.Outcome State Fault Refusal := run (jumpIf 0xe o (i.signExtend 32)) s

/-- JG rel8 (R323). -/
def execJgRel8 (o : OSize) (i : Byte) (s : State) : Host.Outcome State Fault Refusal := run (jumpIf 0xf o (i.signExtend 32)) s

/-- JO relv (R323). -/
def execJoRelv (i : ImmV) (s : State) : Host.Outcome State Fault Refusal := run (jumpIf 0x0 i.osize (immSext i)) s

/-- JNO relv (R323). -/
def execJnoRelv (i : ImmV) (s : State) : Host.Outcome State Fault Refusal := run (jumpIf 0x1 i.osize (immSext i)) s

/-- JB relv (R323). -/
def execJbRelv (i : ImmV) (s : State) : Host.Outcome State Fault Refusal := run (jumpIf 0x2 i.osize (immSext i)) s

/-- JAE relv (R323). -/
def execJaeRelv (i : ImmV) (s : State) : Host.Outcome State Fault Refusal := run (jumpIf 0x3 i.osize (immSext i)) s

/-- JE relv (R323). -/
def execJeRelv (i : ImmV) (s : State) : Host.Outcome State Fault Refusal := run (jumpIf 0x4 i.osize (immSext i)) s

/-- JNE relv (R323). -/
def execJneRelv (i : ImmV) (s : State) : Host.Outcome State Fault Refusal := run (jumpIf 0x5 i.osize (immSext i)) s

/-- JBE relv (R323). -/
def execJbeRelv (i : ImmV) (s : State) : Host.Outcome State Fault Refusal := run (jumpIf 0x6 i.osize (immSext i)) s

/-- JA relv (R323). -/
def execJaRelv (i : ImmV) (s : State) : Host.Outcome State Fault Refusal := run (jumpIf 0x7 i.osize (immSext i)) s

/-- JS relv (R323). -/
def execJsRelv (i : ImmV) (s : State) : Host.Outcome State Fault Refusal := run (jumpIf 0x8 i.osize (immSext i)) s

/-- JNS relv (R323). -/
def execJnsRelv (i : ImmV) (s : State) : Host.Outcome State Fault Refusal := run (jumpIf 0x9 i.osize (immSext i)) s

/-- JP relv (R323). -/
def execJpRelv (i : ImmV) (s : State) : Host.Outcome State Fault Refusal := run (jumpIf 0xa i.osize (immSext i)) s

/-- JNP relv (R323). -/
def execJnpRelv (i : ImmV) (s : State) : Host.Outcome State Fault Refusal := run (jumpIf 0xb i.osize (immSext i)) s

/-- JL relv (R323). -/
def execJlRelv (i : ImmV) (s : State) : Host.Outcome State Fault Refusal := run (jumpIf 0xc i.osize (immSext i)) s

/-- JGE relv (R323). -/
def execJgeRelv (i : ImmV) (s : State) : Host.Outcome State Fault Refusal := run (jumpIf 0xd i.osize (immSext i)) s

/-- JLE relv (R323). -/
def execJleRelv (i : ImmV) (s : State) : Host.Outcome State Fault Refusal := run (jumpIf 0xe i.osize (immSext i)) s

/-- JG relv (R323). -/
def execJgRelv (i : ImmV) (s : State) : Host.Outcome State Fault Refusal := run (jumpIf 0xf i.osize (immSext i)) s

/-- CALL relv (R324). -/
def execCallRelv (i : ImmV) (s : State) : Host.Outcome State Fault Refusal := run (callRel i.osize (immSext i)) s

/-- CALL r/mv (R325). -/
def execCallRmv (o : OSize) (m : Rm) (s : State) : Host.Outcome State Fault Refusal := run (callTo o (rmv m s)) s

/-- JMP far ptr16:v (R326). -/
def execJmpFar (i : ImmV) (sel : Half) (s : State) : Host.Outcome State Fault Refusal :=
  run (farTransfer .jmp i.osize sel (immVal i)) s

/-- CALL far ptr16:v (R327). -/
def execCallFar (i : ImmV) (sel : Half) (s : State) : Host.Outcome State Fault Refusal :=
  run (farTransfer .call i.osize sel (immVal i)) s

/-- RET near (R330). -/
def execRet (o : OSize) (s : State) : Host.Outcome State Fault Refusal := run (retNear o 0) s

/-- RET near, imm16 (R330). -/
def execRetImm16 (o : OSize) (i : Half) (s : State) : Host.Outcome State Fault Refusal := run (retNear o i) s

/-- RETF (R331). -/
def execRetf (o : OSize) (s : State) : Host.Outcome State Fault Refusal := run (farReturn o 0) s

/-- RETF imm16 (R331). -/
def execRetfImm16 (o : OSize) (i : Half) (s : State) : Host.Outcome State Fault Refusal := run (farReturn o (i.setWidth 32)) s

/-- IRET / IRETD (R334). -/
def execIret (o : OSize) (s : State) : Host.Outcome State Fault Refusal := run (interruptReturn o) s

/-- INT imm8 (R336). -/
def execInt (i : Byte) (s : State) : Host.Outcome State Fault Refusal := run (softInt i) s

/-- INT3 (R337). -/
def execInt3 (s : State) : Host.Outcome State Fault Refusal := run (softInt 3) s

/-- INTO (R338). -/
def execInto (s : State) : Host.Outcome State Fault Refusal := run intOnOverflow s

end Sys2Proof.Machine
end

