-- ==== Sys2Proof/Machine/Data.lean ====
section
/-! DEFINITION. The meanings of the moves (spec/45_data_flags_stack.md section 1). -/

namespace Sys2Proof.Machine

/-- MOV: copy a source to a place at width w (R280, R281). -/
def move (sz : Size) (dst : Loc) (src : Source) : M Unit := do
  let v ← readSrc sz src
  writeLoc sz v dst

/-- The place a moffs names (spec/30_encoding.md R158). -/
def moffsLoc (g : Option SReg) (a : Moffs) : Loc := .mem (moffsSeg g) (moffsOff a)

/-- The operand size without a 66 prefix: the default one of the code segment (spec/30_encoding.md R142). -/
def State.defaultSize (s : State) : OSize := if s.cs.cache.db then .o32 else .o16

/-- The osize of R282 for an encoding whose effective operand size is o: without a 66 prefix the default size; under one,
R282's osize is o, and R142 lets 66 have no effect on a row of fixed width, so which of the two it is stays open (log 35). -/
def State.sregFormSize (s : State) (o : OSize) : OSize :=
  if o = s.defaultSize then o else if Config.opsizeSelectsSregForm then o else s.defaultSize

/-- MOV r/m16, Sreg: always 16 bits to memory; to a 32-bit register the upper half is a free value (R282). -/
def storeSelector (o : OSize) (dst : Loc) (g : SReg) : M Unit := do
  let s ← getS
  let sel := (s.seg g).selector
  match dst with
  | .mem _ _ => writeLoc .w (sel.setWidth 32) dst
  | _ => do
    let v ← selectorAt o sel
    writeLoc o.size v dst

/-- The load of SS exempts the next boundary (R283, R290, spec/70_reset_and_hazards.md R471). -/
def shadowSs (g : SReg) : M Unit := whenM (g = .ss) (modS fun s => { s with inhibitNext := true })

/-- MOV Sreg, r/m16 (R283). -/
def loadSelector (g : SReg) (src : Loc) : M Unit := do
  let v ← readLoc .w src
  loadSeg g (v.setWidth 16)
  shadowSs g

/-- LEA (R284). -/
def loadAddress (o : OSize) (r : Reg) (m : MemOp) : M Unit := do
  let s ← getS
  writeReg o.size r (effAddr s.regs m.addr)

/-! ## The instructions -/

/-- MOV r/m8, r8 (R280). -/
def execMovRm8R8 (m : Rm8) (r : Reg8) (s : State) : Host.Outcome State Fault Refusal :=
  run (move .b (rm8 m s) (.loc (.reg8 r))) s

/-- MOV r/mv, rv (R280). -/
def execMovRmvRv (o : OSize) (m : Rm) (r : Reg) (s : State) : Host.Outcome State Fault Refusal :=
  run (move o.size (rmv m s) (.loc (.reg r))) s

/-- MOV r8, r/m8 (R280). -/
def execMovR8Rm8 (r : Reg8) (m : Rm8) (s : State) : Host.Outcome State Fault Refusal :=
  run (move .b (.reg8 r) (.loc (rm8 m s))) s

/-- MOV rv, r/mv (R280). -/
def execMovRvRmv (o : OSize) (r : Reg) (m : Rm) (s : State) : Host.Outcome State Fault Refusal :=
  run (move o.size (.reg r) (.loc (rmv m s))) s

/-- MOV r8, imm8, the register in the opcode (R280). -/
def execMovR8Imm8 (r : Reg8) (i : Byte) (s : State) : Host.Outcome State Fault Refusal := run (move .b (.reg8 r) (immByte i)) s

/-- MOV rv, immv, the register in the opcode (R280). -/
def execMovRvImmv (r : Reg) (i : ImmV) (s : State) : Host.Outcome State Fault Refusal :=
  run (move i.osize.size (.reg r) (.imm (immVal i))) s

/-- MOV r/m8, imm8 (R280). -/
def execMovRm8Imm8 (m : Rm8) (i : Byte) (s : State) : Host.Outcome State Fault Refusal := run (move .b (rm8 m s) (immByte i)) s

/-- MOV r/mv, immv (R280). -/
def execMovRmvImmv (m : Rm) (i : ImmV) (s : State) : Host.Outcome State Fault Refusal :=
  run (move i.osize.size (rmv m s) (.imm (immVal i))) s

/-- MOV AL, moffs8 (R281). -/
def execMovAlMoffs (g : Option SReg) (a : Moffs) (s : State) : Host.Outcome State Fault Refusal :=
  run (move .b (.reg8 .al) (.loc (moffsLoc g a))) s

/-- MOV eAX, moffsv (R281). -/
def execMovEaxMoffs (o : OSize) (g : Option SReg) (a : Moffs) (s : State) : Host.Outcome State Fault Refusal :=
  run (move o.size (.reg .eax) (.loc (moffsLoc g a))) s

/-- MOV moffs8, AL (R281). -/
def execMovMoffsAl (g : Option SReg) (a : Moffs) (s : State) : Host.Outcome State Fault Refusal :=
  run (move .b (moffsLoc g a) (.loc (.reg8 .al))) s

/-- MOV moffsv, eAX (R281). -/
def execMovMoffsEax (o : OSize) (g : Option SReg) (a : Moffs) (s : State) : Host.Outcome State Fault Refusal :=
  run (move o.size (moffsLoc g a) (.loc (.reg .eax))) s

/-- MOV r/m16, Sreg (R282; the size of a register form under 66: log 35). -/
def execMovRm16Sreg (o : OSize) (m : Rm) (g : SReg) (s : State) : Host.Outcome State Fault Refusal :=
  run (storeSelector (s.sregFormSize o) (rmv m s) g) s

/-- MOV Sreg, r/m16 (R283). -/
def execMovSregRm16 (g : SReg) (m : Rm) (s : State) : Host.Outcome State Fault Refusal := run (loadSelector g (rmv m s)) s

/-- LEA rv, m (R284). -/
def execLea (o : OSize) (r : Reg) (m : MemOp) (s : State) : Host.Outcome State Fault Refusal := run (loadAddress o r m) s

/-- NOP (R285). -/
def execNop (s : State) : Host.Outcome State Fault Refusal := run (pure ()) s

end Sys2Proof.Machine
end

