-- ==== Sys2Proof/Machine/FlagOps.lean ====
section
/-! DEFINITION. The meanings of the flag instructions (spec/45_data_flags_stack.md section 3). -/

namespace Sys2Proof.Machine

/-- LAHF (R295). -/
def loadAh : M Unit := do
  let s ← getS
  writeReg8 .ah (s.flags.image &&& 0xFF)

/-- SAHF (R296). -/
def storeAh : M Unit := do
  let v ← readReg8 .ah
  writeFlags v 0xD5

/-- CLI and STI in protected mode need CPL at most IOPL (R302, R303). -/
def requireIopl : M Unit := do
  let s ← getS
  raiseIf (s.pe = true ∧ s.flags.iopl.toNat < s.cpl.toNat) (Exc.gp 0)

/-- CLI (R302). -/
def clearIf : M Unit := do
  requireIopl
  modFlags fun f => { f with ifl := false }

/-- STI: the next boundary is exempt (R303). -/
def setIf : M Unit := do
  requireIopl
  modFlags fun f => { f with ifl := true }
  modS fun s => { s with inhibitNext := true }

/-! ## The instructions -/

/-- LAHF (R295). -/
def execLahf (s : State) : Host.Outcome State Fault Refusal := run loadAh s

/-- SAHF (R296). -/
def execSahf (s : State) : Host.Outcome State Fault Refusal := run storeAh s

/-- CLC (R297). -/
def execClc (s : State) : Host.Outcome State Fault Refusal := run (modFlags fun f => { f with cf := false }) s

/-- STC (R298). -/
def execStc (s : State) : Host.Outcome State Fault Refusal := run (modFlags fun f => { f with cf := true }) s

/-- CMC (R299). -/
def execCmc (s : State) : Host.Outcome State Fault Refusal := run (modFlags fun f => { f with cf := !f.cf }) s

/-- CLD (R300). -/
def execCld (s : State) : Host.Outcome State Fault Refusal := run (modFlags fun f => { f with df := false }) s

/-- STD (R301). -/
def execStd (s : State) : Host.Outcome State Fault Refusal := run (modFlags fun f => { f with df := true }) s

/-- CLI (R302). -/
def execCli (s : State) : Host.Outcome State Fault Refusal := run clearIf s

/-- STI (R303). -/
def execSti (s : State) : Host.Outcome State Fault Refusal := run setIf s

end Sys2Proof.Machine
end

