-- ==== Sys2Proof/Machine/Logic.lean ====
section
/-! DEFINITION. The meanings of AND, OR, XOR, TEST and NOT (spec/41_alu_logic.md). -/

namespace Sys2Proof.Machine

/-- AND r/m8, r8 (R231). -/
def execAndRm8R8 (m : Rm8) (r : Reg8) (s : State) : Host.Outcome State Fault Refusal :=
  run (binary .and .b (rm8 m s) (.loc (.reg8 r))) s

/-- AND r/mv, rv (R231). -/
def execAndRmvRv (o : OSize) (m : Rm) (r : Reg) (s : State) : Host.Outcome State Fault Refusal :=
  run (binary .and o.size (rmv m s) (.loc (.reg r))) s

/-- AND r8, r/m8 (R231). -/
def execAndR8Rm8 (r : Reg8) (m : Rm8) (s : State) : Host.Outcome State Fault Refusal :=
  run (binary .and .b (.reg8 r) (.loc (rm8 m s))) s

/-- AND rv, r/mv (R231). -/
def execAndRvRmv (o : OSize) (r : Reg) (m : Rm) (s : State) : Host.Outcome State Fault Refusal :=
  run (binary .and o.size (.reg r) (.loc (rmv m s))) s

/-- AND AL, imm8 (R231). -/
def execAndAlImm8 (i : Byte) (s : State) : Host.Outcome State Fault Refusal := run (binary .and .b (.reg8 .al) (immByte i)) s

/-- AND eAX, immv (R231). -/
def execAndEaxImmv (i : ImmV) (s : State) : Host.Outcome State Fault Refusal :=
  run (binary .and i.osize.size (.reg .eax) (.imm (immVal i))) s

/-- AND r/m8, imm8 (R231). -/
def execAndRm8Imm8 (m : Rm8) (i : Byte) (s : State) : Host.Outcome State Fault Refusal :=
  run (binary .and .b (rm8 m s) (immByte i)) s

/-- AND r/mv, immv (R231). -/
def execAndRmvImmv (m : Rm) (i : ImmV) (s : State) : Host.Outcome State Fault Refusal :=
  run (binary .and i.osize.size (rmv m s) (.imm (immVal i))) s

/-- AND r/mv, sign-extended imm8 (R231). -/
def execAndRmvSx8 (o : OSize) (m : Rm) (i : Byte) (s : State) : Host.Outcome State Fault Refusal :=
  run (binary .and o.size (rmv m s) (immSx8 o i)) s

/-- OR r/m8, r8 (R232). -/
def execOrRm8R8 (m : Rm8) (r : Reg8) (s : State) : Host.Outcome State Fault Refusal :=
  run (binary .or .b (rm8 m s) (.loc (.reg8 r))) s

/-- OR r/mv, rv (R232). -/
def execOrRmvRv (o : OSize) (m : Rm) (r : Reg) (s : State) : Host.Outcome State Fault Refusal :=
  run (binary .or o.size (rmv m s) (.loc (.reg r))) s

/-- OR r8, r/m8 (R232). -/
def execOrR8Rm8 (r : Reg8) (m : Rm8) (s : State) : Host.Outcome State Fault Refusal :=
  run (binary .or .b (.reg8 r) (.loc (rm8 m s))) s

/-- OR rv, r/mv (R232). -/
def execOrRvRmv (o : OSize) (r : Reg) (m : Rm) (s : State) : Host.Outcome State Fault Refusal :=
  run (binary .or o.size (.reg r) (.loc (rmv m s))) s

/-- OR AL, imm8 (R232). -/
def execOrAlImm8 (i : Byte) (s : State) : Host.Outcome State Fault Refusal := run (binary .or .b (.reg8 .al) (immByte i)) s

/-- OR eAX, immv (R232). -/
def execOrEaxImmv (i : ImmV) (s : State) : Host.Outcome State Fault Refusal :=
  run (binary .or i.osize.size (.reg .eax) (.imm (immVal i))) s

/-- OR r/m8, imm8 (R232). -/
def execOrRm8Imm8 (m : Rm8) (i : Byte) (s : State) : Host.Outcome State Fault Refusal :=
  run (binary .or .b (rm8 m s) (immByte i)) s

/-- OR r/mv, immv (R232). -/
def execOrRmvImmv (m : Rm) (i : ImmV) (s : State) : Host.Outcome State Fault Refusal :=
  run (binary .or i.osize.size (rmv m s) (.imm (immVal i))) s

/-- OR r/mv, sign-extended imm8 (R232). -/
def execOrRmvSx8 (o : OSize) (m : Rm) (i : Byte) (s : State) : Host.Outcome State Fault Refusal :=
  run (binary .or o.size (rmv m s) (immSx8 o i)) s

/-- XOR r/m8, r8 (R233). -/
def execXorRm8R8 (m : Rm8) (r : Reg8) (s : State) : Host.Outcome State Fault Refusal :=
  run (binary .xor .b (rm8 m s) (.loc (.reg8 r))) s

/-- XOR r/mv, rv (R233). -/
def execXorRmvRv (o : OSize) (m : Rm) (r : Reg) (s : State) : Host.Outcome State Fault Refusal :=
  run (binary .xor o.size (rmv m s) (.loc (.reg r))) s

/-- XOR r8, r/m8 (R233). -/
def execXorR8Rm8 (r : Reg8) (m : Rm8) (s : State) : Host.Outcome State Fault Refusal :=
  run (binary .xor .b (.reg8 r) (.loc (rm8 m s))) s

/-- XOR rv, r/mv (R233). -/
def execXorRvRmv (o : OSize) (r : Reg) (m : Rm) (s : State) : Host.Outcome State Fault Refusal :=
  run (binary .xor o.size (.reg r) (.loc (rmv m s))) s

/-- XOR AL, imm8 (R233). -/
def execXorAlImm8 (i : Byte) (s : State) : Host.Outcome State Fault Refusal := run (binary .xor .b (.reg8 .al) (immByte i)) s

/-- XOR eAX, immv (R233). -/
def execXorEaxImmv (i : ImmV) (s : State) : Host.Outcome State Fault Refusal :=
  run (binary .xor i.osize.size (.reg .eax) (.imm (immVal i))) s

/-- XOR r/m8, imm8 (R233). -/
def execXorRm8Imm8 (m : Rm8) (i : Byte) (s : State) : Host.Outcome State Fault Refusal :=
  run (binary .xor .b (rm8 m s) (immByte i)) s

/-- XOR r/mv, immv (R233). -/
def execXorRmvImmv (m : Rm) (i : ImmV) (s : State) : Host.Outcome State Fault Refusal :=
  run (binary .xor i.osize.size (rmv m s) (.imm (immVal i))) s

/-- XOR r/mv, sign-extended imm8 (R233). -/
def execXorRmvSx8 (o : OSize) (m : Rm) (i : Byte) (s : State) : Host.Outcome State Fault Refusal :=
  run (binary .xor o.size (rmv m s) (immSx8 o i)) s

/-- TEST r/m8, r8 (R234). -/
def execTestRm8R8 (m : Rm8) (r : Reg8) (s : State) : Host.Outcome State Fault Refusal :=
  run (binary .test .b (rm8 m s) (.loc (.reg8 r))) s

/-- TEST r/mv, rv (R234). -/
def execTestRmvRv (o : OSize) (m : Rm) (r : Reg) (s : State) : Host.Outcome State Fault Refusal :=
  run (binary .test o.size (rmv m s) (.loc (.reg r))) s

/-- TEST AL, imm8 (R234). -/
def execTestAlImm8 (i : Byte) (s : State) : Host.Outcome State Fault Refusal := run (binary .test .b (.reg8 .al) (immByte i)) s

/-- TEST eAX, immv (R234). -/
def execTestEaxImmv (i : ImmV) (s : State) : Host.Outcome State Fault Refusal :=
  run (binary .test i.osize.size (.reg .eax) (.imm (immVal i))) s

/-- TEST r/m8, imm8 (R234). -/
def execTestRm8Imm8 (m : Rm8) (i : Byte) (s : State) : Host.Outcome State Fault Refusal :=
  run (binary .test .b (rm8 m s) (immByte i)) s

/-- TEST r/mv, immv (R234). -/
def execTestRmvImmv (m : Rm) (i : ImmV) (s : State) : Host.Outcome State Fault Refusal :=
  run (binary .test i.osize.size (rmv m s) (.imm (immVal i))) s

/-- NOT r/m8 (R235). -/
def execNotRm8 (m : Rm8) (s : State) : Host.Outcome State Fault Refusal := run (unary .not .b (rm8 m s)) s

/-- NOT r/mv (R235). -/
def execNotRmv (o : OSize) (m : Rm) (s : State) : Host.Outcome State Fault Refusal := run (unary .not o.size (rmv m s)) s

end Sys2Proof.Machine
end

