-- ==== Sys2Proof/Machine/MulDiv.lean ====
section
/-! DEFINITION. The meanings of MUL, IMUL, DIV, IDIV, CBW / CWDE and CWD / CDQ (spec/43_alu_muldiv.md). -/

namespace Sys2Proof.Machine

/-! ## Multiplication (spec/43_alu_muldiv.md R260 to R263) -/

/-- A double-width value into its implicit registers: AX, DX:AX or EDX:EAX (R260). -/
def writePair (sz : Size) (low high : Word) : M Unit :=
  match sz with
  | .b => writeReg .w .eax (low ||| (high <<< 8))
  | _ => do
    writeReg sz .eax low
    writeReg sz .edx high

/-- Bits 2w-1:w of an exact product or dividend (R260). -/
def highHalf (sz : Size) (p : Int) : Word := truncInt sz (p / 2 ^ sz.bits)

/-- CF <- OF <- b, then SF, ZF, AF and PF become free values (R260 to R263). -/
def mulFlags (b : Bool) : M Unit := do
  modFlags fun f => { f with cf := b, of := b }
  drawSZAP

/-- MUL (R260). -/
def mulUnsigned (sz : Size) (src : Loc) : M Unit := do
  let b ← readLoc sz src
  let a ← readReg sz .eax
  let p : Int := (a.toNat : Int) * b.toNat
  writePair sz (truncInt sz p) (highHalf sz p)
  mulFlags (highHalf sz p != 0)

/-- A product is not the sign extension of its low half (R261 to R263). -/
def overflowsSigned (sz : Size) (p : Int) : Bool := p != signed sz (truncInt sz p)

/-- IMUL, one operand (R261). -/
def mulSigned (sz : Size) (src : Loc) : M Unit := do
  let b ← readLoc sz src
  let a ← readReg sz .eax
  let p := signed sz a * signed sz b
  writePair sz (truncInt sz p) (highHalf sz p)
  mulFlags (overflowsSigned sz p)

/-- IMUL into a register (R262, R263). -/
def mulInto (sz : Size) (dst : Reg) (x y : Source) : M Unit := do
  let a ← readSrc sz x
  let b ← readSrc sz y
  let p := signed sz a * signed sz b
  writeReg sz dst (truncInt sz p)
  mulFlags (overflowsSigned sz p)

/-! ## Division (spec/43_alu_muldiv.md R264, R265) -/

/-- The 2w-bit dividend: AX, DX:AX or EDX:EAX (R264). -/
def dividend (sz : Size) (x : Regs) : Quad :=
  match sz with
  | .b => (x.view .w .eax).setWidth 64
  | .w => ((x.view .w .edx).setWidth 64 <<< 16) ||| (x.view .w .eax).setWidth 64
  | .d => (x.edx.setWidth 64 <<< 32) ||| x.eax.setWidth 64

/-- signed_2w of a dividend (R265). -/
def signedDividend (sz : Size) (n : Quad) : Int :=
  match sz with
  | .b => (n.setWidth 16).toInt
  | .w => (n.setWidth 32).toInt
  | .d => n.toInt

/-- The quotient and remainder into their registers: AL and AH, or eAX and eDX (R264). -/
def writeQuotient (sz : Size) (q m : Word) : M Unit :=
  match sz with
  | .b => do
    writeReg8 .al q
    writeReg8 .ah m
  | _ => do
    writeReg sz .eax q
    writeReg sz .edx m

/-- DIV (R264). -/
def divUnsigned (sz : Size) (src : Loc) : M Unit := do
  let d ← readLoc sz src
  let s ← getS
  let n := (dividend sz s.regs).toNat
  raiseIf (d = 0) Exc.de
  raiseIf (2 ^ sz.bits ≤ n / d.toNat) Exc.de
  writeQuotient sz (truncNat sz (n / d.toNat)) (truncNat sz (n % d.toNat))
  drawStatus

/-- The quotient is outside the signed w-bit range (R265). -/
def quotientOverflows (sz : Size) (q : Int) : Bool :=
  decide (q < -(2 ^ (sz.bits - 1))) || decide (2 ^ (sz.bits - 1) - 1 < q)

/-- IDIV: the quotient is truncated toward zero (R265). -/
def divSigned (sz : Size) (src : Loc) : M Unit := do
  let dw ← readLoc sz src
  let s ← getS
  let n := signedDividend sz (dividend sz s.regs)
  let d := signed sz dw
  raiseIf (d = 0) Exc.de
  raiseIf (quotientOverflows sz (n.tdiv d) = true) Exc.de
  writeQuotient sz (truncInt sz (n.tdiv d)) (truncInt sz (n.tmod d))
  drawStatus

/-! ## Sign extension (spec/43_alu_muldiv.md R266, R267) -/

/-- CBW and CWDE (R266). -/
def widenAcc (o : OSize) : M Unit := do
  let s ← getS
  match o with
  | .o16 => writeReg .w .eax ((s.regs.eax.setWidth 8).signExtend 32)
  | .o32 => writeReg .d .eax ((s.regs.eax.setWidth 16).signExtend 32)

/-- CWD and CDQ (R267). -/
def extendAcc (o : OSize) : M Unit := do
  let a ← readReg o.size .eax
  writeReg o.size .edx (if msb o.size a then 0xFFFFFFFF else 0)

/-! ## The instructions -/

/-- MUL r/m8 (R260). -/
def execMulRm8 (m : Rm8) (s : State) : Host.Outcome State Fault Refusal := run (mulUnsigned .b (rm8 m s)) s

/-- MUL r/mv (R260). -/
def execMulRmv (o : OSize) (m : Rm) (s : State) : Host.Outcome State Fault Refusal := run (mulUnsigned o.size (rmv m s)) s

/-- IMUL r/m8 (R261). -/
def execImulRm8 (m : Rm8) (s : State) : Host.Outcome State Fault Refusal := run (mulSigned .b (rm8 m s)) s

/-- IMUL r/mv (R261). -/
def execImulRmv (o : OSize) (m : Rm) (s : State) : Host.Outcome State Fault Refusal := run (mulSigned o.size (rmv m s)) s

/-- DIV r/m8 (R264). -/
def execDivRm8 (m : Rm8) (s : State) : Host.Outcome State Fault Refusal := run (divUnsigned .b (rm8 m s)) s

/-- DIV r/mv (R264). -/
def execDivRmv (o : OSize) (m : Rm) (s : State) : Host.Outcome State Fault Refusal := run (divUnsigned o.size (rmv m s)) s

/-- IDIV r/m8 (R265). -/
def execIdivRm8 (m : Rm8) (s : State) : Host.Outcome State Fault Refusal := run (divSigned .b (rm8 m s)) s

/-- IDIV r/mv (R265). -/
def execIdivRmv (o : OSize) (m : Rm) (s : State) : Host.Outcome State Fault Refusal := run (divSigned o.size (rmv m s)) s

/-- IMUL rv, r/mv (R262). -/
def execImulRvRmv (o : OSize) (r : Reg) (m : Rm) (s : State) : Host.Outcome State Fault Refusal :=
  run (mulInto o.size r (.loc (.reg r)) (.loc (rmv m s))) s

/-- IMUL rv, r/mv, immv (R263). -/
def execImulRvRmvImmv (r : Reg) (m : Rm) (i : ImmV) (s : State) : Host.Outcome State Fault Refusal :=
  run (mulInto i.osize.size r (.loc (rmv m s)) (.imm (immVal i))) s

/-- IMUL rv, r/mv, sign-extended imm8 (R263). -/
def execImulRvRmvSx8 (o : OSize) (r : Reg) (m : Rm) (i : Byte) (s : State) : Host.Outcome State Fault Refusal :=
  run (mulInto o.size r (.loc (rmv m s)) (immSx8 o i)) s

/-- CBW / CWDE (R266). -/
def execCbwCwde (o : OSize) (s : State) : Host.Outcome State Fault Refusal := run (widenAcc o) s

/-- CWD / CDQ (R267). -/
def execCwdCdq (o : OSize) (s : State) : Host.Outcome State Fault Refusal := run (extendAcc o) s

end Sys2Proof.Machine
end

