-- ==== Sys2Proof/Machine/Prefixes.lean ====
section
/-! DEFINITION. The meanings of the prefix bytes (spec/30_encoding.md R141). -/

namespace Sys2Proof.Machine

/-- A prefix latches and nothing else: the instruction it belongs to follows (R141, log 7). -/
def latchPrefix (l : Latch → Latch) (s : State) : Host.Outcome State Fault Refusal := .next { s with latch := l s.latch }

/-- Prefix byte 26: ES segment override (R141). -/
def execPrefixEs (s : State) : Host.Outcome State Fault Refusal := latchPrefix (fun l => { l with seg := some .es }) s

/-- Prefix byte 2E: CS segment override (R141). -/
def execPrefixCs (s : State) : Host.Outcome State Fault Refusal := latchPrefix (fun l => { l with seg := some .cs }) s

/-- Prefix byte 36: SS segment override (R141). -/
def execPrefixSs (s : State) : Host.Outcome State Fault Refusal := latchPrefix (fun l => { l with seg := some .ss }) s

/-- Prefix byte 3E: DS segment override (R141). -/
def execPrefixDs (s : State) : Host.Outcome State Fault Refusal := latchPrefix (fun l => { l with seg := some .ds }) s

/-- Prefix byte 64: FS segment override (R141). -/
def execPrefixFs (s : State) : Host.Outcome State Fault Refusal := latchPrefix (fun l => { l with seg := some .fs }) s

/-- Prefix byte 65: GS segment override (R141). -/
def execPrefixGs (s : State) : Host.Outcome State Fault Refusal := latchPrefix (fun l => { l with seg := some .gs }) s

/-- Prefix byte 66: operand-size override (R141). -/
def execPrefixOpsize (s : State) : Host.Outcome State Fault Refusal := latchPrefix (fun l => { l with opflip := true }) s

/-- Prefix byte 67: address-size override (R141). -/
def execPrefixAddrsize (s : State) : Host.Outcome State Fault Refusal := latchPrefix (fun l => { l with adflip := true }) s

/-- Prefix byte F0: LOCK, accepted and ignored (R141). -/
def execPrefixLock (s : State) : Host.Outcome State Fault Refusal := latchPrefix (fun l => l) s

/-- Prefix byte F2: repeat kind REPNE (R141). -/
def execPrefixRepne (s : State) : Host.Outcome State Fault Refusal := latchPrefix (fun l => { l with rep := some .repne }) s

/-- Prefix byte F3: repeat kind REP / REPE (R141). -/
def execPrefixRep (s : State) : Host.Outcome State Fault Refusal := latchPrefix (fun l => { l with rep := some .rep }) s

end Sys2Proof.Machine
end

