-- ==== Sys2Proof/Machine/Shift.lean ====
section
/-! DEFINITION. The meanings of the shifts and rotates (spec/42_alu_shift_rotate.md). -/

namespace Sys2Proof.Machine

/-- ROL r/m8, imm8 (R245). -/
def execRolRm8Imm8 (m : Rm8) (i : Byte) (s : State) : Host.Outcome State Fault Refusal :=
  run (shiftLoc .rol .b (rm8 m s) (immByte i)) s

/-- ROL r/mv, imm8 (R245). -/
def execRolRmvImm8 (o : OSize) (m : Rm) (i : Byte) (s : State) : Host.Outcome State Fault Refusal :=
  run (shiftLoc .rol o.size (rmv m s) (immByte i)) s

/-- ROL r/m8, 1 (R245). -/
def execRolRm8One (m : Rm8) (s : State) : Host.Outcome State Fault Refusal := run (shiftLoc .rol .b (rm8 m s) countOne) s

/-- ROL r/mv, 1 (R245). -/
def execRolRmvOne (o : OSize) (m : Rm) (s : State) : Host.Outcome State Fault Refusal :=
  run (shiftLoc .rol o.size (rmv m s) countOne) s

/-- ROL r/m8, CL (R245). -/
def execRolRm8Cl (m : Rm8) (s : State) : Host.Outcome State Fault Refusal := run (shiftLoc .rol .b (rm8 m s) countCl) s

/-- ROL r/mv, CL (R245). -/
def execRolRmvCl (o : OSize) (m : Rm) (s : State) : Host.Outcome State Fault Refusal :=
  run (shiftLoc .rol o.size (rmv m s) countCl) s

/-- ROR r/m8, imm8 (R246). -/
def execRorRm8Imm8 (m : Rm8) (i : Byte) (s : State) : Host.Outcome State Fault Refusal :=
  run (shiftLoc .ror .b (rm8 m s) (immByte i)) s

/-- ROR r/mv, imm8 (R246). -/
def execRorRmvImm8 (o : OSize) (m : Rm) (i : Byte) (s : State) : Host.Outcome State Fault Refusal :=
  run (shiftLoc .ror o.size (rmv m s) (immByte i)) s

/-- ROR r/m8, 1 (R246). -/
def execRorRm8One (m : Rm8) (s : State) : Host.Outcome State Fault Refusal := run (shiftLoc .ror .b (rm8 m s) countOne) s

/-- ROR r/mv, 1 (R246). -/
def execRorRmvOne (o : OSize) (m : Rm) (s : State) : Host.Outcome State Fault Refusal :=
  run (shiftLoc .ror o.size (rmv m s) countOne) s

/-- ROR r/m8, CL (R246). -/
def execRorRm8Cl (m : Rm8) (s : State) : Host.Outcome State Fault Refusal := run (shiftLoc .ror .b (rm8 m s) countCl) s

/-- ROR r/mv, CL (R246). -/
def execRorRmvCl (o : OSize) (m : Rm) (s : State) : Host.Outcome State Fault Refusal :=
  run (shiftLoc .ror o.size (rmv m s) countCl) s

/-- RCL r/m8, imm8 (R247). -/
def execRclRm8Imm8 (m : Rm8) (i : Byte) (s : State) : Host.Outcome State Fault Refusal :=
  run (shiftLoc .rcl .b (rm8 m s) (immByte i)) s

/-- RCL r/mv, imm8 (R247). -/
def execRclRmvImm8 (o : OSize) (m : Rm) (i : Byte) (s : State) : Host.Outcome State Fault Refusal :=
  run (shiftLoc .rcl o.size (rmv m s) (immByte i)) s

/-- RCL r/m8, 1 (R247). -/
def execRclRm8One (m : Rm8) (s : State) : Host.Outcome State Fault Refusal := run (shiftLoc .rcl .b (rm8 m s) countOne) s

/-- RCL r/mv, 1 (R247). -/
def execRclRmvOne (o : OSize) (m : Rm) (s : State) : Host.Outcome State Fault Refusal :=
  run (shiftLoc .rcl o.size (rmv m s) countOne) s

/-- RCL r/m8, CL (R247). -/
def execRclRm8Cl (m : Rm8) (s : State) : Host.Outcome State Fault Refusal := run (shiftLoc .rcl .b (rm8 m s) countCl) s

/-- RCL r/mv, CL (R247). -/
def execRclRmvCl (o : OSize) (m : Rm) (s : State) : Host.Outcome State Fault Refusal :=
  run (shiftLoc .rcl o.size (rmv m s) countCl) s

/-- RCR r/m8, imm8 (R248). -/
def execRcrRm8Imm8 (m : Rm8) (i : Byte) (s : State) : Host.Outcome State Fault Refusal :=
  run (shiftLoc .rcr .b (rm8 m s) (immByte i)) s

/-- RCR r/mv, imm8 (R248). -/
def execRcrRmvImm8 (o : OSize) (m : Rm) (i : Byte) (s : State) : Host.Outcome State Fault Refusal :=
  run (shiftLoc .rcr o.size (rmv m s) (immByte i)) s

/-- RCR r/m8, 1 (R248). -/
def execRcrRm8One (m : Rm8) (s : State) : Host.Outcome State Fault Refusal := run (shiftLoc .rcr .b (rm8 m s) countOne) s

/-- RCR r/mv, 1 (R248). -/
def execRcrRmvOne (o : OSize) (m : Rm) (s : State) : Host.Outcome State Fault Refusal :=
  run (shiftLoc .rcr o.size (rmv m s) countOne) s

/-- RCR r/m8, CL (R248). -/
def execRcrRm8Cl (m : Rm8) (s : State) : Host.Outcome State Fault Refusal := run (shiftLoc .rcr .b (rm8 m s) countCl) s

/-- RCR r/mv, CL (R248). -/
def execRcrRmvCl (o : OSize) (m : Rm) (s : State) : Host.Outcome State Fault Refusal :=
  run (shiftLoc .rcr o.size (rmv m s) countCl) s

/-- SHL r/m8, imm8 (R242). -/
def execShlRm8Imm8 (m : Rm8) (i : Byte) (s : State) : Host.Outcome State Fault Refusal :=
  run (shiftLoc .shl .b (rm8 m s) (immByte i)) s

/-- SHL r/mv, imm8 (R242). -/
def execShlRmvImm8 (o : OSize) (m : Rm) (i : Byte) (s : State) : Host.Outcome State Fault Refusal :=
  run (shiftLoc .shl o.size (rmv m s) (immByte i)) s

/-- SHL r/m8, 1 (R242). -/
def execShlRm8One (m : Rm8) (s : State) : Host.Outcome State Fault Refusal := run (shiftLoc .shl .b (rm8 m s) countOne) s

/-- SHL r/mv, 1 (R242). -/
def execShlRmvOne (o : OSize) (m : Rm) (s : State) : Host.Outcome State Fault Refusal :=
  run (shiftLoc .shl o.size (rmv m s) countOne) s

/-- SHL r/m8, CL (R242). -/
def execShlRm8Cl (m : Rm8) (s : State) : Host.Outcome State Fault Refusal := run (shiftLoc .shl .b (rm8 m s) countCl) s

/-- SHL r/mv, CL (R242). -/
def execShlRmvCl (o : OSize) (m : Rm) (s : State) : Host.Outcome State Fault Refusal :=
  run (shiftLoc .shl o.size (rmv m s) countCl) s

/-- SHR r/m8, imm8 (R243). -/
def execShrRm8Imm8 (m : Rm8) (i : Byte) (s : State) : Host.Outcome State Fault Refusal :=
  run (shiftLoc .shr .b (rm8 m s) (immByte i)) s

/-- SHR r/mv, imm8 (R243). -/
def execShrRmvImm8 (o : OSize) (m : Rm) (i : Byte) (s : State) : Host.Outcome State Fault Refusal :=
  run (shiftLoc .shr o.size (rmv m s) (immByte i)) s

/-- SHR r/m8, 1 (R243). -/
def execShrRm8One (m : Rm8) (s : State) : Host.Outcome State Fault Refusal := run (shiftLoc .shr .b (rm8 m s) countOne) s

/-- SHR r/mv, 1 (R243). -/
def execShrRmvOne (o : OSize) (m : Rm) (s : State) : Host.Outcome State Fault Refusal :=
  run (shiftLoc .shr o.size (rmv m s) countOne) s

/-- SHR r/m8, CL (R243). -/
def execShrRm8Cl (m : Rm8) (s : State) : Host.Outcome State Fault Refusal := run (shiftLoc .shr .b (rm8 m s) countCl) s

/-- SHR r/mv, CL (R243). -/
def execShrRmvCl (o : OSize) (m : Rm) (s : State) : Host.Outcome State Fault Refusal :=
  run (shiftLoc .shr o.size (rmv m s) countCl) s

/-- SAR r/m8, imm8 (R244). -/
def execSarRm8Imm8 (m : Rm8) (i : Byte) (s : State) : Host.Outcome State Fault Refusal :=
  run (shiftLoc .sar .b (rm8 m s) (immByte i)) s

/-- SAR r/mv, imm8 (R244). -/
def execSarRmvImm8 (o : OSize) (m : Rm) (i : Byte) (s : State) : Host.Outcome State Fault Refusal :=
  run (shiftLoc .sar o.size (rmv m s) (immByte i)) s

/-- SAR r/m8, 1 (R244). -/
def execSarRm8One (m : Rm8) (s : State) : Host.Outcome State Fault Refusal := run (shiftLoc .sar .b (rm8 m s) countOne) s

/-- SAR r/mv, 1 (R244). -/
def execSarRmvOne (o : OSize) (m : Rm) (s : State) : Host.Outcome State Fault Refusal :=
  run (shiftLoc .sar o.size (rmv m s) countOne) s

/-- SAR r/m8, CL (R244). -/
def execSarRm8Cl (m : Rm8) (s : State) : Host.Outcome State Fault Refusal := run (shiftLoc .sar .b (rm8 m s) countCl) s

/-- SAR r/mv, CL (R244). -/
def execSarRmvCl (o : OSize) (m : Rm) (s : State) : Host.Outcome State Fault Refusal :=
  run (shiftLoc .sar o.size (rmv m s) countCl) s

end Sys2Proof.Machine
end

