-- ==== Sys2Proof/Machine/StackOps.lean ====
section
/-! DEFINITION. The meanings of the pushes and pops (spec/45_data_flags_stack.md section 2, R293, R294). -/

namespace Sys2Proof.Machine

/-- PUSH of a general register: its value before the push (R286). -/
def pushReg (o : OSize) (r : Reg) : M Unit := do
  let v ← readReg o.size r
  push o v

/-- POP to a general register: the write follows the increment (R289). -/
def popReg (o : OSize) (r : Reg) : M Unit := do
  let v ← pop o
  writeReg o.size r v

/-- PUSH of a segment register (R288). -/
def pushSeg (o : OSize) (g : SReg) : M Unit := do
  let s ← getS
  let v ← selectorAt o (s.seg g).selector
  push o v

/-- POP to a segment register: the stack pointer, of the SS before the load, moves after the load succeeded (R290). -/
def popSeg (o : OSize) (g : SReg) : M Unit := do
  let old ← getS
  let v ← peek o 0
  loadSeg g (v.setWidth 16)
  modS fun s => s.putReg (if old.sp32 then .d else .w) .esp (old.spTrunc (old.sp + BitVec.ofNat 32 o.bytes))
  shadowSs g

/-- PUSHA and PUSHAD (R291). -/
def pushAll (o : OSize) : M Unit := do
  let s ← getS
  stage o 0 [s.regs.eax, s.regs.ecx, s.regs.edx, s.regs.ebx, s.sp, s.regs.ebp, s.regs.esi, s.regs.edi]
  moveSp (-(BitVec.ofNat 32 (8 * o.bytes)))

/-- POPA and POPAD: eight reads, then the writes; the slot of the stack pointer is discarded (R292). -/
def popAll (o : OSize) : M Unit := do
  let di ← peek o 0
  let si ← peek o (1 * o.bytes)
  let bp ← peek o (2 * o.bytes)
  let _ ← peek o (3 * o.bytes)
  let bx ← peek o (4 * o.bytes)
  let dx ← peek o (5 * o.bytes)
  let cx ← peek o (6 * o.bytes)
  let ax ← peek o (7 * o.bytes)
  writeReg o.size .edi di
  writeReg o.size .esi si
  writeReg o.size .ebp bp
  writeReg o.size .ebx bx
  writeReg o.size .edx dx
  writeReg o.size .ecx cx
  writeReg o.size .eax ax
  moveSp (BitVec.ofNat 32 (8 * o.bytes))

/-- What PUSHF pushes: RF and VM read as 0 in the 32-bit image (R293). -/
def pushfImage (o : OSize) (f : Flags) : Word :=
  match o with
  | .o16 => f.image
  | .o32 => f.image &&& 0xFFFCFFFF

/-- PUSHF and PUSHFD (R293). -/
def pushFlags (o : OSize) : M Unit := do
  let s ← getS
  push o (pushfImage o s.flags)

/-- POPF and POPFD (R294). -/
def popFlags (o : OSize) : M Unit := do
  let s ← getS
  let v ← pop o
  writeFlags v (popfMask s.pe s.cpl s.flags.iopl o)

/-! ## The instructions -/

/-- PUSH rv, the register in the opcode (R286). -/
def execPushRv (o : OSize) (r : Reg) (s : State) : Host.Outcome State Fault Refusal := run (pushReg o r) s

/-- POP rv, the register in the opcode (R289). -/
def execPopRv (o : OSize) (r : Reg) (s : State) : Host.Outcome State Fault Refusal := run (popReg o r) s

/-- PUSH immv (R287). -/
def execPushImmv (i : ImmV) (s : State) : Host.Outcome State Fault Refusal := run (push i.osize (immVal i)) s

/-- PUSH sign-extended imm8 (R287). -/
def execPushSx8 (o : OSize) (i : Byte) (s : State) : Host.Outcome State Fault Refusal := run (push o (sextByte o.size i)) s

/-- PUSH ES (R288). -/
def execPushEs (o : OSize) (s : State) : Host.Outcome State Fault Refusal := run (pushSeg o .es) s

/-- PUSH CS (R288). -/
def execPushCs (o : OSize) (s : State) : Host.Outcome State Fault Refusal := run (pushSeg o .cs) s

/-- PUSH SS (R288). -/
def execPushSs (o : OSize) (s : State) : Host.Outcome State Fault Refusal := run (pushSeg o .ss) s

/-- PUSH DS (R288). -/
def execPushDs (o : OSize) (s : State) : Host.Outcome State Fault Refusal := run (pushSeg o .ds) s

/-- PUSH FS (R288). -/
def execPushFs (o : OSize) (s : State) : Host.Outcome State Fault Refusal := run (pushSeg o .fs) s

/-- PUSH GS (R288). -/
def execPushGs (o : OSize) (s : State) : Host.Outcome State Fault Refusal := run (pushSeg o .gs) s

/-- POP ES (R290). -/
def execPopEs (o : OSize) (s : State) : Host.Outcome State Fault Refusal := run (popSeg o .es) s

/-- POP SS (R290). -/
def execPopSs (o : OSize) (s : State) : Host.Outcome State Fault Refusal := run (popSeg o .ss) s

/-- POP DS (R290). -/
def execPopDs (o : OSize) (s : State) : Host.Outcome State Fault Refusal := run (popSeg o .ds) s

/-- POP FS (R290). -/
def execPopFs (o : OSize) (s : State) : Host.Outcome State Fault Refusal := run (popSeg o .fs) s

/-- POP GS (R290). -/
def execPopGs (o : OSize) (s : State) : Host.Outcome State Fault Refusal := run (popSeg o .gs) s

/-- PUSHA / PUSHAD (R291). -/
def execPusha (o : OSize) (s : State) : Host.Outcome State Fault Refusal := run (pushAll o) s

/-- POPA / POPAD (R292). -/
def execPopa (o : OSize) (s : State) : Host.Outcome State Fault Refusal := run (popAll o) s

/-- PUSHF / PUSHFD (R293). -/
def execPushf (o : OSize) (s : State) : Host.Outcome State Fault Refusal := run (pushFlags o) s

/-- POPF / POPFD (R294). -/
def execPopf (o : OSize) (s : State) : Host.Outcome State Fault Refusal := run (popFlags o) s

end Sys2Proof.Machine
end

