-- ==== Sys2Proof/Machine/System.lean ====
section
/-! DEFINITION. The meanings of the system and port instructions (spec/47_system.md). -/

namespace Sys2Proof.Machine

/-- HLT (R360). -/
def halt : M Unit := do
  requireCpl0
  modS fun s => { s with halted := true }

/-- The operand of LGDT and LIDT: a limit, then a base, of 24 bits at operand size 16 (R361). -/
def readTable (o : OSize) (m : MemOp) : M TableReg := do
  requireCpl0
  let s ← getS
  let off := memOff s.regs m
  let lim ← memRead (memSeg m) off 2
  let b ← memRead (memSeg m) (off + 2) 4
  let base : Word := b.setWidth 32
  pure { base := match o with | .o16 => base &&& 0x00FFFFFF | .o32 => base, limit := lim.setWidth 16 }

/-- LGDT (R361). -/
def loadGdt (o : OSize) (m : MemOp) : M Unit := do
  let t ← readTable o m
  modS fun s => { s with gdtr := t }

/-- LIDT (R362). -/
def loadIdt (o : OSize) (m : MemOp) : M Unit := do
  let t ← readTable o m
  modS fun s => { s with idtr := t }

/-- LLDT and LTR do not exist in real mode (R363, R369). -/
def requireProtected : M Unit := do
  let s ← getS
  raiseIf (s.pe = false) Exc.ud

/-- LLDT (R363). -/
def loadLdt (src : Loc) : M Unit := do
  requireProtected
  requireCpl0
  let v ← readLoc .w src
  let sel : Half := v.setWidth 16
  if selIndex sel = 0 then modS fun s => { s with ldtr := { selector := sel, base := 0, limit := 0, null := true } }
  else
    raiseIf (selTI sel = true) (Exc.gp (selCode sel))
    let d ← descRead sel vGP
    raiseIf (descS d = true ∨ descType d ≠ 2) (Exc.gp (selCode sel))
    raiseIf (descP d = false) (Exc.np (selCode sel))
    writeLdtr sel d

/-- LTR (R369). -/
def loadTask (src : Loc) : M Unit := do
  requireProtected
  requireCpl0
  let v ← readLoc .w src
  let sel : Half := v.setWidth 16
  raiseIf (selIndex sel = 0) (Exc.gp 0)
  raiseIf (selTI sel = true) (Exc.gp (selCode sel))
  let d ← descRead sel vGP
  raiseIf (isAvailableTss d = false) (Exc.gp (selCode sel))
  raiseIf (descP d = false) (Exc.np (selCode sel))
  let s ← getS
  sysWrite (s.gdtr.base + BitVec.ofNat 32 (selIndex sel * 8) + 5) 1 ((descAccess d ||| 2).setWidth 64)
  modS fun s =>
    { s with tr := { selector := sel, base := descBase d, limit := descLimit d, is32 := descType d == 9 } }

/-- MOV r32, CRn (R364). -/
def readControl (r : Reg) (n : CReg) : M Unit := do
  requireCpl0
  let s ← getS
  writeReg .d r (s.getCr n)

/-- MOV CRn, r32: paging needs protection (R365). -/
def writeControl (n : CReg) (r : Reg) : M Unit := do
  requireCpl0
  let v ← readReg .d r
  raiseIf (n = .cr0 ∧ v.getLsbD 31 = true ∧ v.getLsbD 0 = false) (Exc.gp 0)
  modS fun s => s.setCr n v

/-- MOV r32, DRn (R366). -/
def readDebug (r : Reg) (n : DReg) : M Unit := do
  requireCpl0
  let s ← getS
  writeReg .d r (s.dr.get n)

/-- MOV DRn, r32 (R367). -/
def writeDebug (n : DReg) (r : Reg) : M Unit := do
  requireCpl0
  let v ← readReg .d r
  modS fun s => { s with dr := s.dr.set n v }

/-- CLTS (R368). -/
def clearTs : M Unit := do
  requireCpl0
  modS fun s => { s with cr0 := s.cr0 &&& 0xFFFFFFF7 }

/-! ## Port I/O (spec/20_memory.md R113, R114) -/

/-- The bitmap bits of n ports from q on (R114). -/
def checkPorts (bitmap : Word) : Nat → Nat → M Unit
  | _, 0 => pure ()
  | q, n + 1 => do
    let s ← getS
    let off := bitmap.toNat + q / 8
    raiseIf (s.tr.limit.toNat < off) (Exc.gp 0)
    let b ← sysRead (s.tr.base + BitVec.ofNat 32 off) 1
    raiseIf (b.getLsbD (q % 8) = true) (Exc.gp 0)
    checkPorts bitmap (q + 1) n

/-- A port access needs the TSS bitmap's permission: protected mode with CPL above IOPL (R114). -/
def State.portsGuarded (s : State) : Bool := s.pe && decide (s.flags.iopl.toNat < s.cpl.toNat)

/-- The permission check of a port access (R114). -/
def checkPort (port : Half) (n : Nat) : M Unit := do
  let s ← getS
  if s.portsGuarded then
    raiseIf (s.tr.is32 = false) (Exc.gp 0)
    let bitmap ← sysRead (s.tr.base + 0x66) 2
    checkPorts (bitmap.setWidth 32) port.toNat n
  else pure ()

/-- Whether a device claims a port (R113, log 11). -/
def State.claimed (s : State) (port : Half) : Bool := s.params.ports.contains port

/-- What the device side answers to a port read: all ones from an unclaimed port (R113). -/
def State.portValue (s : State) (sz : Size) (port : Half) : Word :=
  if s.claimed port then cut sz (Config.ioRead s.events port sz.bytes) else cut sz 0xFFFFFFFF

/-- What a claimed port's device has seen after an access; an unclaimed port's access is dropped (R113, log 5). -/
def State.logPort (s : State) (port : Half) (e : DevEvent) : State := if s.claimed port then s.log e else s

/-- IoRead(port, n) (R113). -/
def ioRead (sz : Size) (port : Half) : M Word := do
  checkPort port sz.bytes
  let s ← getS
  modS fun s => s.logPort port (.portRead port sz.bytes)
  pure (s.portValue sz port)

/-- IoWrite(port, n, v) (R113). -/
def ioWrite (sz : Size) (port : Half) (v : Word) : M Unit := do
  checkPort port sz.bytes
  modS fun s => s.logPort port (.portWrite port sz.bytes v)

/-- IN into AL, AX or EAX (R370, R371). -/
def portIn (sz : Size) (port : Half) : M Unit := do
  let v ← ioRead sz port
  writeReg sz .eax v

/-- OUT from AL, AX or EAX (R372, R373). -/
def portOut (sz : Size) (port : Half) : M Unit := do
  let v ← readReg sz .eax
  ioWrite sz port v

/-- The port number in DX (R371, R373). -/
def portDx (s : State) : Half := s.regs.edx.setWidth 16

/-- BOUND (R374). -/
def boundCheck (o : OSize) (r : Reg) (m : MemOp) : M Unit := do
  let s ← getS
  let off := memOff s.regs m
  let lo ← memRead (memSeg m) off o.bytes
  let hi ← memRead (memSeg m) (off + o.bytes) o.bytes
  let i := signed o.size (s.regs.view o.size r)
  raiseIf (i < signed o.size (lo.setWidth 32) ∨ signed o.size (hi.setWidth 32) < i) Exc.br

/-! ## The instructions -/

/-- HLT (R360). -/
def execHlt (s : State) : Host.Outcome State Fault Refusal := run halt s

/-- LGDT m (R361). -/
def execLgdt (o : OSize) (m : MemOp) (s : State) : Host.Outcome State Fault Refusal := run (loadGdt o m) s

/-- LIDT m (R362). -/
def execLidt (o : OSize) (m : MemOp) (s : State) : Host.Outcome State Fault Refusal := run (loadIdt o m) s

/-- LLDT r/m16 (R363). -/
def execLldt (m : Rm) (s : State) : Host.Outcome State Fault Refusal := run (loadLdt (rmv m s)) s

/-- LTR r/m16 (R369). -/
def execLtr (m : Rm) (s : State) : Host.Outcome State Fault Refusal := run (loadTask (rmv m s)) s

/-- MOV r32, CRn (R364). -/
def execMovR32Cr (r : Reg) (c : CReg) (s : State) : Host.Outcome State Fault Refusal := run (readControl r c) s

/-- MOV CRn, r32 (R365). -/
def execMovCrR32 (c : CReg) (r : Reg) (s : State) : Host.Outcome State Fault Refusal := run (writeControl c r) s

/-- MOV r32, DRn (R366). -/
def execMovR32Dr (r : Reg) (n : DReg) (s : State) : Host.Outcome State Fault Refusal := run (readDebug r n) s

/-- MOV DRn, r32 (R367). -/
def execMovDrR32 (n : DReg) (r : Reg) (s : State) : Host.Outcome State Fault Refusal := run (writeDebug n r) s

/-- CLTS (R368). -/
def execClts (s : State) : Host.Outcome State Fault Refusal := run clearTs s

/-- IN AL, imm8 (R370). -/
def execInAlImm8 (i : Byte) (s : State) : Host.Outcome State Fault Refusal := run (portIn .b (i.setWidth 16)) s

/-- IN eAX, imm8 (R370). -/
def execInEaxImm8 (o : OSize) (i : Byte) (s : State) : Host.Outcome State Fault Refusal := run (portIn o.size (i.setWidth 16)) s

/-- IN AL, DX (R371). -/
def execInAlDx (s : State) : Host.Outcome State Fault Refusal := run (portIn .b (portDx s)) s

/-- IN eAX, DX (R371). -/
def execInEaxDx (o : OSize) (s : State) : Host.Outcome State Fault Refusal := run (portIn o.size (portDx s)) s

/-- OUT imm8, AL (R372). -/
def execOutImm8Al (i : Byte) (s : State) : Host.Outcome State Fault Refusal := run (portOut .b (i.setWidth 16)) s

/-- OUT imm8, eAX (R372). -/
def execOutImm8Eax (o : OSize) (i : Byte) (s : State) : Host.Outcome State Fault Refusal :=
  run (portOut o.size (i.setWidth 16)) s

/-- OUT DX, AL (R373). -/
def execOutDxAl (s : State) : Host.Outcome State Fault Refusal := run (portOut .b (portDx s)) s

/-- OUT DX, eAX (R373). -/
def execOutDxEax (o : OSize) (s : State) : Host.Outcome State Fault Refusal := run (portOut o.size (portDx s)) s

/-- BOUND rv, m (R374). -/
def execBound (o : OSize) (r : Reg) (m : MemOp) (s : State) : Host.Outcome State Fault Refusal := run (boundCheck o r m) s

end Sys2Proof.Machine
end

