-- ==== Sys2Proof/Machine/Dispatch.lean ====
section
/-! DEFINITION. One arm for each instruction, one direct call of its meaning. -/

namespace Sys2Proof.Machine

/-- The meaning of every instruction. -/
def exec (i : Instr) (s : State) : Host.Outcome State Fault Refusal :=
  match i with
  | .addRm8R8 m r => Sys2Proof.Machine.execAddRm8R8 m r s
  | .addRmvRv o m r => Sys2Proof.Machine.execAddRmvRv o m r s
  | .addR8Rm8 r m => Sys2Proof.Machine.execAddR8Rm8 r m s
  | .addRvRmv o r m => Sys2Proof.Machine.execAddRvRmv o r m s
  | .addAlImm8 imm => Sys2Proof.Machine.execAddAlImm8 imm s
  | .addEaxImmv imm => Sys2Proof.Machine.execAddEaxImmv imm s
  | .addRm8Imm8 m imm => Sys2Proof.Machine.execAddRm8Imm8 m imm s
  | .addRmvImmv m imm => Sys2Proof.Machine.execAddRmvImmv m imm s
  | .addRmvSx8 o m imm => Sys2Proof.Machine.execAddRmvSx8 o m imm s
  | .orRm8R8 m r => Sys2Proof.Machine.execOrRm8R8 m r s
  | .orRmvRv o m r => Sys2Proof.Machine.execOrRmvRv o m r s
  | .orR8Rm8 r m => Sys2Proof.Machine.execOrR8Rm8 r m s
  | .orRvRmv o r m => Sys2Proof.Machine.execOrRvRmv o r m s
  | .orAlImm8 imm => Sys2Proof.Machine.execOrAlImm8 imm s
  | .orEaxImmv imm => Sys2Proof.Machine.execOrEaxImmv imm s
  | .orRm8Imm8 m imm => Sys2Proof.Machine.execOrRm8Imm8 m imm s
  | .orRmvImmv m imm => Sys2Proof.Machine.execOrRmvImmv m imm s
  | .orRmvSx8 o m imm => Sys2Proof.Machine.execOrRmvSx8 o m imm s
  | .adcRm8R8 m r => Sys2Proof.Machine.execAdcRm8R8 m r s
  | .adcRmvRv o m r => Sys2Proof.Machine.execAdcRmvRv o m r s
  | .adcR8Rm8 r m => Sys2Proof.Machine.execAdcR8Rm8 r m s
  | .adcRvRmv o r m => Sys2Proof.Machine.execAdcRvRmv o r m s
  | .adcAlImm8 imm => Sys2Proof.Machine.execAdcAlImm8 imm s
  | .adcEaxImmv imm => Sys2Proof.Machine.execAdcEaxImmv imm s
  | .adcRm8Imm8 m imm => Sys2Proof.Machine.execAdcRm8Imm8 m imm s
  | .adcRmvImmv m imm => Sys2Proof.Machine.execAdcRmvImmv m imm s
  | .adcRmvSx8 o m imm => Sys2Proof.Machine.execAdcRmvSx8 o m imm s
  | .sbbRm8R8 m r => Sys2Proof.Machine.execSbbRm8R8 m r s
  | .sbbRmvRv o m r => Sys2Proof.Machine.execSbbRmvRv o m r s
  | .sbbR8Rm8 r m => Sys2Proof.Machine.execSbbR8Rm8 r m s
  | .sbbRvRmv o r m => Sys2Proof.Machine.execSbbRvRmv o r m s
  | .sbbAlImm8 imm => Sys2Proof.Machine.execSbbAlImm8 imm s
  | .sbbEaxImmv imm => Sys2Proof.Machine.execSbbEaxImmv imm s
  | .sbbRm8Imm8 m imm => Sys2Proof.Machine.execSbbRm8Imm8 m imm s
  | .sbbRmvImmv m imm => Sys2Proof.Machine.execSbbRmvImmv m imm s
  | .sbbRmvSx8 o m imm => Sys2Proof.Machine.execSbbRmvSx8 o m imm s
  | .andRm8R8 m r => Sys2Proof.Machine.execAndRm8R8 m r s
  | .andRmvRv o m r => Sys2Proof.Machine.execAndRmvRv o m r s
  | .andR8Rm8 r m => Sys2Proof.Machine.execAndR8Rm8 r m s
  | .andRvRmv o r m => Sys2Proof.Machine.execAndRvRmv o r m s
  | .andAlImm8 imm => Sys2Proof.Machine.execAndAlImm8 imm s
  | .andEaxImmv imm => Sys2Proof.Machine.execAndEaxImmv imm s
  | .andRm8Imm8 m imm => Sys2Proof.Machine.execAndRm8Imm8 m imm s
  | .andRmvImmv m imm => Sys2Proof.Machine.execAndRmvImmv m imm s
  | .andRmvSx8 o m imm => Sys2Proof.Machine.execAndRmvSx8 o m imm s
  | .subRm8R8 m r => Sys2Proof.Machine.execSubRm8R8 m r s
  | .subRmvRv o m r => Sys2Proof.Machine.execSubRmvRv o m r s
  | .subR8Rm8 r m => Sys2Proof.Machine.execSubR8Rm8 r m s
  | .subRvRmv o r m => Sys2Proof.Machine.execSubRvRmv o r m s
  | .subAlImm8 imm => Sys2Proof.Machine.execSubAlImm8 imm s
  | .subEaxImmv imm => Sys2Proof.Machine.execSubEaxImmv imm s
  | .subRm8Imm8 m imm => Sys2Proof.Machine.execSubRm8Imm8 m imm s
  | .subRmvImmv m imm => Sys2Proof.Machine.execSubRmvImmv m imm s
  | .subRmvSx8 o m imm => Sys2Proof.Machine.execSubRmvSx8 o m imm s
  | .xorRm8R8 m r => Sys2Proof.Machine.execXorRm8R8 m r s
  | .xorRmvRv o m r => Sys2Proof.Machine.execXorRmvRv o m r s
  | .xorR8Rm8 r m => Sys2Proof.Machine.execXorR8Rm8 r m s
  | .xorRvRmv o r m => Sys2Proof.Machine.execXorRvRmv o r m s
  | .xorAlImm8 imm => Sys2Proof.Machine.execXorAlImm8 imm s
  | .xorEaxImmv imm => Sys2Proof.Machine.execXorEaxImmv imm s
  | .xorRm8Imm8 m imm => Sys2Proof.Machine.execXorRm8Imm8 m imm s
  | .xorRmvImmv m imm => Sys2Proof.Machine.execXorRmvImmv m imm s
  | .xorRmvSx8 o m imm => Sys2Proof.Machine.execXorRmvSx8 o m imm s
  | .cmpRm8R8 m r => Sys2Proof.Machine.execCmpRm8R8 m r s
  | .cmpRmvRv o m r => Sys2Proof.Machine.execCmpRmvRv o m r s
  | .cmpR8Rm8 r m => Sys2Proof.Machine.execCmpR8Rm8 r m s
  | .cmpRvRmv o r m => Sys2Proof.Machine.execCmpRvRmv o r m s
  | .cmpAlImm8 imm => Sys2Proof.Machine.execCmpAlImm8 imm s
  | .cmpEaxImmv imm => Sys2Proof.Machine.execCmpEaxImmv imm s
  | .cmpRm8Imm8 m imm => Sys2Proof.Machine.execCmpRm8Imm8 m imm s
  | .cmpRmvImmv m imm => Sys2Proof.Machine.execCmpRmvImmv m imm s
  | .cmpRmvSx8 o m imm => Sys2Proof.Machine.execCmpRmvSx8 o m imm s
  | .incRv o r => Sys2Proof.Machine.execIncRv o r s
  | .incRm8 m => Sys2Proof.Machine.execIncRm8 m s
  | .incRmv o m => Sys2Proof.Machine.execIncRmv o m s
  | .decRv o r => Sys2Proof.Machine.execDecRv o r s
  | .decRm8 m => Sys2Proof.Machine.execDecRm8 m s
  | .decRmv o m => Sys2Proof.Machine.execDecRmv o m s
  | .testRm8Imm8 m imm => Sys2Proof.Machine.execTestRm8Imm8 m imm s
  | .testRmvImmv m imm => Sys2Proof.Machine.execTestRmvImmv m imm s
  | .notRm8 m => Sys2Proof.Machine.execNotRm8 m s
  | .notRmv o m => Sys2Proof.Machine.execNotRmv o m s
  | .negRm8 m => Sys2Proof.Machine.execNegRm8 m s
  | .negRmv o m => Sys2Proof.Machine.execNegRmv o m s
  | .mulRm8 m => Sys2Proof.Machine.execMulRm8 m s
  | .mulRmv o m => Sys2Proof.Machine.execMulRmv o m s
  | .imulRm8 m => Sys2Proof.Machine.execImulRm8 m s
  | .imulRmv o m => Sys2Proof.Machine.execImulRmv o m s
  | .divRm8 m => Sys2Proof.Machine.execDivRm8 m s
  | .divRmv o m => Sys2Proof.Machine.execDivRmv o m s
  | .idivRm8 m => Sys2Proof.Machine.execIdivRm8 m s
  | .idivRmv o m => Sys2Proof.Machine.execIdivRmv o m s
  | .testRm8R8 m r => Sys2Proof.Machine.execTestRm8R8 m r s
  | .testRmvRv o m r => Sys2Proof.Machine.execTestRmvRv o m r s
  | .testAlImm8 imm => Sys2Proof.Machine.execTestAlImm8 imm s
  | .testEaxImmv imm => Sys2Proof.Machine.execTestEaxImmv imm s
  | .imulRvRmv o r m => Sys2Proof.Machine.execImulRvRmv o r m s
  | .imulRvRmvImmv r m imm => Sys2Proof.Machine.execImulRvRmvImmv r m imm s
  | .imulRvRmvSx8 o r m imm => Sys2Proof.Machine.execImulRvRmvSx8 o r m imm s
  | .rolRm8Imm8 m imm => Sys2Proof.Machine.execRolRm8Imm8 m imm s
  | .rolRmvImm8 o m imm => Sys2Proof.Machine.execRolRmvImm8 o m imm s
  | .rolRm8One m => Sys2Proof.Machine.execRolRm8One m s
  | .rolRmvOne o m => Sys2Proof.Machine.execRolRmvOne o m s
  | .rolRm8Cl m => Sys2Proof.Machine.execRolRm8Cl m s
  | .rolRmvCl o m => Sys2Proof.Machine.execRolRmvCl o m s
  | .rorRm8Imm8 m imm => Sys2Proof.Machine.execRorRm8Imm8 m imm s
  | .rorRmvImm8 o m imm => Sys2Proof.Machine.execRorRmvImm8 o m imm s
  | .rorRm8One m => Sys2Proof.Machine.execRorRm8One m s
  | .rorRmvOne o m => Sys2Proof.Machine.execRorRmvOne o m s
  | .rorRm8Cl m => Sys2Proof.Machine.execRorRm8Cl m s
  | .rorRmvCl o m => Sys2Proof.Machine.execRorRmvCl o m s
  | .rclRm8Imm8 m imm => Sys2Proof.Machine.execRclRm8Imm8 m imm s
  | .rclRmvImm8 o m imm => Sys2Proof.Machine.execRclRmvImm8 o m imm s
  | .rclRm8One m => Sys2Proof.Machine.execRclRm8One m s
  | .rclRmvOne o m => Sys2Proof.Machine.execRclRmvOne o m s
  | .rclRm8Cl m => Sys2Proof.Machine.execRclRm8Cl m s
  | .rclRmvCl o m => Sys2Proof.Machine.execRclRmvCl o m s
  | .rcrRm8Imm8 m imm => Sys2Proof.Machine.execRcrRm8Imm8 m imm s
  | .rcrRmvImm8 o m imm => Sys2Proof.Machine.execRcrRmvImm8 o m imm s
  | .rcrRm8One m => Sys2Proof.Machine.execRcrRm8One m s
  | .rcrRmvOne o m => Sys2Proof.Machine.execRcrRmvOne o m s
  | .rcrRm8Cl m => Sys2Proof.Machine.execRcrRm8Cl m s
  | .rcrRmvCl o m => Sys2Proof.Machine.execRcrRmvCl o m s
  | .shlRm8Imm8 m imm => Sys2Proof.Machine.execShlRm8Imm8 m imm s
  | .shlRmvImm8 o m imm => Sys2Proof.Machine.execShlRmvImm8 o m imm s
  | .shlRm8One m => Sys2Proof.Machine.execShlRm8One m s
  | .shlRmvOne o m => Sys2Proof.Machine.execShlRmvOne o m s
  | .shlRm8Cl m => Sys2Proof.Machine.execShlRm8Cl m s
  | .shlRmvCl o m => Sys2Proof.Machine.execShlRmvCl o m s
  | .shrRm8Imm8 m imm => Sys2Proof.Machine.execShrRm8Imm8 m imm s
  | .shrRmvImm8 o m imm => Sys2Proof.Machine.execShrRmvImm8 o m imm s
  | .shrRm8One m => Sys2Proof.Machine.execShrRm8One m s
  | .shrRmvOne o m => Sys2Proof.Machine.execShrRmvOne o m s
  | .shrRm8Cl m => Sys2Proof.Machine.execShrRm8Cl m s
  | .shrRmvCl o m => Sys2Proof.Machine.execShrRmvCl o m s
  | .sarRm8Imm8 m imm => Sys2Proof.Machine.execSarRm8Imm8 m imm s
  | .sarRmvImm8 o m imm => Sys2Proof.Machine.execSarRmvImm8 o m imm s
  | .sarRm8One m => Sys2Proof.Machine.execSarRm8One m s
  | .sarRmvOne o m => Sys2Proof.Machine.execSarRmvOne o m s
  | .sarRm8Cl m => Sys2Proof.Machine.execSarRm8Cl m s
  | .sarRmvCl o m => Sys2Proof.Machine.execSarRmvCl o m s
  | .cbwCwde o => Sys2Proof.Machine.execCbwCwde o s
  | .cwdCdq o => Sys2Proof.Machine.execCwdCdq o s
  | .daa => Sys2Proof.Machine.execDaa s
  | .das => Sys2Proof.Machine.execDas s
  | .aaa => Sys2Proof.Machine.execAaa s
  | .aas => Sys2Proof.Machine.execAas s
  | .aam imm => Sys2Proof.Machine.execAam imm s
  | .aad imm => Sys2Proof.Machine.execAad imm s
  | .movRm8R8 m r => Sys2Proof.Machine.execMovRm8R8 m r s
  | .movRmvRv o m r => Sys2Proof.Machine.execMovRmvRv o m r s
  | .movR8Rm8 r m => Sys2Proof.Machine.execMovR8Rm8 r m s
  | .movRvRmv o r m => Sys2Proof.Machine.execMovRvRmv o r m s
  | .movR8Imm8 r imm => Sys2Proof.Machine.execMovR8Imm8 r imm s
  | .movRvImmv r imm => Sys2Proof.Machine.execMovRvImmv r imm s
  | .movRm8Imm8 m imm => Sys2Proof.Machine.execMovRm8Imm8 m imm s
  | .movRmvImmv m imm => Sys2Proof.Machine.execMovRmvImmv m imm s
  | .movAlMoffs g a => Sys2Proof.Machine.execMovAlMoffs g a s
  | .movEaxMoffs o g a => Sys2Proof.Machine.execMovEaxMoffs o g a s
  | .movMoffsAl g a => Sys2Proof.Machine.execMovMoffsAl g a s
  | .movMoffsEax o g a => Sys2Proof.Machine.execMovMoffsEax o g a s
  | .movRm16Sreg o m g => Sys2Proof.Machine.execMovRm16Sreg o m g s
  | .movSregRm16 g m => Sys2Proof.Machine.execMovSregRm16 g m s
  | .lea o r m => Sys2Proof.Machine.execLea o r m s
  | .nop => Sys2Proof.Machine.execNop s
  | .pushRv o r => Sys2Proof.Machine.execPushRv o r s
  | .popRv o r => Sys2Proof.Machine.execPopRv o r s
  | .pushImmv imm => Sys2Proof.Machine.execPushImmv imm s
  | .pushSx8 o imm => Sys2Proof.Machine.execPushSx8 o imm s
  | .pushEs o => Sys2Proof.Machine.execPushEs o s
  | .pushCs o => Sys2Proof.Machine.execPushCs o s
  | .pushSs o => Sys2Proof.Machine.execPushSs o s
  | .pushDs o => Sys2Proof.Machine.execPushDs o s
  | .pushFs o => Sys2Proof.Machine.execPushFs o s
  | .pushGs o => Sys2Proof.Machine.execPushGs o s
  | .popEs o => Sys2Proof.Machine.execPopEs o s
  | .popSs o => Sys2Proof.Machine.execPopSs o s
  | .popDs o => Sys2Proof.Machine.execPopDs o s
  | .popFs o => Sys2Proof.Machine.execPopFs o s
  | .popGs o => Sys2Proof.Machine.execPopGs o s
  | .pusha o => Sys2Proof.Machine.execPusha o s
  | .popa o => Sys2Proof.Machine.execPopa o s
  | .pushf o => Sys2Proof.Machine.execPushf o s
  | .popf o => Sys2Proof.Machine.execPopf o s
  | .lahf => Sys2Proof.Machine.execLahf s
  | .sahf => Sys2Proof.Machine.execSahf s
  | .clc => Sys2Proof.Machine.execClc s
  | .stc => Sys2Proof.Machine.execStc s
  | .cmc => Sys2Proof.Machine.execCmc s
  | .cld => Sys2Proof.Machine.execCld s
  | .std => Sys2Proof.Machine.execStd s
  | .cli => Sys2Proof.Machine.execCli s
  | .sti => Sys2Proof.Machine.execSti s
  | .jmpRel8 o imm => Sys2Proof.Machine.execJmpRel8 o imm s
  | .jmpRelv imm => Sys2Proof.Machine.execJmpRelv imm s
  | .jmpRmv o m => Sys2Proof.Machine.execJmpRmv o m s
  | .joRel8 o imm => Sys2Proof.Machine.execJoRel8 o imm s
  | .jnoRel8 o imm => Sys2Proof.Machine.execJnoRel8 o imm s
  | .jbRel8 o imm => Sys2Proof.Machine.execJbRel8 o imm s
  | .jaeRel8 o imm => Sys2Proof.Machine.execJaeRel8 o imm s
  | .jeRel8 o imm => Sys2Proof.Machine.execJeRel8 o imm s
  | .jneRel8 o imm => Sys2Proof.Machine.execJneRel8 o imm s
  | .jbeRel8 o imm => Sys2Proof.Machine.execJbeRel8 o imm s
  | .jaRel8 o imm => Sys2Proof.Machine.execJaRel8 o imm s
  | .jsRel8 o imm => Sys2Proof.Machine.execJsRel8 o imm s
  | .jnsRel8 o imm => Sys2Proof.Machine.execJnsRel8 o imm s
  | .jpRel8 o imm => Sys2Proof.Machine.execJpRel8 o imm s
  | .jnpRel8 o imm => Sys2Proof.Machine.execJnpRel8 o imm s
  | .jlRel8 o imm => Sys2Proof.Machine.execJlRel8 o imm s
  | .jgeRel8 o imm => Sys2Proof.Machine.execJgeRel8 o imm s
  | .jleRel8 o imm => Sys2Proof.Machine.execJleRel8 o imm s
  | .jgRel8 o imm => Sys2Proof.Machine.execJgRel8 o imm s
  | .joRelv imm => Sys2Proof.Machine.execJoRelv imm s
  | .jnoRelv imm => Sys2Proof.Machine.execJnoRelv imm s
  | .jbRelv imm => Sys2Proof.Machine.execJbRelv imm s
  | .jaeRelv imm => Sys2Proof.Machine.execJaeRelv imm s
  | .jeRelv imm => Sys2Proof.Machine.execJeRelv imm s
  | .jneRelv imm => Sys2Proof.Machine.execJneRelv imm s
  | .jbeRelv imm => Sys2Proof.Machine.execJbeRelv imm s
  | .jaRelv imm => Sys2Proof.Machine.execJaRelv imm s
  | .jsRelv imm => Sys2Proof.Machine.execJsRelv imm s
  | .jnsRelv imm => Sys2Proof.Machine.execJnsRelv imm s
  | .jpRelv imm => Sys2Proof.Machine.execJpRelv imm s
  | .jnpRelv imm => Sys2Proof.Machine.execJnpRelv imm s
  | .jlRelv imm => Sys2Proof.Machine.execJlRelv imm s
  | .jgeRelv imm => Sys2Proof.Machine.execJgeRelv imm s
  | .jleRelv imm => Sys2Proof.Machine.execJleRelv imm s
  | .jgRelv imm => Sys2Proof.Machine.execJgRelv imm s
  | .callRelv imm => Sys2Proof.Machine.execCallRelv imm s
  | .callRmv o m => Sys2Proof.Machine.execCallRmv o m s
  | .jmpFar imm sel => Sys2Proof.Machine.execJmpFar imm sel s
  | .callFar imm sel => Sys2Proof.Machine.execCallFar imm sel s
  | .ret o => Sys2Proof.Machine.execRet o s
  | .retImm16 o imm => Sys2Proof.Machine.execRetImm16 o imm s
  | .retf o => Sys2Proof.Machine.execRetf o s
  | .retfImm16 o imm => Sys2Proof.Machine.execRetfImm16 o imm s
  | .iret o => Sys2Proof.Machine.execIret o s
  | .int imm => Sys2Proof.Machine.execInt imm s
  | .int3 => Sys2Proof.Machine.execInt3 s
  | .into => Sys2Proof.Machine.execInto s
  | .hlt => Sys2Proof.Machine.execHlt s
  | .lgdt o m => Sys2Proof.Machine.execLgdt o m s
  | .lidt o m => Sys2Proof.Machine.execLidt o m s
  | .lldt m => Sys2Proof.Machine.execLldt m s
  | .ltr m => Sys2Proof.Machine.execLtr m s
  | .movR32Cr r c => Sys2Proof.Machine.execMovR32Cr r c s
  | .movCrR32 c r => Sys2Proof.Machine.execMovCrR32 c r s
  | .movR32Dr r n => Sys2Proof.Machine.execMovR32Dr r n s
  | .movDrR32 n r => Sys2Proof.Machine.execMovDrR32 n r s
  | .clts => Sys2Proof.Machine.execClts s
  | .inAlImm8 imm => Sys2Proof.Machine.execInAlImm8 imm s
  | .inEaxImm8 o imm => Sys2Proof.Machine.execInEaxImm8 o imm s
  | .inAlDx => Sys2Proof.Machine.execInAlDx s
  | .inEaxDx o => Sys2Proof.Machine.execInEaxDx o s
  | .outImm8Al imm => Sys2Proof.Machine.execOutImm8Al imm s
  | .outImm8Eax o imm => Sys2Proof.Machine.execOutImm8Eax o imm s
  | .outDxAl => Sys2Proof.Machine.execOutDxAl s
  | .outDxEax o => Sys2Proof.Machine.execOutDxEax o s
  | .bound o r m => Sys2Proof.Machine.execBound o r m s
  | .prefixEs => Sys2Proof.Machine.execPrefixEs s
  | .prefixCs => Sys2Proof.Machine.execPrefixCs s
  | .prefixSs => Sys2Proof.Machine.execPrefixSs s
  | .prefixDs => Sys2Proof.Machine.execPrefixDs s
  | .prefixFs => Sys2Proof.Machine.execPrefixFs s
  | .prefixGs => Sys2Proof.Machine.execPrefixGs s
  | .prefixOpsize => Sys2Proof.Machine.execPrefixOpsize s
  | .prefixAddrsize => Sys2Proof.Machine.execPrefixAddrsize s
  | .prefixLock => Sys2Proof.Machine.execPrefixLock s
  | .prefixRepne => Sys2Proof.Machine.execPrefixRepne s
  | .prefixRep => Sys2Proof.Machine.execPrefixRep s

end Sys2Proof.Machine
end

