-- ==== Sys2Proof/Machine/Fetch.lean ====
section
/-! DEFINITION. Fetching and decoding the next instruction (spec/20_memory.md R90, spec/30_encoding.md R141 to R145, R159). -/

namespace Sys2Proof.Machine

/-- Replace the decoder's latches. -/
def State.withLatch (s : State) (l : Latch) : State := { s with latch := l }

/-- EIP and the count of fetched bytes advance by one (R90, R159). -/
def State.advance (s : State) : State :=
  (s.withEip (s.eip + 1)).withLatch { s.latch with len := s.latch.len + 1 }

/-- FetchByte() with the count of spec/30_encoding.md R144 and R159: a sixteenth byte is #GP(0). -/
def fetchByte : M Byte := do
  let s ← getS
  raiseIf (15 ≤ s.latch.len) (Exc.gp 0)
  segCheck s.cs.cache true s.eip.toNat 1 .fetch
  let b ← linRead (segLinear s.cs.cache s.eip.toNat) 1 (accAt .fetch s.cpl)
  modS State.advance
  pure (b.setWidth 8)

/-- The decoder's refusals as refusals of the machine (spec/30_encoding.md R161). -/
def refusalOf : DecodeRefusal → Refusal
  | .opcodeNotAdmitted => .opcodeNotAdmitted
  | .groupMemberNotAdmitted => .groupMemberNotAdmitted

/-- Run a decoding on fetched bytes: an invalid form is #UD as soon as its byte is read (spec/30_encoding.md R159 to R161). -/
def runDec : Dec Instr → M Instr
  | .done i => pure i
  | .ask k => do
    let b ← fetchByte
    runDec (k b)
  | .invalid => raise Exc.ud
  | .refuse r => refuse (refusalOf r)

/-- What decoding depends on in a state (spec/30_encoding.md R142, R160); the count of bytes is not part of it. -/
def State.decodeCtx (s : State) : DecodeCtx :=
  { db := s.cs.cache.db, pe := s.pe, latch := { s.latch with len := 0 } }

/-- Run a prefix row: its meaning latches, and never faults (spec/30_encoding.md R141). -/
def runPrefix (i : Instr) : M Unit := fun s =>
  match exec i s with
  | .next s' => .ok () s'
  | .fault _ => .error (.exc Exc.ud) s
  | .refused r => .error (.stop r) s

/-- Fetch one instruction: prefix rows are run as they come, until a row that is none. The bound is never met within the 15
bytes an instruction may have (spec/30_encoding.md R144, R159). -/
def fetchInstr : Nat → M Instr
  | 0 => raise (Exc.gp 0)
  | n + 1 => do
    let s ← getS
    let i ← runDec (decodeOne s.decodeCtx)
    if (Latch.empty.after i).isSome then
      runPrefix i
      fetchInstr n
    else pure i

/-- The bound of fetchInstr: one more than the bytes an instruction may have (spec/30_encoding.md R144). -/
def fetchBound : Nat := 16

/-- Save the base CS and EIP and clear the latches (spec/10_state.md R26, spec/30_encoding.md R159). -/
def State.begin (s : State) : State :=
  { s with baseCs := s.cs.selector, baseEip := s.eip, latch := Latch.empty }

/-- Fetch, decode and execute one instruction, or take the exception of the fetch (spec/60_exceptions.md R427 (b), (c)). -/
def runInstr (s : State) : Host.Outcome State Fault Refusal :=
  match fetchInstr fetchBound s.begin with
  | .ok i s' => exec i (s'.withLatch Latch.empty)
  | .error (.exc e) s' => takeException e s.begin s'
  | .error (.stop r) _ => .refused r

/-- The physical address the i-th byte from CS:EIP on is fetched from; the linear address where it is not mapped. -/
def State.fetchAddr (s : State) (i : Nat) : Word :=
  match translate (segLinear s.cs.cache s.eip.toNat + BitVec.ofNat 32 i) (accAt .fetch s.cpl) s with
  | .ok p _ => s.maskA20 p
  | .error _ _ => segLinear s.cs.cache s.eip.toNat + BitVec.ofNat 32 i

/-- Place bytes where they will be fetched from, the i-th one first. -/
def State.placeCode (s : State) : Nat → List Byte → State
  | _, [] => s
  | i, b :: bs => (s.withMem (s.mem.write (s.fetchAddr i).toNat b)).placeCode (i + 1) bs

end Sys2Proof.Machine
end

