-- ==== Sys2Proof/Machine/Loop.lean ====
section
/-! DEFINITION. The main loop: commands, the sleep loop, one instruction, and the boundary after it
(spec/60_exceptions.md R425 to R429). -/

namespace Sys2Proof.Machine

/-- Go on from a next state. -/
def andThen (o : Host.Outcome State Fault Refusal) (f : State → Host.Outcome State Fault Refusal) :
    Host.Outcome State Fault Refusal :=
  match o with
  | .next s => f s
  | .fault r => .fault r
  | .refused r => .refused r

/-! ## The boundary (R425 to R427) -/

/-- DR6.BS at a single step: a free value, set or unchanged (R425, log 4). -/
def State.stepDr6 (s : State) : State :=
  { s with
    dr := s.dr.set .dr6 (if (Config.draw s.draws).getLsbD 0 then s.dr.get .dr6 ||| 0x4000 else s.dr.get .dr6)
    draws := s.draws + 1 }

/-- Step (e): the single-step trap (R425). -/
def trapStep (s : State) : Host.Outcome State Fault Refusal :=
  if s.flags.tf then deliverEvent 1 .exception none s.eip s.stepDr6 else .next s

/-- The next answer of the PIC is used up (log 21). -/
def State.popIrq (s : State) : State := { s with irqs := s.irqs.tail }

/-- Step (f): an external interrupt, when one is pending and IF is set (R426). -/
def irqStep (s : State) : Host.Outcome State Fault Refusal :=
  match s.irqs.head? with
  | some (some v) =>
    if s.flags.ifl then deliverEvent v .external none s.eip (s.popIrq.log (.irqAck v)) else .next s.popIrq
  | some none => .next s.popIrq
  | none => .next s

/-- inhibit_next <- 0. -/
def State.uninhibit (s : State) : State := { s with inhibitNext := false }

/-- Boundary() (R427); a triple fault at step (e) ends it (R413). -/
def boundary (s : State) : Host.Outcome State Fault Refusal :=
  if s.inhibitNext then .next s.uninhibit
  else andThen (trapStep s) fun s1 => if s1.shutdown then .next s1 else irqStep s1

/-- What follows an instruction or its exception: nothing after a triple fault or a completed HLT, else the boundary
(R413, R427). -/
def finish (s : State) : Host.Outcome State Fault Refusal :=
  if s.shutdown || s.halted then .next s else boundary s

/-! ## Commands and the sleep loop (R428, R429) -/

/-- The next command sample is used up. -/
def State.popCommand (s : State) : State := { s with commands := s.commands.tail }

/-- HardReboot: the reset, with the same parameters; the inputs still to come, the device history and the count of free
values are the outside's and stay (R429, spec/70_reset_and_hazards.md R468, log 28). -/
def State.reboot (s : State) : State :=
  { State.resetWith s.params with
    irqs := s.irqs, commands := s.commands, a20Writes := s.a20Writes, events := s.events, draws := s.draws }

/-- The outside's write to a20_enabled before this step (spec/10_state.md R51). -/
def State.takeA20 (s : State) : State :=
  { s with a20 := (s.a20Writes.head?.join).getD s.a20, a20Writes := s.a20Writes.tail }

/-- An IRQ is pending at the next sample. -/
def State.irqPending (s : State) : Bool := (s.irqs.head?.join).isSome

/-- halted <- 0. -/
def State.wake (s : State) : State := { s with halted := false }

/-- SleepStep(): wake for a pending IRQ with IF set, and take it at the boundary; else stay (R428, log 21). -/
def sleepStep (s : State) : Host.Outcome State Fault Refusal :=
  if s.irqPending && s.flags.ifl then boundary s.wake else .next s.popIrq

/-- Step() (R427). In shutdown only a HardReboot does anything (R413, log 20). -/
def mainStep (s : State) : Host.Outcome State Fault Refusal :=
  let c := s.commands.head?.join
  let s1 := s.popCommand
  if c = some .hardReboot then .next s1.reboot
  else if s1.shutdown then .next s1
  else if s1.takeA20.halted then sleepStep s1.takeA20
  else andThen (runInstr s1.takeA20) finish

end Sys2Proof.Machine
end

