-- ==== Sys2Proof/Machine/Step.lean ====
section
/-! DEFINITION. One step of the machine, and where the next instruction is placed to be fetched. -/

namespace Sys2Proof.Machine

/-- One step: Step() of spec/60_exceptions.md R427. -/
def step (s : State) : Host.Outcome State Fault Refusal := mainStep s

/-- s with the instruction whose bits the opcode table numbers as w stored where the next step fetches (log 2): its bytes at
CS:EIP, the core neither halted nor shut down, and no input due at that step. -/
def State.withFetchWord (s : State) (nbits w : Nat) : State :=
  let t := s.placeCode 0 (tableBytes nbits w)
  { t with halted := false, shutdown := false, commands := [], a20Writes := [] }

end Sys2Proof.Machine
end

