-- ==== Sys2Proof/Safety.lean ====
section
/-! DEFINITION. The terms the statements about the machine use: the invariant every step keeps, the families of instruction
forms as the spec tables them, and what a program sees of an access. -/

namespace Sys2Proof.Machine

/-! ## The invariant -/

/-- What every step keeps: memory canonical and inside RAM (spec/20_memory.md R71), never virtual-8086 mode
(spec/10_state.md R38), paging only with protection (spec/47_system.md R365), nothing left latched of an instruction
(spec/30_encoding.md R159), no delivery left open (spec/60_exceptions.md R411), no boundary exemption left over
(spec/60_exceptions.md R427 (d)). -/
structure State.Inv (s : State) : Prop where
  memory : s.mem.wf = true
  inRam : s.mem.below s.params.ramSize = true
  noV86 : s.flags.vm = false
  paging : s.pg = true → s.pe = true
  unlatched : s.latch = Latch.empty
  settled : s.delivering = false
  exempt : s.inhibitNext = false

/-- CS holds a code segment, unless a triple fault has shut the core down (spec/10_state.md R36). -/
def State.CodeInv (s : State) : Prop := s.shutdown = true ∨ s.cs.cache.code = true

/-! ## Memory and operands -/

/-- The masked physical address of the i-th byte of an access at p: the A20 mask is applied to each byte's own address, and
one past the last physical address stays where nothing is (spec/20_memory.md R71, R74, log 10). An access made whole lies in
one provider block, which no A20 line crosses. -/
def State.byteAt (s : State) (p : Word) (i : Nat) : Nat :=
  if p.toNat + i < 2 ^ 32 then (s.maskA20 (BitVec.ofNat 32 (p.toNat + i))).toNat else p.toNat + i

/-- The n bytes from the physical address p on are plain RAM at addresses that do not wrap: no provider, A20 enabled,
memory canonical. -/
structure State.PlainRam (s : State) (p n : Nat) : Prop where
  canonical : s.mem.wf = true
  noProvider : s.params.providers = []
  a20 : s.a20 = true
  inRam : p + n ≤ s.params.ramSize
  noWrap : p + n ≤ 2 ^ 32

/-- The little-endian 16-bit value at the physical address a (spec/20_memory.md R73). -/
def State.half (s : State) (a : Nat) : Half := s.mem.read (a + 1) ++ s.mem.read a

/-- The linear address of an offset in a segment (spec/20_memory.md R85). -/
def State.linAt (s : State) (g : SReg) (off : Nat) : Word := segLinear (s.seg g).cache off

/-- Whether the segment check lets an access to an operand place pass; a register has none (spec/20_memory.md R86, R87). -/
def State.allows (s : State) (sz : Size) (k : AccKind) : Loc → Bool
  | .reg8 _ => true
  | .reg _ => true
  | .mem g off => segAllows (s.seg g).cache (decide (g = .cs)) s.pe off sz.bytes k

/-- What a segment check of an operand place raises: #SS(0) through a segment loaded in SS, else #GP(0)
(spec/20_memory.md R86). -/
def State.placeFault (s : State) : Loc → Exc
  | .reg8 _ => Exc.gp 0
  | .reg _ => Exc.gp 0
  | .mem g _ => if (s.seg g).cache.inSS then Exc.ss 0 else Exc.gp 0

/-- What an operand place holds, paging off, and the state after reading it (a provider may have seen the read). -/
def State.loaded (s : State) (sz : Size) : Loc → Word × State
  | .reg8 r => (s.regs.get8 r, s)
  | .reg r => (s.regs.view sz r, s)
  | .mem g off => ((s.physRead (s.linAt g off) sz.bytes).1.setWidth 32, (s.physRead (s.linAt g off) sz.bytes).2)

/-- The state after a value is stored in an operand place, paging off. -/
def State.stored (s : State) (sz : Size) (v : Word) : Loc → State
  | .reg8 r => s.putReg8 r v
  | .reg r => s.putReg sz r v
  | .mem g off => s.physWrite (s.linAt g off) sz.bytes (v.setWidth 64)

/-- A destination opened for a read-modify-write, paging off. -/
def State.opened (s : State) : Loc → Opened
  | .reg8 r => .reg8 r
  | .reg r => .reg r
  | .mem g off => .mem (.run (s.linAt g off))

/-- t differs from s in memory and in what devices have seen only. -/
def State.sameButMemory (s t : State) : Prop := t = { s with mem := t.mem, events := t.events }

/-- Pops of several values at the given offsets above SP_w, none of them moving it (spec/46_control.md R335). -/
def peekAll (o : OSize) : List Nat → M (List Word)
  | [] => pure []
  | k :: ks => do
    let v ← peek o k
    let vs ← peekAll o ks
    pure (v :: vs)

/-- What tests made in order answer in s: the first that holds raises its exception; where none does, the value a. -/
def checked {α : Type} (tests : List (Bool × Exc)) (a : α) (s : State) : EStateM.Result Abort State α :=
  match tests with
  | [] => .ok a s
  | t :: ts => if t.1 then .error (.exc t.2) s else checked ts a s

/-- The tests a load of the segment register g with the selector sel, not null, makes of its descriptor d at the privilege cpl,
in order, each with what it raises (spec/20_memory.md R100, R101). -/
def segTests (g : SReg) (sel : Half) (cpl : BitVec 2) (d : Quad) : List (Bool × Exc) :=
  let c := sel &&& 0xFFFC
  if g = .ss then
    [(decide (selRPL sel ≠ cpl), Exc.gp c), (!descS d || descCode d || !descWritable d, Exc.gp c),
     (decide (descDPL d ≠ cpl), Exc.gp c), (!descP d, Exc.ss c)]
  else
    [(!descS d, Exc.gp c), (descCode d && !descReadable d, Exc.gp c),
     ((!descCode d || !descConforming d) && decide ((descDPL d).toNat < max cpl.toNat (selRPL sel).toNat), Exc.gp c),
     (!descP d, Exc.np c)]

/-- t is what the last step of a Snapshot leaves of s: where SET_DESC_ACCESSED asks for it and the accessed bit of the
descriptor d of sel is clear, the bit has been set in memory (spec/20_memory.md R102). -/
def State.Marked (s : State) (sel : Half) (d : Quad) (t : State) : Prop :=
  if s.params.setDescAccessed = true ∧ d.getLsbD 40 = false then
    sysWrite ((if selTI sel then s.ldtr.base else s.gdtr.base) + BitVec.ofNat 32 (selIndex sel * 8) + 5) 1
      ((descAccess d ||| 1).setWidth 64) s = .ok () t
  else t = s

/-- The write of the accessed bit that ends a Snapshot of d from s raises e, in t (spec/20_memory.md R102, R103). -/
def State.MarkRaises (s : State) (sel : Half) (d : Quad) (e : Exc) (t : State) : Prop :=
  s.params.setDescAccessed = true ∧ d.getLsbD 40 = false ∧
    sysWrite ((if selTI sel then s.ldtr.base else s.gdtr.base) + BitVec.ofNat 32 (selIndex sel * 8) + 5) 1
      ((descAccess d ||| 1).setWidth 64) s = .error (.exc e) t

/-- The delivery of an event from s succeeds with t, and so does every way the event arises: a fault of an instruction whose
roll-back leaves s, an event at a boundary, and INT n, INT3 and INTO (spec/60_exceptions.md R410, R411, R425, R426,
spec/46_control.md R336 to R338). -/
structure State.Delivers (s : State) (v : Byte) (src : Src) (err : Option Half) (ret : Word) (t : State) : Prop where
  delivered : deliver v src err ret s = .ok () t
  atBoundary : deliverEvent v src err ret s = .next t
  asFault : ∀ (e : Exc) (s0 s1 : State), src = .exception → e.newTask = false → e.vector = v → e.err = err →
    ret = s0.baseEip →
    s =
      { s0 with
        eip := s0.baseEip, mem := s1.mem, cr2 := s1.cr2, events := s1.events, draws := s1.draws, delivering := false,
        deliveringClass := s1.deliveringClass } →
    takeException e s0 s1 = .next t
  asInterrupt : src = .software → err = none → ret = s.eip →
    exec (.int v) s = .next { t with cycles := t.cycles + 1 } ∧
    (v = 3 → exec .int3 s = .next { t with cycles := t.cycles + 1 }) ∧
    (v = 4 → s.flags.of = true → exec .into s = .next { t with cycles := t.cycles + 1 })

/-- The delivery of an event from s raises e, in t; INT n, INT3 and INTO take that exception instead
(spec/60_exceptions.md R411; what the other events lead to: R412). -/
structure State.DeliveryRaises (s : State) (v : Byte) (src : Src) (err : Option Half) (ret : Word) (e : Exc) (t : State) :
    Prop where
  raised : deliver v src err ret s = .error (.exc e) t
  asInterrupt : src = .software → err = none → ret = s.eip →
    exec (.int v) s = takeException e s t ∧
    (v = 3 → exec .int3 s = takeException e s t) ∧
    (v = 4 → s.flags.of = true → exec .into s = takeException e s t)

/-- Vector v of source src leads through the interrupt or trap gate g to the code segment d: every check of
spec/60_exceptions.md R421 passes, and t is the state the reads of the two descriptors leave. -/
structure State.GateOpens (s : State) (v : Byte) (src : Src) (g d : Quad) (t : State) : Prop where
  protectedMode : s.pe = true
  inTable : v.toNat * 8 + 7 ≤ s.idtr.limit.toNat
  reads : ∃ s1, sysRead (s.idtr.base + BitVec.ofNat 32 (v.toNat * 8)) 8 (s.deliverOn true (classOf v src)) = .ok g s1 ∧
    descRead (gateSelector g) 13 s1 = .ok d t
  kind : descS g = false ∧ descType g ∈ [6, 7, 14, 15]
  privilege : src = .software → s.cpl.toNat ≤ (descDPL g).toNat
  present : descP g = true ∧ descP d = true
  target : selIndex (gateSelector g) ≠ 0
  code : descS d = true ∧ descCode d = true ∧ (descDPL d).toNat ≤ s.cpl.toNat
  offset : (gateOffset g).toNat ≤ (descLimit d).toNat

/-- EFLAGS on entry through the gate g (spec/60_exceptions.md R424). -/
def entryFlags (g : Quad) (f : Flags) : Flags :=
  { f with
    tf := false, nt := false, rf := false, vm := false
    ifl := if descType g = 6 ∨ descType g = 14 then false else f.ifl }

/-- Every field of the TSS at base has been read through SysRead, in ascending order, and t is what a task switch loads of
them; a 16-bit TSS has no CR3, FS or GS (spec/60_exceptions.md R440, R441, log 19). -/
inductive State.TssRead (s : State) (base : Word) : Bool → TssImage → State → Prop
  | tss32 {link esp0 ss0 esp1 ss1 esp2 ss2 cr3 eip eflags eax ecx edx ebx esp ebp esi edi es cs ss ds fs gs ldt io : Word}
      {s1 : State} :
      readFields base
        [(0x00, 2), (0x04, 4), (0x08, 2), (0x0C, 4), (0x10, 2), (0x14, 4), (0x18, 2), (0x1C, 4), (0x20, 4), (0x24, 4),
         (0x28, 4), (0x2C, 4), (0x30, 4), (0x34, 4), (0x38, 4), (0x3C, 4), (0x40, 4), (0x44, 4), (0x48, 2), (0x4C, 2),
         (0x50, 2), (0x54, 2), (0x58, 2), (0x5C, 2), (0x60, 2), (0x66, 2)] s =
        .ok [link, esp0, ss0, esp1, ss1, esp2, ss2, cr3, eip, eflags, eax, ecx, edx, ebx, esp, ebp, esi, edi, es, cs, ss, ds,
          fs, gs, ldt, io] s1 →
      State.TssRead s base true
        { cr3 := cr3, eip := eip, eflags := eflags
          regs := { eax := eax, ecx := ecx, edx := edx, ebx := ebx, esp := esp, ebp := ebp, esi := esi, edi := edi }
          es := es.setWidth 16, cs := cs.setWidth 16, ss := ss.setWidth 16, ds := ds.setWidth 16, fs := fs.setWidth 16
          gs := gs.setWidth 16, ldt := ldt.setWidth 16 } s1
  | tss16 {link sp0 ss0 sp1 ss1 sp2 ss2 ip flags ax cx dx bx sp bp si di es cs ss ds ldt : Word} {s1 : State} :
      readFields base
        [(0x00, 2), (0x02, 2), (0x04, 2), (0x06, 2), (0x08, 2), (0x0A, 2), (0x0C, 2), (0x0E, 2), (0x10, 2), (0x12, 2),
         (0x14, 2), (0x16, 2), (0x18, 2), (0x1A, 2), (0x1C, 2), (0x1E, 2), (0x20, 2), (0x22, 2), (0x24, 2), (0x26, 2),
         (0x28, 2), (0x2A, 2)] s =
        .ok [link, sp0, ss0, sp1, ss1, sp2, ss2, ip, flags, ax, cx, dx, bx, sp, bp, si, di, es, cs, ss, ds, ldt] s1 →
      State.TssRead s base false
        { cr3 := 0, eip := ip, eflags := flags
          regs := { eax := ax, ecx := cx, edx := dx, ebx := bx, esp := sp, ebp := bp, esi := si, edi := di }
          es := es.setWidth 16, cs := cs.setWidth 16, ss := ss.setWidth 16, ds := ds.setWidth 16, fs := 0, gs := 0
          ldt := ldt.setWidth 16 } s1

/-- The return i has read its frame: its size, the offset and selector it returns to, the bytes of the frame and of RETF's
imm16 above SP_w, the imm16, the flags it will leave, and the state after the reads. IRET here has NT clear and no return to
virtual-8086 mode (spec/46_control.md R331, R334). -/
inductive State.Popped (s : State) : Instr → OSize → Word → Half → Nat → Half → Flags → State → Prop
  | retf {o : OSize} {off sel : Word} {s1 s2 : State} : peek o 0 s = .ok off s1 → peek o o.bytes s1 = .ok sel s2 →
      State.Popped s (.retf o) o off (sel.setWidth 16) (2 * o.bytes) 0 s.flags s2
  | retfImm16 {o : OSize} {imm : Half} {off sel : Word} {s1 s2 : State} : peek o 0 s = .ok off s1 →
      peek o o.bytes s1 = .ok sel s2 →
      State.Popped s (.retfImm16 o imm) o off (sel.setWidth 16) (2 * o.bytes + imm.toNat) imm s.flags s2
  | iret {o : OSize} {off sel fl : Word} {s1 s2 s3 : State} : s.flags.nt = false → peek o 0 s = .ok off s1 →
      peek o o.bytes s1 = .ok sel s2 → peek o (2 * o.bytes) s2 = .ok fl s3 →
      ¬(o = .o32 ∧ fl.getLsbD 17 = true ∧ s.cpl = 0) →
      State.Popped s (.iret o) o off (sel.setWidth 16) (3 * o.bytes) 0
        (s.flags.write fl
          (0x4DD5 ||| (if s.cpl = 0 then 0x3000 else 0) ||| (if s.cpl.toNat ≤ s.flags.iopl.toNat then 0x0200 else 0) |||
            (match o with | .o16 => 0 | .o32 => if s.cpl = 0 then 0x003D0000 else 0x00250000))) s3

/-- The k bytes below the stack pointer are plain RAM, lie in the stack segment, and do not wrap; paging is off. -/
structure State.StackWindow (s : State) (k : Nat) : Prop where
  noPaging : s.pg = false
  noWrap : k ≤ s.sp.toNat
  ram : s.PlainRam (s.ss.cache.base.toNat) s.sp.toNat
  allowed : ∀ off n, s.sp.toNat ≤ off + k → off + n ≤ s.sp.toNat → 1 ≤ n →
    segAllows s.ss.cache false s.pe off n .write = true ∧ segAllows s.ss.cache false s.pe off n .read = true

/-- Real mode with its interrupt table and a stack of 64 KiB in plain RAM, whose pointer is not 1, 3 or 5: the three pushes
of a delivery cannot fail (spec/60_exceptions.md R420). -/
structure State.RealReady (s : State) : Prop where
  real : s.pe = false
  noPaging : s.pg = false
  table : s.PlainRam 0 0x400
  stack : s.PlainRam s.ss.cache.base.toNat 0x10000
  limit : 0xFFFF ≤ s.ss.cache.limit.toNat
  pointer : s.spBelow 2 ≠ 0xFFFF ∧ s.spBelow 4 ≠ 0xFFFF ∧ s.spBelow 6 ≠ 0xFFFF

/-- t is s after vector v was delivered in real mode with the return EIP ret, as spec/60_exceptions.md R420 says; c is the
class of the event. The count of completed instructions is left open. -/
structure State.RealEntry (s t : State) (v : Byte) (ret : Word) (c : EventClass) : Prop where
  flagsPushed : t.half (s.linAt .ss (s.spBelow 2)).toNat = s.flags.image.setWidth 16
  csPushed : t.half (s.linAt .ss (s.spBelow 4)).toNat = s.cs.selector
  ipPushed : t.half (s.linAt .ss (s.spBelow 6)).toNat = ret.setWidth 16
  memoryFrame : ∀ a, (∀ k, k = 2 ∨ k = 4 ∨ k = 6 → a ≠ (s.linAt .ss (s.spBelow k)).toNat ∧
    a ≠ (s.linAt .ss (s.spBelow k)).toNat + 1) → t.mem.read a = s.mem.read a
  rest : t =
    { s with
      regs := s.regs.put .w .esp (s.sp - 6), flags := { s.flags with ifl := false, tf := false }
      cs := SegReg.realOf .cs (t.half (4 * v.toNat + 2)), eip := (t.half (4 * v.toNat)).setWidth 32
      mem := t.mem, delivering := false, deliveringClass := c, cycles := t.cycles }

/-- n bytes fetched one after the other from CS:EIP (spec/20_memory.md R90). -/
def fetchBytes : Nat → M (List Byte)
  | 0 => pure []
  | n + 1 => do
    let b ← fetchByte
    let bs ← fetchBytes n
    pure (b :: bs)

/-- The state in which a step starts its instruction: the command sample and the outside's A20 write taken
(spec/60_exceptions.md R427). -/
def State.started (s : State) : State := s.popCommand.takeA20

/-- No HardReboot is latched at this step (spec/60_exceptions.md R429). -/
def State.noReboot (s : State) : Prop := s.commands.head?.join ≠ some .hardReboot

/-! ## Flags -/

/-- The six status flags at their materialized values, in the order CF PF AF ZF SF OF (spec/10_state.md R29). -/
def Flags.status (f : Flags) : List Bool := [f.cf, f.pf, f.af, f.zf, f.sf, f.of]

/-- The control flags, in the order TF IF DF NT RF VM AC VIF VIP ID, and IOPL (spec/10_state.md R27). -/
def Flags.control (f : Flags) : List Bool × BitVec 2 :=
  ([f.tf, f.ifl, f.df, f.nt, f.rf, f.vm, f.ac, f.vif, f.vip, f.id], f.iopl)

/-! ## Families of forms -/

/-- A form with a destination and a source: its operation, width and operands. -/
structure BinForm where
  op : BinOp
  size : Size
  dst : State → Loc
  src : State → Source

/-- The forms of spec/40_alu_arith.md R202 for one operation of ADD, OR, ADC, SBB, AND, SUB, XOR and CMP, and of TEST
(spec/41_alu_logic.md R234). -/
def binForm : Instr → Option BinForm
  | .addRm8R8 m r => some ⟨.add, .b, rm8 m, fun _ => .loc (.reg8 r)⟩
  | .addRmvRv o m r => some ⟨.add, o.size, rmv m, fun _ => .loc (.reg r)⟩
  | .addR8Rm8 r m => some ⟨.add, .b, fun _ => .reg8 r, fun s => .loc (rm8 m s)⟩
  | .addRvRmv o r m => some ⟨.add, o.size, fun _ => .reg r, fun s => .loc (rmv m s)⟩
  | .addAlImm8 i => some ⟨.add, .b, fun _ => .reg8 .al, fun _ => .imm (i.setWidth 32)⟩
  | .addEaxImmv i => some ⟨.add, i.osize.size, fun _ => .reg .eax, fun _ => .imm (immVal i)⟩
  | .addRm8Imm8 m i => some ⟨.add, .b, rm8 m, fun _ => .imm (i.setWidth 32)⟩
  | .addRmvImmv m i => some ⟨.add, i.osize.size, rmv m, fun _ => .imm (immVal i)⟩
  | .addRmvSx8 o m i => some ⟨.add, o.size, rmv m, fun _ => .imm (sextByte o.size i)⟩
  | .orRm8R8 m r => some ⟨.or, .b, rm8 m, fun _ => .loc (.reg8 r)⟩
  | .orRmvRv o m r => some ⟨.or, o.size, rmv m, fun _ => .loc (.reg r)⟩
  | .orR8Rm8 r m => some ⟨.or, .b, fun _ => .reg8 r, fun s => .loc (rm8 m s)⟩
  | .orRvRmv o r m => some ⟨.or, o.size, fun _ => .reg r, fun s => .loc (rmv m s)⟩
  | .orAlImm8 i => some ⟨.or, .b, fun _ => .reg8 .al, fun _ => .imm (i.setWidth 32)⟩
  | .orEaxImmv i => some ⟨.or, i.osize.size, fun _ => .reg .eax, fun _ => .imm (immVal i)⟩
  | .orRm8Imm8 m i => some ⟨.or, .b, rm8 m, fun _ => .imm (i.setWidth 32)⟩
  | .orRmvImmv m i => some ⟨.or, i.osize.size, rmv m, fun _ => .imm (immVal i)⟩
  | .orRmvSx8 o m i => some ⟨.or, o.size, rmv m, fun _ => .imm (sextByte o.size i)⟩
  | .adcRm8R8 m r => some ⟨.adc, .b, rm8 m, fun _ => .loc (.reg8 r)⟩
  | .adcRmvRv o m r => some ⟨.adc, o.size, rmv m, fun _ => .loc (.reg r)⟩
  | .adcR8Rm8 r m => some ⟨.adc, .b, fun _ => .reg8 r, fun s => .loc (rm8 m s)⟩
  | .adcRvRmv o r m => some ⟨.adc, o.size, fun _ => .reg r, fun s => .loc (rmv m s)⟩
  | .adcAlImm8 i => some ⟨.adc, .b, fun _ => .reg8 .al, fun _ => .imm (i.setWidth 32)⟩
  | .adcEaxImmv i => some ⟨.adc, i.osize.size, fun _ => .reg .eax, fun _ => .imm (immVal i)⟩
  | .adcRm8Imm8 m i => some ⟨.adc, .b, rm8 m, fun _ => .imm (i.setWidth 32)⟩
  | .adcRmvImmv m i => some ⟨.adc, i.osize.size, rmv m, fun _ => .imm (immVal i)⟩
  | .adcRmvSx8 o m i => some ⟨.adc, o.size, rmv m, fun _ => .imm (sextByte o.size i)⟩
  | .sbbRm8R8 m r => some ⟨.sbb, .b, rm8 m, fun _ => .loc (.reg8 r)⟩
  | .sbbRmvRv o m r => some ⟨.sbb, o.size, rmv m, fun _ => .loc (.reg r)⟩
  | .sbbR8Rm8 r m => some ⟨.sbb, .b, fun _ => .reg8 r, fun s => .loc (rm8 m s)⟩
  | .sbbRvRmv o r m => some ⟨.sbb, o.size, fun _ => .reg r, fun s => .loc (rmv m s)⟩
  | .sbbAlImm8 i => some ⟨.sbb, .b, fun _ => .reg8 .al, fun _ => .imm (i.setWidth 32)⟩
  | .sbbEaxImmv i => some ⟨.sbb, i.osize.size, fun _ => .reg .eax, fun _ => .imm (immVal i)⟩
  | .sbbRm8Imm8 m i => some ⟨.sbb, .b, rm8 m, fun _ => .imm (i.setWidth 32)⟩
  | .sbbRmvImmv m i => some ⟨.sbb, i.osize.size, rmv m, fun _ => .imm (immVal i)⟩
  | .sbbRmvSx8 o m i => some ⟨.sbb, o.size, rmv m, fun _ => .imm (sextByte o.size i)⟩
  | .andRm8R8 m r => some ⟨.and, .b, rm8 m, fun _ => .loc (.reg8 r)⟩
  | .andRmvRv o m r => some ⟨.and, o.size, rmv m, fun _ => .loc (.reg r)⟩
  | .andR8Rm8 r m => some ⟨.and, .b, fun _ => .reg8 r, fun s => .loc (rm8 m s)⟩
  | .andRvRmv o r m => some ⟨.and, o.size, fun _ => .reg r, fun s => .loc (rmv m s)⟩
  | .andAlImm8 i => some ⟨.and, .b, fun _ => .reg8 .al, fun _ => .imm (i.setWidth 32)⟩
  | .andEaxImmv i => some ⟨.and, i.osize.size, fun _ => .reg .eax, fun _ => .imm (immVal i)⟩
  | .andRm8Imm8 m i => some ⟨.and, .b, rm8 m, fun _ => .imm (i.setWidth 32)⟩
  | .andRmvImmv m i => some ⟨.and, i.osize.size, rmv m, fun _ => .imm (immVal i)⟩
  | .andRmvSx8 o m i => some ⟨.and, o.size, rmv m, fun _ => .imm (sextByte o.size i)⟩
  | .subRm8R8 m r => some ⟨.sub, .b, rm8 m, fun _ => .loc (.reg8 r)⟩
  | .subRmvRv o m r => some ⟨.sub, o.size, rmv m, fun _ => .loc (.reg r)⟩
  | .subR8Rm8 r m => some ⟨.sub, .b, fun _ => .reg8 r, fun s => .loc (rm8 m s)⟩
  | .subRvRmv o r m => some ⟨.sub, o.size, fun _ => .reg r, fun s => .loc (rmv m s)⟩
  | .subAlImm8 i => some ⟨.sub, .b, fun _ => .reg8 .al, fun _ => .imm (i.setWidth 32)⟩
  | .subEaxImmv i => some ⟨.sub, i.osize.size, fun _ => .reg .eax, fun _ => .imm (immVal i)⟩
  | .subRm8Imm8 m i => some ⟨.sub, .b, rm8 m, fun _ => .imm (i.setWidth 32)⟩
  | .subRmvImmv m i => some ⟨.sub, i.osize.size, rmv m, fun _ => .imm (immVal i)⟩
  | .subRmvSx8 o m i => some ⟨.sub, o.size, rmv m, fun _ => .imm (sextByte o.size i)⟩
  | .xorRm8R8 m r => some ⟨.xor, .b, rm8 m, fun _ => .loc (.reg8 r)⟩
  | .xorRmvRv o m r => some ⟨.xor, o.size, rmv m, fun _ => .loc (.reg r)⟩
  | .xorR8Rm8 r m => some ⟨.xor, .b, fun _ => .reg8 r, fun s => .loc (rm8 m s)⟩
  | .xorRvRmv o r m => some ⟨.xor, o.size, fun _ => .reg r, fun s => .loc (rmv m s)⟩
  | .xorAlImm8 i => some ⟨.xor, .b, fun _ => .reg8 .al, fun _ => .imm (i.setWidth 32)⟩
  | .xorEaxImmv i => some ⟨.xor, i.osize.size, fun _ => .reg .eax, fun _ => .imm (immVal i)⟩
  | .xorRm8Imm8 m i => some ⟨.xor, .b, rm8 m, fun _ => .imm (i.setWidth 32)⟩
  | .xorRmvImmv m i => some ⟨.xor, i.osize.size, rmv m, fun _ => .imm (immVal i)⟩
  | .xorRmvSx8 o m i => some ⟨.xor, o.size, rmv m, fun _ => .imm (sextByte o.size i)⟩
  | .cmpRm8R8 m r => some ⟨.cmp, .b, rm8 m, fun _ => .loc (.reg8 r)⟩
  | .cmpRmvRv o m r => some ⟨.cmp, o.size, rmv m, fun _ => .loc (.reg r)⟩
  | .cmpR8Rm8 r m => some ⟨.cmp, .b, fun _ => .reg8 r, fun s => .loc (rm8 m s)⟩
  | .cmpRvRmv o r m => some ⟨.cmp, o.size, fun _ => .reg r, fun s => .loc (rmv m s)⟩
  | .cmpAlImm8 i => some ⟨.cmp, .b, fun _ => .reg8 .al, fun _ => .imm (i.setWidth 32)⟩
  | .cmpEaxImmv i => some ⟨.cmp, i.osize.size, fun _ => .reg .eax, fun _ => .imm (immVal i)⟩
  | .cmpRm8Imm8 m i => some ⟨.cmp, .b, rm8 m, fun _ => .imm (i.setWidth 32)⟩
  | .cmpRmvImmv m i => some ⟨.cmp, i.osize.size, rmv m, fun _ => .imm (immVal i)⟩
  | .cmpRmvSx8 o m i => some ⟨.cmp, o.size, rmv m, fun _ => .imm (sextByte o.size i)⟩
  | .testRm8R8 m r => some ⟨.test, .b, rm8 m, fun _ => .loc (.reg8 r)⟩
  | .testRmvRv o m r => some ⟨.test, o.size, rmv m, fun _ => .loc (.reg r)⟩
  | .testAlImm8 i => some ⟨.test, .b, fun _ => .reg8 .al, fun _ => .imm (i.setWidth 32)⟩
  | .testEaxImmv i => some ⟨.test, i.osize.size, fun _ => .reg .eax, fun _ => .imm (immVal i)⟩
  | .testRm8Imm8 m i => some ⟨.test, .b, rm8 m, fun _ => .imm (i.setWidth 32)⟩
  | .testRmvImmv m i => some ⟨.test, i.osize.size, rmv m, fun _ => .imm (immVal i)⟩
  | _ => none

/-- The result of a binary operation, CF before given (spec/40_alu_arith.md R203 to R207, spec/41_alu_logic.md R231 to
R234). -/
def binResult (op : BinOp) (sz : Size) (a b : Word) (cf : Bool) : Word :=
  match op with
  | .add => addResult sz a b false
  | .adc => addResult sz a b cf
  | .sub => subResult sz a b false
  | .sbb => subResult sz a b cf
  | .cmp => subResult sz a b false
  | .and => a &&& b
  | .or => a ||| b
  | .xor => a ^^^ b
  | .test => a &&& b

/-- The flags of a binary operation; af is the undefined AF of a logical one (spec/40_alu_arith.md R200, R201,
spec/41_alu_logic.md R230). -/
def binFlags (op : BinOp) (sz : Size) (a b : Word) (f : Flags) (af : Bool) : Flags :=
  match op with
  | .add => f.add sz a b false
  | .adc => f.add sz a b f.cf
  | .sub => f.sub sz a b false
  | .sbb => f.sub sz a b f.cf
  | .cmp => f.sub sz a b false
  | .and => f.logic sz (a &&& b) af
  | .or => f.logic sz (a ||| b) af
  | .xor => f.logic sz (a ^^^ b) af
  | .test => f.logic sz (a &&& b) af

/-- The forms of INC, DEC, NEG and NOT: operation, width, destination (spec/40_alu_arith.md R208 to R210,
spec/41_alu_logic.md R235). -/
def unForm : Instr → Option (UnOp × Size × (State → Loc))
  | .incRv o r => some (.inc, o.size, fun _ => .reg r)
  | .incRm8 m => some (.inc, .b, rm8 m)
  | .incRmv o m => some (.inc, o.size, rmv m)
  | .decRv o r => some (.dec, o.size, fun _ => .reg r)
  | .decRm8 m => some (.dec, .b, rm8 m)
  | .decRmv o m => some (.dec, o.size, rmv m)
  | .negRm8 m => some (.neg, .b, rm8 m)
  | .negRmv o m => some (.neg, o.size, rmv m)
  | .notRm8 m => some (.not, .b, rm8 m)
  | .notRmv o m => some (.not, o.size, rmv m)
  | _ => none

/-- The result of a unary operation (spec/40_alu_arith.md R208 to R210, spec/41_alu_logic.md R235). -/
def unResult (op : UnOp) (sz : Size) (a : Word) : Word :=
  match op with
  | .inc => addResult sz a 1 false
  | .dec => subResult sz a 1 false
  | .neg => subResult sz 0 a false
  | .not => cut sz (~~~a)

/-- The flags of a unary operation: INC and DEC keep CF, NOT keeps everything (spec/40_alu_arith.md R208 to R210,
spec/41_alu_logic.md R235). -/
def unFlags (op : UnOp) (sz : Size) (a : Word) (f : Flags) : Flags :=
  match op with
  | .inc => { f.add sz a 1 false with cf := f.cf }
  | .dec => { f.sub sz a 1 false with cf := f.cf }
  | .neg => f.sub sz 0 a false
  | .not => f

/-- The forms of the shifts and rotates: operation, width, destination, count (spec/42_alu_shift_rotate.md R240). -/
def shiftForm : Instr → Option (ShiftOp × Size × (State → Loc) × (State → Word))
  | .rolRm8Imm8 m i => some (.rol, .b, rm8 m, fun _ => i.setWidth 32)
  | .rolRmvImm8 o m i => some (.rol, o.size, rmv m, fun _ => i.setWidth 32)
  | .rolRm8One m => some (.rol, .b, rm8 m, fun _ => 1)
  | .rolRmvOne o m => some (.rol, o.size, rmv m, fun _ => 1)
  | .rolRm8Cl m => some (.rol, .b, rm8 m, fun s => s.regs.get8 .cl)
  | .rolRmvCl o m => some (.rol, o.size, rmv m, fun s => s.regs.get8 .cl)
  | .rorRm8Imm8 m i => some (.ror, .b, rm8 m, fun _ => i.setWidth 32)
  | .rorRmvImm8 o m i => some (.ror, o.size, rmv m, fun _ => i.setWidth 32)
  | .rorRm8One m => some (.ror, .b, rm8 m, fun _ => 1)
  | .rorRmvOne o m => some (.ror, o.size, rmv m, fun _ => 1)
  | .rorRm8Cl m => some (.ror, .b, rm8 m, fun s => s.regs.get8 .cl)
  | .rorRmvCl o m => some (.ror, o.size, rmv m, fun s => s.regs.get8 .cl)
  | .rclRm8Imm8 m i => some (.rcl, .b, rm8 m, fun _ => i.setWidth 32)
  | .rclRmvImm8 o m i => some (.rcl, o.size, rmv m, fun _ => i.setWidth 32)
  | .rclRm8One m => some (.rcl, .b, rm8 m, fun _ => 1)
  | .rclRmvOne o m => some (.rcl, o.size, rmv m, fun _ => 1)
  | .rclRm8Cl m => some (.rcl, .b, rm8 m, fun s => s.regs.get8 .cl)
  | .rclRmvCl o m => some (.rcl, o.size, rmv m, fun s => s.regs.get8 .cl)
  | .rcrRm8Imm8 m i => some (.rcr, .b, rm8 m, fun _ => i.setWidth 32)
  | .rcrRmvImm8 o m i => some (.rcr, o.size, rmv m, fun _ => i.setWidth 32)
  | .rcrRm8One m => some (.rcr, .b, rm8 m, fun _ => 1)
  | .rcrRmvOne o m => some (.rcr, o.size, rmv m, fun _ => 1)
  | .rcrRm8Cl m => some (.rcr, .b, rm8 m, fun s => s.regs.get8 .cl)
  | .rcrRmvCl o m => some (.rcr, o.size, rmv m, fun s => s.regs.get8 .cl)
  | .shlRm8Imm8 m i => some (.shl, .b, rm8 m, fun _ => i.setWidth 32)
  | .shlRmvImm8 o m i => some (.shl, o.size, rmv m, fun _ => i.setWidth 32)
  | .shlRm8One m => some (.shl, .b, rm8 m, fun _ => 1)
  | .shlRmvOne o m => some (.shl, o.size, rmv m, fun _ => 1)
  | .shlRm8Cl m => some (.shl, .b, rm8 m, fun s => s.regs.get8 .cl)
  | .shlRmvCl o m => some (.shl, o.size, rmv m, fun s => s.regs.get8 .cl)
  | .shrRm8Imm8 m i => some (.shr, .b, rm8 m, fun _ => i.setWidth 32)
  | .shrRmvImm8 o m i => some (.shr, o.size, rmv m, fun _ => i.setWidth 32)
  | .shrRm8One m => some (.shr, .b, rm8 m, fun _ => 1)
  | .shrRmvOne o m => some (.shr, o.size, rmv m, fun _ => 1)
  | .shrRm8Cl m => some (.shr, .b, rm8 m, fun s => s.regs.get8 .cl)
  | .shrRmvCl o m => some (.shr, o.size, rmv m, fun s => s.regs.get8 .cl)
  | .sarRm8Imm8 m i => some (.sar, .b, rm8 m, fun _ => i.setWidth 32)
  | .sarRmvImm8 o m i => some (.sar, o.size, rmv m, fun _ => i.setWidth 32)
  | .sarRm8One m => some (.sar, .b, rm8 m, fun _ => 1)
  | .sarRmvOne o m => some (.sar, o.size, rmv m, fun _ => 1)
  | .sarRm8Cl m => some (.sar, .b, rm8 m, fun s => s.regs.get8 .cl)
  | .sarRmvCl o m => some (.sar, o.size, rmv m, fun s => s.regs.get8 .cl)
  | _ => none

/-- The forms that read one r/m operand into the implicit double-width registers: signed or not, width, source
(spec/43_alu_muldiv.md R260, R261). -/
def mulForm : Instr → Option (Bool × Size × (State → Loc))
  | .mulRm8 m => some (false, .b, rm8 m)
  | .mulRmv o m => some (false, o.size, rmv m)
  | .imulRm8 m => some (true, .b, rm8 m)
  | .imulRmv o m => some (true, o.size, rmv m)
  | _ => none

/-- IMUL into a register: width, destination, the two factors (spec/43_alu_muldiv.md R262, R263). -/
def mulIntoForm : Instr → Option (Size × Reg × (State → Loc) × (State → Word))
  | .imulRvRmv o r m => some (o.size, r, rmv m, fun s => s.regs.view o.size r)
  | .imulRvRmvImmv r m i => some (i.osize.size, r, rmv m, fun _ => immVal i)
  | .imulRvRmvSx8 o r m i => some (o.size, r, rmv m, fun _ => sextByte o.size i)
  | _ => none

/-- DIV and IDIV: signed or not, width, divisor (spec/43_alu_muldiv.md R264, R265). -/
def divForm : Instr → Option (Bool × Size × (State → Loc))
  | .divRm8 m => some (false, .b, rm8 m)
  | .divRmv o m => some (false, o.size, rmv m)
  | .idivRm8 m => some (true, .b, rm8 m)
  | .idivRmv o m => some (true, o.size, rmv m)
  | _ => none

/-- The moves of spec/45_data_flags_stack.md R280 and R281: width, destination, source. -/
def moveForm : Instr → Option (Size × (State → Loc) × (State → Source))
  | .movRm8R8 m r => some (.b, rm8 m, fun _ => .loc (.reg8 r))
  | .movRmvRv o m r => some (o.size, rmv m, fun _ => .loc (.reg r))
  | .movR8Rm8 r m => some (.b, fun _ => .reg8 r, fun s => .loc (rm8 m s))
  | .movRvRmv o r m => some (o.size, fun _ => .reg r, fun s => .loc (rmv m s))
  | .movR8Imm8 r i => some (.b, fun _ => .reg8 r, fun _ => .imm (i.setWidth 32))
  | .movRvImmv r i => some (i.osize.size, fun _ => .reg r, fun _ => .imm (immVal i))
  | .movRm8Imm8 m i => some (.b, rm8 m, fun _ => .imm (i.setWidth 32))
  | .movRmvImmv m i => some (i.osize.size, rmv m, fun _ => .imm (immVal i))
  | .movAlMoffs g a => some (.b, fun _ => .reg8 .al, fun _ => .loc (.mem (g.getD .ds) (moffsOff a)))
  | .movEaxMoffs o g a => some (o.size, fun _ => .reg .eax, fun _ => .loc (.mem (g.getD .ds) (moffsOff a)))
  | .movMoffsAl g a => some (.b, fun _ => .mem (g.getD .ds) (moffsOff a), fun _ => .loc (.reg8 .al))
  | .movMoffsEax o g a => some (o.size, fun _ => .mem (g.getD .ds) (moffsOff a), fun _ => .loc (.reg .eax))
  | _ => none

/-- The pushes of one value that is not a selector: size and value (spec/45_data_flags_stack.md R286, R287, R293). -/
def pushForm : Instr → Option (OSize × (State → Word))
  | .pushRv o r => some (o, fun s => s.regs.view o.size r)
  | .pushImmv i => some (i.osize, fun _ => immVal i)
  | .pushSx8 o i => some (o, fun _ => sextByte o.size i)
  | .pushf o => some (o, fun s => match o with | .o16 => s.flags.image | .o32 => s.flags.image &&& 0xFFFCFFFF)
  | _ => none

/-- The pushes of a segment register: size and register (spec/45_data_flags_stack.md R288). -/
def pushSegForm : Instr → Option (OSize × SReg)
  | .pushEs o => some (o, .es)
  | .pushCs o => some (o, .cs)
  | .pushSs o => some (o, .ss)
  | .pushDs o => some (o, .ds)
  | .pushFs o => some (o, .fs)
  | .pushGs o => some (o, .gs)
  | _ => none

/-- The pops of a segment register: size and register (spec/45_data_flags_stack.md R290). -/
def popSegForm : Instr → Option (OSize × SReg)
  | .popEs o => some (o, .es)
  | .popSs o => some (o, .ss)
  | .popDs o => some (o, .ds)
  | .popFs o => some (o, .fs)
  | .popGs o => some (o, .gs)
  | _ => none

/-- The conditional jumps: condition number, size, displacement (spec/46_control.md R323). -/
def jccForm : Instr → Option (BitVec 4 × OSize × Word)
  | .joRel8 o i => some (0, o, i.signExtend 32)
  | .jnoRel8 o i => some (1, o, i.signExtend 32)
  | .jbRel8 o i => some (2, o, i.signExtend 32)
  | .jaeRel8 o i => some (3, o, i.signExtend 32)
  | .jeRel8 o i => some (4, o, i.signExtend 32)
  | .jneRel8 o i => some (5, o, i.signExtend 32)
  | .jbeRel8 o i => some (6, o, i.signExtend 32)
  | .jaRel8 o i => some (7, o, i.signExtend 32)
  | .jsRel8 o i => some (8, o, i.signExtend 32)
  | .jnsRel8 o i => some (9, o, i.signExtend 32)
  | .jpRel8 o i => some (10, o, i.signExtend 32)
  | .jnpRel8 o i => some (11, o, i.signExtend 32)
  | .jlRel8 o i => some (12, o, i.signExtend 32)
  | .jgeRel8 o i => some (13, o, i.signExtend 32)
  | .jleRel8 o i => some (14, o, i.signExtend 32)
  | .jgRel8 o i => some (15, o, i.signExtend 32)
  | .joRelv i => some (0, i.osize, immSext i)
  | .jnoRelv i => some (1, i.osize, immSext i)
  | .jbRelv i => some (2, i.osize, immSext i)
  | .jaeRelv i => some (3, i.osize, immSext i)
  | .jeRelv i => some (4, i.osize, immSext i)
  | .jneRelv i => some (5, i.osize, immSext i)
  | .jbeRelv i => some (6, i.osize, immSext i)
  | .jaRelv i => some (7, i.osize, immSext i)
  | .jsRelv i => some (8, i.osize, immSext i)
  | .jnsRelv i => some (9, i.osize, immSext i)
  | .jpRelv i => some (10, i.osize, immSext i)
  | .jnpRelv i => some (11, i.osize, immSext i)
  | .jlRelv i => some (12, i.osize, immSext i)
  | .jgeRelv i => some (13, i.osize, immSext i)
  | .jleRelv i => some (14, i.osize, immSext i)
  | .jgRelv i => some (15, i.osize, immSext i)
  | _ => none

/-- The unconditional relative jumps: size, displacement (spec/46_control.md R321). -/
def jmpForm : Instr → Option (OSize × Word)
  | .jmpRel8 o i => some (o, i.signExtend 32)
  | .jmpRelv i => some (i.osize, immSext i)
  | _ => none

/-- The port forms: input or output, width, port (spec/47_system.md R370 to R373). -/
def portForm : Instr → Option (Bool × Size × (State → Half))
  | .inAlImm8 i => some (true, .b, fun _ => i.setWidth 16)
  | .inEaxImm8 o i => some (true, o.size, fun _ => i.setWidth 16)
  | .inAlDx => some (true, .b, fun s => s.regs.edx.setWidth 16)
  | .inEaxDx o => some (true, o.size, fun s => s.regs.edx.setWidth 16)
  | .outImm8Al i => some (false, .b, fun _ => i.setWidth 16)
  | .outImm8Eax o i => some (false, o.size, fun _ => i.setWidth 16)
  | .outDxAl => some (false, .b, fun s => s.regs.edx.setWidth 16)
  | .outDxEax o => some (false, o.size, fun s => s.regs.edx.setWidth 16)
  | _ => none

/-- The instructions that exist in protected mode only (spec/30_encoding.md R160). -/
def needsProtection : Instr → Bool
  | .lldt _ => true
  | .ltr _ => true
  | _ => false

/-- The instructions that need CPL 0 (spec/60_exceptions.md R450). -/
def needsCpl0 : Instr → Bool
  | .hlt => true
  | .lgdt _ _ => true
  | .lidt _ _ => true
  | .lldt _ => true
  | .ltr _ => true
  | .movR32Cr _ _ => true
  | .movCrR32 _ _ => true
  | .movR32Dr _ _ => true
  | .movDrR32 _ _ => true
  | .clts => true
  | _ => false

end Sys2Proof.Machine
end

