-- ==== Sys2Proof/Certificates/Slice0/Obligations.lean ====
section
/-! DEFINITION. The statements for the provers, from the numbered rules of spec/ (OBLIGATIONS.json lists them). -/

open Sys2Proof Sys2Proof.Machine

/-! ## Encoding and fetch -/

/-- Decoding what was encoded gives the instruction back, whatever bytes follow: every instruction, every operand, code of
either default size (spec/30_encoding.md R159, R168). A prefix row is decoded as one row. -/
def Obligations.DecodeOfEncodeIsInstruction : Prop :=
  ∀ (d pe : Bool) (i : Instr) (rest : List Byte), i.wf = true → (needsProtection i = true → pe = true) →
    (Latch.empty.after i = none →
      decode { db := d, pe := pe, latch := Latch.empty } (encode d i ++ rest) = .ok i rest) ∧
    (Latch.empty.after i ≠ none →
      (decodeOne { db := d, pe := pe, latch := Latch.empty }).run (encode d i ++ rest) = .ok i rest)

/-- Whatever the bytes and the prefixes latched, what is decoded is a well-formed instruction that is no prefix, and it took
1 to 15 bytes off the head (spec/30_encoding.md R144, R159, R162). -/
def Obligations.DecodedInstructionIsWellFormed : Prop :=
  ∀ (c : DecodeCtx) (bs : List Byte) (i : Instr) (rest : List Byte), decode c bs = .ok i rest →
    i.wf = true ∧ Latch.empty.after i = none ∧
      ∃ used, bs = used ++ rest ∧ 1 ≤ used.length ∧ used.length ≤ 15

/-- Byte sequences written in the spec's own examples decode to the instructions they stand for. -/
def Obligations.SpecExampleBytesDecode : Prop :=
  let c16 : DecodeCtx := { db := false, pe := false, latch := Latch.empty }
  let c32 : DecodeCtx := { db := true, pe := true, latch := Latch.empty }
  decode c16 [0xB8, 0x34, 0x12] = .ok (.movRvImmv .eax (.i16 0x1234)) [] ∧
  decode c16 [0x04, 0x01] = .ok (.addAlImm8 0x01) [] ∧
  decode c32 [0x83, 0xE0, 0xF0] = .ok (.andRmvSx8 .o32 (.reg .eax) 0xF0) [] ∧
  decode c16 [0x31, 0xC0] = .ok (.xorRmvRv .o16 (.reg .eax) .eax) [] ∧
  decode c16 [0x69, 0xC1, 0xFF, 0xFF] = .ok (.imulRvRmvImmv .eax (.reg .ecx) (.i16 0xFFFF)) [] ∧
  decode c16 [0x8E, 0xD8] = .ok (.movSregRm16 .ds (.reg .eax)) [] ∧
  decode c32 [0x8D, 0x44, 0x33, 0x08] =
    .ok (.lea .o32 .eax { seg := none, addr := .base32 .ebx (some (.esi, .x1)) (.d8 0x08) }) [] ∧
  decode c16 [0x66, 0xEA, 0x00, 0x10, 0x00, 0x00, 0x08, 0x00] = .ok (.jmpFar (.i32 0x1000) 0x0008) [] ∧
  decode c16 [0x0F, 0x01, 0x16, 0x00, 0x05] = .ok (.lgdt .o16 { seg := none, addr := .abs16 0x0500 }) [] ∧
  decode c16 [0xCD, 0x21] = .ok (.int 0x21) []

/-- The invalid encodings of spec/30_encoding.md R160 decode as invalid, and the opcodes, group members and second bytes R161
lists are refused, each as soon as the byte that decides it is there, whatever follows. -/
def Obligations.InvalidAndUnadmittedEncodings : Prop :=
  ∀ (c : DecodeCtx) (b : Byte) (rest : List Byte),
    let reg := regField b
    ((reg = 1 ∨ reg = 6 ∨ reg = 7) → decode c (0x8E :: b :: rest) = .invalid) ∧
    ((reg = 6 ∨ reg = 7) → decode c (0x8C :: b :: rest) = .invalid) ∧
    (modField b = 3 → decode c (0x8D :: b :: rest) = .invalid ∧ decode c (0x62 :: b :: rest) = .invalid) ∧
    (modField b = 3 → (reg = 2 ∨ reg = 3) → decode c (0x0F :: 0x01 :: b :: rest) = .invalid) ∧
    (c.pe = false → (reg = 2 ∨ reg = 3) → decode c (0x0F :: 0x00 :: b :: rest) = .invalid) ∧
    ((reg = 1 ∨ reg = 5 ∨ reg = 6 ∨ reg = 7) →
      decode c (0x0F :: 0x20 :: b :: rest) = .invalid ∧ decode c (0x0F :: 0x22 :: b :: rest) = .invalid) ∧
    (b ∈ ([0x63, 0x6C, 0x6D, 0x6E, 0x6F, 0x82, 0x86, 0x87, 0x8F, 0x91, 0x92, 0x93, 0x94, 0x95, 0x96, 0x97, 0x9B, 0xA4,
        0xA5, 0xA6, 0xA7, 0xAA, 0xAB, 0xAC, 0xAD, 0xAE, 0xAF, 0xC4, 0xC5, 0xC8, 0xC9, 0xD6, 0xD7, 0xD8, 0xD9, 0xDA,
        0xDB, 0xDC, 0xDD, 0xDE, 0xDF, 0xE0, 0xE1, 0xE2, 0xE3, 0xF1] : List Byte) →
      decode c (b :: rest) = .refused .opcodeNotAdmitted) ∧
    (reg = 6 → ∀ op ∈ ([0xC0, 0xC1, 0xD0, 0xD1, 0xD2, 0xD3] : List Byte),
      decode c (op :: b :: rest) = .refused .groupMemberNotAdmitted) ∧
    (reg ≠ 0 → ∀ op ∈ ([0xC6, 0xC7] : List Byte), decode c (op :: b :: rest) = .refused .groupMemberNotAdmitted) ∧
    (reg = 1 → ∀ op ∈ ([0xF6, 0xF7] : List Byte), decode c (op :: b :: rest) = .refused .groupMemberNotAdmitted) ∧
    (2 ≤ reg.toNat → decode c (0xFE :: b :: rest) = .refused .groupMemberNotAdmitted) ∧
    ((reg = 3 ∨ reg = 5 ∨ reg = 6 ∨ reg = 7) → decode c (0xFF :: b :: rest) = .refused .groupMemberNotAdmitted) ∧
    ((reg = 0 ∨ reg = 1 ∨ 4 ≤ reg.toNat) → ∀ op ∈ ([0x00, 0x01] : List Byte),
      decode c (0x0F :: op :: b :: rest) = .refused .groupMemberNotAdmitted) ∧
    (b ∉ ([0x00, 0x01, 0x06, 0x20, 0x21, 0x22, 0x23, 0x80, 0x81, 0x82, 0x83, 0x84, 0x85, 0x86, 0x87, 0x88, 0x89, 0x8A,
        0x8B, 0x8C, 0x8D, 0x8E, 0x8F, 0xA0, 0xA1, 0xA8, 0xA9, 0xAF] : List Byte) →
      decode c (0x0F :: b :: rest) = .refused .opcodeNotAdmitted)

/-- The eleven prefix bytes of spec/30_encoding.md R141: each decodes to its row whatever follows and whatever is latched, and
the row latches what R141 says and changes nothing else. The last segment override and the last repeat prefix win; 66 and 67
set a mark that a second one leaves set. That a prefix byte is a row that runs, and what holds its effect is State.latch, is
the model's choice (log 7). -/
def Obligations.PrefixRowsLatch : Prop :=
  (∀ (c : DecodeCtx) (rest : List Byte),
    (decodeOne c).run (0x26 :: rest) = .ok .prefixEs rest ∧ (decodeOne c).run (0x2E :: rest) = .ok .prefixCs rest ∧
    (decodeOne c).run (0x36 :: rest) = .ok .prefixSs rest ∧ (decodeOne c).run (0x3E :: rest) = .ok .prefixDs rest ∧
    (decodeOne c).run (0x64 :: rest) = .ok .prefixFs rest ∧ (decodeOne c).run (0x65 :: rest) = .ok .prefixGs rest ∧
    (decodeOne c).run (0x66 :: rest) = .ok .prefixOpsize rest ∧
    (decodeOne c).run (0x67 :: rest) = .ok .prefixAddrsize rest ∧
    (decodeOne c).run (0xF0 :: rest) = .ok .prefixLock rest ∧ (decodeOne c).run (0xF2 :: rest) = .ok .prefixRepne rest ∧
    (decodeOne c).run (0xF3 :: rest) = .ok .prefixRep rest) ∧
  (∀ s : State,
    exec .prefixEs s = .next { s with latch := { s.latch with seg := some .es } } ∧
    exec .prefixCs s = .next { s with latch := { s.latch with seg := some .cs } } ∧
    exec .prefixSs s = .next { s with latch := { s.latch with seg := some .ss } } ∧
    exec .prefixDs s = .next { s with latch := { s.latch with seg := some .ds } } ∧
    exec .prefixFs s = .next { s with latch := { s.latch with seg := some .fs } } ∧
    exec .prefixGs s = .next { s with latch := { s.latch with seg := some .gs } } ∧
    exec .prefixOpsize s = .next { s with latch := { s.latch with opflip := true } } ∧
    exec .prefixAddrsize s = .next { s with latch := { s.latch with adflip := true } } ∧
    exec .prefixLock s = .next s ∧
    exec .prefixRepne s = .next { s with latch := { s.latch with rep := some .repne } } ∧
    exec .prefixRep s = .next { s with latch := { s.latch with rep := some .rep } })

/-- When 15 bytes have been fetched and the instruction needs another one, the exception is #GP(0), taken as a fault of that
instruction, and no sixteenth byte is fetched (spec/30_encoding.md R144). -/
def Obligations.SixteenthByteIsGeneralProtection : Prop :=
  ∀ (s s1 : State) (bs : List Byte), fetchBytes 15 s.begin = .ok bs s1 →
    decode s.begin.decodeCtx bs = .truncated → runInstr s = takeException (Exc.gp 0) s.begin s1

/-- When the bytes fetched so far make the instruction invalid, #UD is taken and no later byte is fetched; when they make it
one that is not admitted, the step is refused (spec/30_encoding.md R159 to R161). -/
def Obligations.InvalidInstructionTakesInvalidOpcode : Prop :=
  ∀ (s s1 : State) (bs : List Byte), fetchBytes bs.length s.begin = .ok bs s1 →
    decode s.begin.decodeCtx bs.dropLast = .truncated →
    (decode s.begin.decodeCtx bs = .invalid → runInstr s = takeException Exc.ud s.begin s1) ∧
    (∀ r, decode s.begin.decodeCtx bs = .refused r → runInstr s = .refused (refusalOf r))

/-- A step runs the decoded instruction: when the bytes fetched from CS:EIP decode to i, all of them used, the step is exec
of i in the state the fetches left (EIP past the bytes, nothing latched), followed by the boundary
(spec/60_exceptions.md R427). -/
def Obligations.StepRunsDecodedInstruction : Prop :=
  ∀ (s s1 : State) (n : Nat) (bs : List Byte) (i : Instr), s.noReboot → s.shutdown = false → s.halted = false →
    fetchBytes n s.started.begin = .ok bs s1 → decode s.started.begin.decodeCtx bs = .ok i [] →
    step s = andThen (exec i (s1.withLatch Latch.empty)) finish ∧
      s1.eip = s.eip + BitVec.ofNat 32 n ∧ s1.baseEip = s.eip ∧ s1.baseCs = s.cs.selector

/-! ## The machine as a whole -/

/-- No step of any state ends in a fault: an exception raised while one is delivered always ends in a handler, a double
fault, or the shutdown of a triple fault (spec/60_exceptions.md R412, R413). That the chain of deliveries has a bound is the
model's (log 25). -/
def Obligations.StepNeverFaults : Prop := ∀ (s : State) (f : Fault), step s ≠ .fault f

/-- Every step keeps the invariant: canonical memory inside RAM, never virtual-8086 mode, paging only with protection,
nothing latched, no delivery open, no boundary exemption left over. -/
def Obligations.InvariantKeptByStep : Prop := ∀ s t : State, s.Inv → step s = .next t → t.Inv

/-- A reset with any parameters meets both invariants. -/
def Obligations.ResetMeetsInvariants : Prop :=
  ∀ p : Params, (State.resetWith p).Inv ∧ (State.resetWith p).CodeInv

/-- CS holds a code segment after every step, unless a triple fault has shut the core down (spec/10_state.md R36). -/
def Obligations.CodeSegmentStaysCode : Prop := ∀ s t : State, s.CodeInv → step s = .next t → t.CodeInv

/-- What reset leaves: the general registers, EFLAGS, CS:EIP and the data segments, the control, debug and table registers, the
hidden state, and memory (spec/70_reset_and_hazards.md R460 to R465). The cache fields that spec/20_memory.md R106 does not name:
log 15. -/
def Obligations.ResetValues : Prop :=
  ∀ p : Params,
    let s := State.resetWith p
    (∀ r, s.regs.get r = 0) ∧ s.flags.image = 0x3202 ∧ s.flags.lastResult = 0 ∧ s.flags.lastOpSize = .b ∧
    (s.flags.dirtyZ || s.flags.dirtyS || s.flags.dirtyP) = false ∧
    (s.flags.zfE || s.flags.sfE || s.flags.pfE) = false ∧
    s.cs = SegReg.realOf .cs (match p.entryPoint with | some e => e.1 | none => 0xF000) ∧
    s.eip = (match p.entryPoint with | some e => e.2 | none => 0) ∧
    (∀ g, g ≠ .cs → s.seg g = SegReg.realOf g 0) ∧ s.pe = false ∧ s.pg = false ∧ s.cpl = 0 ∧
    (∀ n, s.getCr n = 0) ∧ (∀ n, s.dr.get n = 0) ∧
    s.gdtr = { base := 0, limit := 0 } ∧ s.idtr = { base := 0, limit := 0 } ∧
    s.ldtr = { selector := 0, base := 0, limit := 0, null := true } ∧
    s.tr = { selector := 0, base := 0, limit := 0, is32 := false } ∧
    s.inhibitNext = false ∧ s.halted = false ∧ s.delivering = false ∧ s.shutdown = false ∧ s.cycles = 0 ∧
    s.a20 = p.a20AtReset ∧ (∀ a, s.mem.read a = 0)

/-- A latched HardReboot resets the core from any state; in shutdown nothing else changes anything
(spec/60_exceptions.md R413, R429). What stays of the model's own inputs and counters: log 28. That the
command is looked at, and used up, in shutdown too: log 20. -/
def Obligations.HardRebootAndShutdown : Prop :=
  (∀ s : State, s.commands.head? = some (some .hardReboot) →
    step s = .next
      { State.resetWith s.params with
        irqs := s.irqs, commands := s.commands.tail, a20Writes := s.a20Writes, events := s.events, draws := s.draws }) ∧
  (∀ s : State, s.noReboot → s.shutdown = true → step s = .next { s with commands := s.commands.tail })

/-- A halted core executes nothing: it goes on sleeping, until an IRQ is pending with IF set; then it wakes and the boundary
runs (spec/60_exceptions.md R428). One answer of the PIC is used up at each test (log 21). -/
def Obligations.HaltedCoreSleeps : Prop :=
  ∀ s : State, s.noReboot → s.shutdown = false → s.halted = true →
    (s.flags.ifl = false → step s = .next { s.started with irqs := s.irqs.tail }) ∧
    (s.irqs.head?.join = none → step s = .next { s.started with irqs := s.irqs.tail }) ∧
    (∀ v, s.irqs.head? = some (some v) → s.flags.ifl = true →
      step s = boundary { s.started with halted := false })

/-- The boundary after an instruction (spec/60_exceptions.md R425 to R427): after a triple fault or a HLT there is none; an
exempted one clears the exemption and does nothing else; else TF delivers #DB with EIP as the return EIP, and then an IRQ is
taken only with IF set, acknowledged, with EIP as the return EIP. DR6 bit 14 at #DB is a free value (log 4). One answer of the PIC
is used up at each boundary that reaches the test, taken or not (log 21). -/
def Obligations.BoundaryOrder : Prop :=
  (∀ s : State, (s.shutdown = true ∨ s.halted = true) → finish s = .next s) ∧
  (∀ s : State, s.shutdown = false → s.halted = false → s.inhibitNext = true →
    finish s = .next { s with inhibitNext := false }) ∧
  (∀ (s : State) (v : Byte), s.shutdown = false → s.halted = false → s.inhibitNext = false → s.flags.tf = false →
    s.irqs.head? = some (some v) → s.flags.ifl = true →
    finish s =
      deliverEvent v .external none s.eip { s with irqs := s.irqs.tail, events := .irqAck v :: s.events }) ∧
  (∀ s : State, s.shutdown = false → s.halted = false → s.inhibitNext = false → s.flags.tf = false →
    (s.irqs.head?.join = none ∨ s.flags.ifl = false) → finish s = .next { s with irqs := s.irqs.tail }) ∧
  (∀ s : State, s.shutdown = false → s.halted = false → s.inhibitNext = false → s.flags.tf = true →
    ∃ bs : Bool,
      finish s =
        andThen
          (deliverEvent 1 .exception none s.eip
            { s with dr := s.dr.set .dr6 (if bs then s.dr.get .dr6 ||| 0x4000 else s.dr.get .dr6), draws := s.draws + 1 })
          (fun t => if t.shutdown then .next t else irqStep t))

/-- At CPL 1, 2 or 3 no instruction changes GDTR, IDTR, CR0 but for TS (which a task switch sets), CR4, a debug register, the
A20 mask or the parameters, whatever exception it takes and whatever task it switches to (spec/60_exceptions.md R450,
spec/47_system.md R361 to R368). -/
def Obligations.UserModeKeepsSystemRegisters : Prop :=
  ∀ (i : Instr) (s t : State), s.pe = true → s.cpl ≠ 0 → exec i s = .next t →
    t.gdtr = s.gdtr ∧ t.idtr = s.idtr ∧ (t.cr0 = s.cr0 ∨ t.cr0 = s.cr0 ||| 8) ∧ t.cr4 = s.cr4 ∧ t.dr = s.dr ∧
      t.a20 = s.a20 ∧ t.params = s.params

/-! ## Exceptions and interrupts -/

/-- Taking an exception in real mode: every register is as before the instruction (stores stay), EIP is the base EIP, and
FLAGS, CS and that IP are pushed; IF and TF are cleared and CS:EIP come from the table at 4 times the vector
(spec/60_exceptions.md R410, R420, spec/20_memory.md R116). -/
def Obligations.RealModeExceptionEntry : Prop :=
  ∀ (e : Exc) (s0 s1 : State), e.newTask = false →
    let b : State :=
      { s0 with
        eip := s0.baseEip, mem := s1.mem, cr2 := s1.cr2, events := s1.events, draws := s1.draws, delivering := false,
        deliveringClass := s1.deliveringClass }
    b.RealReady →
    ∃ t, takeException e s0 s1 = .next t ∧ b.RealEntry t e.vector s0.baseEip (classOf e.vector .exception) ∧
      t.cycles = s0.cycles

/-- What an exception e raised while event v is delivered leads to, by the table of spec/60_exceptions.md R412: e is
delivered instead, with the EIP the first event would have returned to (log 16); or a double fault with error code 0 and the
base EIP; or a triple fault. b is the state before the delivery, stores kept; or, for a fault of a task switch's last step, the
new task's (R443, log 17). An instruction's exception starts from the same roll-back with EIP at the base EIP (R410). -/
def Obligations.NestedExceptionEscalates : Prop :=
  (∀ (k : Nat) (v : Byte) (src : Src) (err : Option Half) (ret : Word) (s s1 : State) (e : Exc),
    deliver v src err ret s = .error (.exc e) s1 →
    let b : State :=
      if e.newTask then { s1 with delivering := false }
      else
        { s with
          mem := s1.mem, cr2 := s1.cr2, events := s1.events, draws := s1.draws, delivering := false
          deliveringClass := s1.deliveringClass }
    let c := escalate (classOf v src) (classOf e.vector .exception)
    (c = .deliver → deliverChain (k + 1) v src err ret s = deliverChain k e.vector .exception e.err b.eip b) ∧
    (c = .doubleFault → deliverChain (k + 1) v src err ret s = deliverChain k 8 .exception (some 0) b.baseEip b) ∧
    (c = .tripleFault → deliverChain (k + 1) v src err ret s = .next { b with shutdown := true })) ∧
  (∀ (e : Exc) (s0 s1 : State),
    let b : State :=
      if e.newTask then { s1 with delivering := false }
      else
        { s0 with
          eip := s0.baseEip, mem := s1.mem, cr2 := s1.cr2, events := s1.events, draws := s1.draws, delivering := false
          deliveringClass := s1.deliveringClass }
    takeException e s0 s1 = deliverEvent e.vector .exception e.err b.eip b) ∧
  (∀ v w : Byte,
    let c (src : Src) := escalate (classOf v src) (classOf w .exception)
    let benign (x : Byte) : Prop := x = 1 ∨ x = 3 ∨ x = 4 ∨ x = 5 ∨ x = 6 ∨ x = 7 ∨ x = 16 ∨ x = 17
    let contributory (x : Byte) : Prop := x = 0 ∨ x = 10 ∨ x = 11 ∨ x = 12 ∨ x = 13
    c .software = .deliver ∧ c .external = .deliver ∧ (benign v → c .exception = .deliver) ∧
    (contributory v → contributory w → c .exception = .doubleFault) ∧
    (contributory v → (w = 14 ∨ benign w) → c .exception = .deliver) ∧
    (v = 14 → (contributory w ∨ w = 14) → c .exception = .doubleFault) ∧
    (v = 14 → benign w → c .exception = .deliver) ∧ (v = 8 → c .exception = .tripleFault))

/-- The checks on the way to a handler in protected mode, in the order of spec/60_exceptions.md R421, for an event of any source:
the IDT's limit, the gate's type, its DPL for a software interrupt, its presence, the target selector, the code segment. The
first that fails raises its exception, EXT set for an external interrupt only (R402, log 24). A task gate switches the task, and
then pushes the error code on the new task's stack at the new TSS's width (R430). INT n, INT3 and INTO take what is raised
(spec/46_control.md R336 to R338). -/
def Obligations.InterruptGateChecks : Prop :=
  ∀ (v : Byte) (src : Src) (err : Option Half) (ret : Word) (s : State), s.pe = true →
    let s0 := s.deliverOn true (classOf v src)
    let ext (c : Half) : Half := if src = .external then c ||| 1 else c
    let extE (e : Exc) : Exc := if src = .external then e.withExt else e
    let code := ext ((v.setWidth 16 <<< 3) ||| 2)
    (s.idtr.limit.toNat < v.toNat * 8 + 7 → s.DeliveryRaises v src err ret (Exc.gp code) s0) ∧
    (v.toNat * 8 + 7 ≤ s.idtr.limit.toNat → ∀ e s1,
      sysRead (s.idtr.base + BitVec.ofNat 32 (v.toNat * 8)) 8 s0 = .error (.exc e) s1 →
      s.DeliveryRaises v src err ret (extE e) s1) ∧
    (v.toNat * 8 + 7 ≤ s.idtr.limit.toNat → ∀ g s1,
      sysRead (s.idtr.base + BitVec.ofNat 32 (v.toNat * 8)) 8 s0 = .ok g s1 →
      let gateTests : List (Bool × Exc) :=
        [(descS g || decide (descType g ∉ [5, 6, 7, 14, 15]), Exc.gp code),
         (decide (src = .software) && decide ((descDPL g).toNat < s.cpl.toNat), Exc.gp code),
         (!descP g, Exc.np code)]
      let tsel := gateSelector g
      (∀ e, checked gateTests () s1 = .error (.exc e) s1 → s.DeliveryRaises v src err ret e s1) ∧
      (checked gateTests () s1 = .ok () s1 → descType g ≠ 5 →
        (selIndex tsel = 0 → s.DeliveryRaises v src err ret (Exc.gp (ext 0)) s1) ∧
        (∀ e s2, selIndex tsel ≠ 0 → descRead tsel 13 s1 = .error (.exc e) s2 →
          s.DeliveryRaises v src err ret (extE e) s2) ∧
        (∀ d s2 e, selIndex tsel ≠ 0 → descRead tsel 13 s1 = .ok d s2 →
          checked
            [(!descS d || !descCode d || decide (s.cpl.toNat < (descDPL d).toNat), Exc.gp (ext (tsel &&& 0xFFFC))),
             (!descP d, Exc.np (ext (tsel &&& 0xFFFC))),
             (decide ((descLimit d).toNat < (gateOffset g).toNat), Exc.gp (ext 0))] () s2 = .error (.exc e) s2 →
          s.DeliveryRaises v src err ret e s2)) ∧
      (checked gateTests () s1 = .ok () s1 → descType g = 5 →
        (∀ e s2, taskSwitch tsel .int ret s1 = .error (.exc e) s2 → s.DeliveryRaises v src err ret (extE e) s2) ∧
        (∀ s2, taskSwitch tsel .int ret s1 = .ok () s2 →
          (err = none →
            s.Delivers v src err ret { s2 with delivering := false, deliveringClass := classOf v src }) ∧
          (∀ c s3, err = some c →
            let n := if s2.tr.is32 then 4 else 2
            memWrite .ss (s2.spBelow n) n (c.setWidth 64) s2 = .ok () s3 →
            s.Delivers v src err ret
              { s3 with
                regs := (s2.setSp (s2.spTrunc (s2.sp - BitVec.ofNat 32 n))).regs, delivering := false
                deliveringClass := classOf v src }))))

/-- An event of any source that leads to a handler at the current privilege (a conforming segment, or DPL = CPL): EFLAGS, CS, the
return EIP and the error code are pushed at the gate's size on the current stack; CS takes the CPL, with the accessed bit where
SET_DESC_ACCESSED asks for it; TF, NT, RF and VM are cleared, and IF by an interrupt gate only (spec/60_exceptions.md R421,
R422, R424). The upper half of a 32-bit CS slot is a free value (log 4). -/
def Obligations.SameLevelDelivery : Prop :=
  ∀ (v : Byte) (src : Src) (err : Option Half) (ret w : Word) (g d : Quad) (s s1 s2 s3 s4 : State),
    s.GateOpens v src g d s1 → (descConforming d = true ∨ descDPL d = s.cpl) →
    let o := gateSize g
    selectorAt o s.cs.selector s1 = .ok w s2 →
    let vs : List Word := [s.flags.image, w, ret] ++ errWords err
    stage o 0 vs s2 = .ok () s3 →
    State.Marked
      { s3 with
        regs := (s.setSp (s.spTrunc (s.sp - BitVec.ofNat 32 (vs.length * o.bytes)))).regs
        cs := { selector := withRPL (gateSelector g) s.cpl, cache := cacheOf d false s.cpl } } (gateSelector g) d s4 →
    w.setWidth 16 = s.cs.selector ∧
    s.Delivers v src err ret
      { s4 with
        eip := gateOffset g, flags := entryFlags g s.flags, delivering := false, deliveringClass := classOf v src }

/-- The stack of a more privileged level: read from the current TSS and validated, each test with its exception, and an access
beyond its segment raising #SS with its selector (spec/60_exceptions.md R423); what either raises is what the delivery raises,
EXT set for an external interrupt only (R402, log 24). An event of any source that leads to a handler there: the old SS and ESP
are pushed on the new stack before EFLAGS, CS, the return EIP and the error code, only the low half of ESP changes on a 16-bit
stack, and the handler runs at the DPL of its code segment (R421, R423, R424). The upper half of a 32-bit selector slot is a free
value (log 4); a page fault of a push there stays #PF (log 18). -/
def Obligations.InnerLevelDelivery : Prop :=
  (∀ (n : BitVec 2) (s : State),
    let w := if s.tr.is32 then 4 else 2
    let o := if s.tr.is32 then 4 + 8 * n.toNat else 2 + 4 * n.toNat
    (s.tr.limit.toNat < o + w + 1 → innerStack n s = .error (.exc (Exc.ts (s.tr.selector &&& 0xFFFC))) s) ∧
    (∀ e s1, o + w + 1 ≤ s.tr.limit.toNat → sysRead (s.tr.base + BitVec.ofNat 32 o) w s = .error (.exc e) s1 →
      innerStack n s = .error (.exc e) s1) ∧
    (∀ nesp e s1 s2, o + w + 1 ≤ s.tr.limit.toNat → sysRead (s.tr.base + BitVec.ofNat 32 o) w s = .ok nesp s1 →
      sysRead (s.tr.base + BitVec.ofNat 32 (o + w)) 2 s1 = .error (.exc e) s2 → innerStack n s = .error (.exc e) s2) ∧
    (∀ nesp nssQ s1 s2, o + w + 1 ≤ s.tr.limit.toNat → sysRead (s.tr.base + BitVec.ofNat 32 o) w s = .ok nesp s1 →
      sysRead (s.tr.base + BitVec.ofNat 32 (o + w)) 2 s1 = .ok nssQ s2 →
      let nss : Half := nssQ.setWidth 16
      (selIndex nss = 0 → innerStack n s = .error (.exc (Exc.ts 0)) s2) ∧
      (∀ e s3, selIndex nss ≠ 0 → descRead nss 10 s2 = .error (.exc e) s3 → innerStack n s = .error (.exc e) s3) ∧
      (∀ ds s3, selIndex nss ≠ 0 → descRead nss 10 s2 = .ok ds s3 →
        innerStack n s =
          checked
            [(decide (selRPL nss ≠ n) || !descS ds || descCode ds || !descWritable ds || decide (descDPL ds ≠ n),
              Exc.ts (nss &&& 0xFFFC)),
             (!descP ds, Exc.ss (nss &&& 0xFFFC))] (nss, nesp.setWidth 32, ds) s3))) ∧
  (∀ (e : Exc) (c : SegCache) (n : BitVec 2) (nesp : Word) (o : OSize) (k : Nat) (v : Word) (vs : List Word) (s : State),
    let off := (if c.db then nesp - BitVec.ofNat 32 (k + o.bytes) else (nesp - BitVec.ofNat 32 (k + o.bytes)) &&& 0xFFFF).toNat
    (segAllows c false s.pe off o.bytes .write = false → stageVia e c n nesp o k (v :: vs) s = .error (.exc e) s) ∧
    (segAllows c false s.pe off o.bytes .write = true →
      (∀ x t, linWrite (segLinear c off) o.bytes (v.setWidth 64) (accAt .write n) s = .error x t →
        stageVia e c n nesp o k (v :: vs) s = .error x t) ∧
      (∀ t, linWrite (segLinear c off) o.bytes (v.setWidth 64) (accAt .write n) s = .ok () t →
        stageVia e c n nesp o k (v :: vs) s = stageVia e c n nesp o (k + o.bytes) vs t))) ∧
  (∀ (v : Byte) (src : Src) (err : Option Half) (ret : Word) (g d : Quad) (s s1 : State),
    s.GateOpens v src g d s1 → descConforming d = false → (descDPL d).toNat < s.cpl.toNat →
    let o := gateSize g
    let n := descDPL d
    let extE (e : Exc) : Exc := if src = .external then e.withExt else e
    (∀ e s2, innerStack n s1 = .error (.exc e) s2 → s.DeliveryRaises v src err ret (extE e) s2) ∧
    (∀ nss nesp ds ss cs e s2 s3 s4 s5, innerStack n s1 = .ok (nss, nesp, ds) s2 →
      selectorAt o s.ss.selector s2 = .ok ss s3 → selectorAt o s.cs.selector s3 = .ok cs s4 →
      stageVia (Exc.ss (nss &&& 0xFFFC)) (cacheOf ds true n) n nesp o 0
        ([ss, s.regs.esp, s.flags.image, cs, ret] ++ errWords err) s4 = .error (.exc e) s5 →
      s.DeliveryRaises v src err ret (extE e) s5)) ∧
  (∀ (v : Byte) (src : Src) (err : Option Half) (ret nesp ss cs : Word) (nss : Half) (g d ds : Quad)
      (s s1 s2 s3 s4 s5 s6 s7 : State),
    s.GateOpens v src g d s1 → descConforming d = false → (descDPL d).toNat < s.cpl.toNat →
    let o := gateSize g
    let n := descDPL d
    innerStack n s1 = .ok (nss, nesp, ds) s2 →
    selectorAt o s.ss.selector s2 = .ok ss s3 → selectorAt o s.cs.selector s3 = .ok cs s4 →
    let vs : List Word :=
      [ss, s.regs.esp, s.flags.image, cs, ret] ++ errWords err
    stageVia (Exc.ss (nss &&& 0xFFFC)) (cacheOf ds true n) n nesp o 0 vs s4 = .ok () s5 →
    State.Marked { s5 with ss := { selector := nss, cache := cacheOf ds true n } } nss ds s6 →
    State.Marked
      { s6 with
        regs :=
          s.regs.set .esp
            (merge (if descDB ds then .d else .w) s.regs.esp (nesp - BitVec.ofNat 32 (vs.length * o.bytes)))
        cs := { selector := withRPL (gateSelector g) n, cache := cacheOf d false n } } (gateSelector g) d s7 →
    ss.setWidth 16 = s.ss.selector ∧ cs.setWidth 16 = s.cs.selector ∧
    s.Delivers v src err ret
      { s7 with
        eip := gateOffset g, flags := entryFlags g s.flags, delivering := false, deliveringClass := classOf v src })

/-- INT n, INT3 and INTO with OF set deliver their vector in real mode with the next instruction as the return EIP; INTO with
OF clear does nothing, in any mode (spec/46_control.md R336 to R338, spec/60_exceptions.md R420). -/
def Obligations.SoftwareInterruptsInRealMode : Prop :=
  (∀ (i : Instr) (v : Byte) (s : State),
    (i = .int v ∨ (i = .int3 ∧ v = 3) ∨ (i = .into ∧ v = 4 ∧ s.flags.of = true)) → s.RealReady →
    ∃ t, exec i s = .next t ∧ s.RealEntry t v s.eip .benign ∧ t.cycles = s.cycles + 1) ∧
  (∀ s : State, s.flags.of = false → exec .into s = .next { s with cycles := s.cycles + 1 })

/-- IRET in real mode pops EIP, CS and FLAGS: CS is loaded as in real mode, every flag but VM is written at 32 bits, and the
low half's flags at 16 bits; an offset beyond the new limit 0xFFFF is #GP(0) (spec/46_control.md R334, R320). The cache fields
R106 does not name: log 15. -/
def Obligations.InterruptReturnInRealMode : Prop :=
  ∀ (o : OSize) (off sel fl : Word) (s s1 s2 s3 : State), s.pe = false →
    peek o 0 s = .ok off s1 → peek o o.bytes s1 = .ok sel s2 → peek o (2 * o.bytes) s2 = .ok fl s3 →
    ((cut o.size off).toNat ≤ 0xFFFF →
      exec (.iret o) s =
        .next
          { s3 with
            regs := (s.setSp (s.spTrunc (s.sp + BitVec.ofNat 32 (3 * o.bytes)))).regs
            cs := SegReg.realOf .cs (sel.setWidth 16), eip := cut o.size off
            flags := s.flags.write fl (match o with | .o16 => 0x7FD5 | .o32 => 0x3D7FD5)
            cycles := s.cycles + 1 }) ∧
    (0xFFFF < (cut o.size off).toNat →
      ∃ s4, exec (.iret o) s = takeException (Exc.gp 0) s s4 ∧ s4.mem = s3.mem ∧ s4.cr2 = s3.cr2)

/-- "IRET after INT reproduces the pre-INT CS:EIP:EFLAGS in real mode exactly", and every general register
(spec/46_control.md R339). -/
def Obligations.ReturnAfterInterruptRestores : Prop :=
  ∀ (v : Byte) (s : State), s.RealReady → s.eip.toNat ≤ 0xFFFF →
    ∃ t u, exec (.int v) s = .next t ∧ exec (.iret .o16) t = .next u ∧ u.cs.selector = s.cs.selector ∧
      u.eip = s.eip ∧ u.flags.image = s.flags.image ∧ u.regs = s.regs

/-! ## Memory -/

/-- Accesses to an operand place. Paging off, a read, a write and an opening succeed exactly when the segment check lets them
pass, at base + offset, and else raise #SS(0) or #GP(0) with nothing changed; in real mode only the limit is checked; one that
succeeds changes nothing but memory and what devices have seen (spec/20_memory.md R85 to R88, R115). With paging, the access is
the linear one at base + offset at the current privilege; within a page it goes to the one translated address; across a page
boundary each byte is translated on its own, in ascending order: a write byte by byte stores each byte before the next is
translated, an all-or-nothing one and an opening translate all bytes first; a fault has the faulting byte's linear address in
CR2 (R84). -/
def Obligations.OperandAccess : Prop :=
  (∀ (s : State) (sz : Size) (l : Loc) (v : Word), s.pg = false →
    readLoc sz l s =
      (if s.allows sz .read l then .ok (s.loaded sz l).1 (s.loaded sz l).2 else .error (.exc (s.placeFault l)) s) ∧
    writeLoc sz v l s =
      (if s.allows sz .write l then .ok () (s.stored sz v l) else .error (.exc (s.placeFault l)) s) ∧
    openLoc sz l s =
      (if s.allows sz .rmw l then .ok (s.opened l) s else .error (.exc (s.placeFault l)) s)) ∧
  (∀ (s : State) (sz : Size) (g : SReg) (off : Nat) (k : AccKind), s.pe = false →
    (s.allows sz k (.mem g off) = true ↔ off + sz.bytes - 1 ≤ (s.seg g).cache.limit.toNat)) ∧
  (∀ (s t : State) (sz : Size) (l : Loc) (v : Word), readLoc sz l s = .ok v t → s.sameButMemory t) ∧
  (∀ (s t : State) (sz : Size) (l : Loc) (p : Opened), openLoc sz l s = .ok p t → s.sameButMemory t) ∧
  (∀ (s t : State) (sz : Size) (g : SReg) (off : Nat) (v : Word), writeLoc sz v (.mem g off) s = .ok () t →
    s.sameButMemory t) ∧
  (∀ (s : State) (sz : Size) (g : SReg) (off : Nat) (v : Word),
    let l := s.linAt g off
    readLoc sz (.mem g off) s =
      (if s.allows sz .read (.mem g off) then
        match linRead l sz.bytes (accAt .read s.cpl) s with
        | .ok q t => .ok (q.setWidth 32) t
        | .error x t => .error x t
      else .error (.exc (s.placeFault (.mem g off))) s) ∧
    writeLoc sz v (.mem g off) s =
      (if s.allows sz .write (.mem g off) then linWrite l sz.bytes (v.setWidth 64) (accAt .write s.cpl) s
      else .error (.exc (s.placeFault (.mem g off))) s) ∧
    openLoc sz (.mem g off) s =
      (if s.allows sz .rmw (.mem g off) then
        match linPlace l sz.bytes (accAt .rmw s.cpl) s with
        | .ok pl t => .ok (.mem pl) t
        | .error x t => .error x t
      else .error (.exc (s.placeFault (.mem g off))) s)) ∧
  (∀ (s : State) (l : Word) (n : Nat) (v : Quad) (a : Acc), (s.pg = false ∨ l.toNat % 4096 + n ≤ 4096) →
    (∀ p t, translate l a s = .ok p t →
      linRead l n a s = .ok (t.physRead p n).1 (t.physRead p n).2 ∧ linWrite l n v a s = .ok () (t.physWrite p n v) ∧
      linPlace l n a s = .ok (.run p) t) ∧
    (∀ x t, translate l a s = .error x t →
      linRead l n a s = .error x t ∧ linWrite l n v a s = .error x t ∧ linPlace l n a s = .error x t)) ∧
  (∀ (s : State) (l : Word) (n : Nat) (v : Quad) (a : Acc), s.pg = true → 4096 < l.toNat % 4096 + n →
    linRead l n a s = linReadBytes l a n s ∧
    (s.params.straddle = .bytewise → linWrite l n v a s = linWriteBytes l a n v s) ∧
    (s.params.straddle = .allOrNothing →
      (∀ ps t, translateBytes l a n s = .ok ps t → linWrite l n v a s = .ok () (t.writeEach ps v)) ∧
      (∀ x t, translateBytes l a n s = .error x t → linWrite l n v a s = .error x t)) ∧
    (∀ ps t, translateBytes l a n s = .ok ps t → linPlace l n a s = .ok (.bytes ps) t) ∧
    (∀ x t, translateBytes l a n s = .error x t → linPlace l n a s = .error x t)) ∧
  (∀ (s : State) (l : Word) (n : Nat) (v : Quad) (a : Acc),
    (∀ x t, translate l a s = .error x t →
      linReadBytes l a (n + 1) s = .error x t ∧ linWriteBytes l a (n + 1) v s = .error x t ∧
      translateBytes l a (n + 1) s = .error x t) ∧
    (∀ p t, translate l a s = .ok p t →
      (∀ hi u, linReadBytes (l + 1) a n (t.physRead p 1).2 = .ok hi u →
        linReadBytes l a (n + 1) s = .ok ((t.physRead p 1).1 ||| (hi <<< 8)) u) ∧
      (∀ x u, linReadBytes (l + 1) a n (t.physRead p 1).2 = .error x u → linReadBytes l a (n + 1) s = .error x u) ∧
      linWriteBytes l a (n + 1) v s = linWriteBytes (l + 1) a n (v >>> 8) (t.physWrite p 1 (v &&& 0xFF)) ∧
      (∀ ps u, translateBytes (l + 1) a n t = .ok ps u → translateBytes l a (n + 1) s = .ok (p :: ps) u) ∧
      (∀ x u, translateBytes (l + 1) a n t = .error x u → translateBytes l a (n + 1) s = .error x u))) ∧
  (∀ (s t : State) (l : Word) (n : Nat) (v : Quad) (a : Acc) (e : Exc),
    (linReadBytes l a n s = .error (.exc e) t ∨ linWriteBytes l a n v s = .error (.exc e) t ∨
      translateBytes l a n s = .error (.exc e) t) →
    ∃ i, i < n ∧ t.cr2 = l + BitVec.ofNat 32 i ∧ e.vector = 14 ∧ e.addr = some t.cr2)

/-- Physical memory (spec/20_memory.md R71, R73, R74). The A20 mask clears bit 20 of an address when A20 is off. An access of up
to 8 bytes whose masked bytes lie in RAM, none in a provider block, is of those bytes, little-endian: a load reads them, a store
writes them and nothing else, and is read back. In any memory, every byte outside the stored ones is as before. An access whose
bytes are at or above RAM and the 1 MiB window reads 0 and writes nothing, and so does a byte past the last physical address
(log 10). -/
def Obligations.StoreThenLoad : Prop :=
  (∀ (s : State) (p : Word), s.maskA20 p = if s.a20 then p else p &&& ~~~0x00100000) ∧
  (∀ (s : State) (p : Word) (n : Nat) (v : Quad), 1 ≤ n → n ≤ 8 → s.mem.wf = true → p.toNat + n ≤ 2 ^ 32 →
    let a (i : Nat) := (s.maskA20 (BitVec.ofNat 32 (p.toNat + i))).toNat
    (∀ i, i < n → s.provider (a i) = none ∧ a i < s.params.ramSize) →
    (∀ i, i < n → ((s.physRead p n).1 >>> (8 * i)).setWidth 8 = s.mem.read (a i)) ∧
    (s.physRead p n).1 &&& BitVec.ofNat 64 (2 ^ (8 * n) - 1) = (s.physRead p n).1 ∧ (s.physRead p n).2 = s ∧
    ((s.physWrite p n v).physRead p n).1 = v &&& BitVec.ofNat 64 (2 ^ (8 * n) - 1) ∧
    (∀ i, i < n → (s.physWrite p n v).mem.read (a i) = (v >>> (8 * i)).setWidth 8) ∧
    (∀ b, (∀ i, i < n → b ≠ a i) → (s.physWrite p n v).mem.read b = s.mem.read b) ∧
    s.physWrite p n v = { s with mem := (s.physWrite p n v).mem }) ∧
  (∀ (s : State) (p : Word) (n : Nat) (v : Quad) (a : Nat), s.mem.wf = true → (∀ i, i < n → a ≠ s.byteAt p i) →
    (s.physWrite p n v).mem.read a = s.mem.read a) ∧
  (∀ (s : State) (p : Word) (n : Nat) (v : Quad), 1 ≤ n →
    (∀ i, i < n → p.toNat + i < 2 ^ 32 → s.params.ramSize ≤ s.byteAt p i ∧ 0x100000 ≤ s.byteAt p i) →
    s.physRead p n = (0, s) ∧ s.physWrite p n v = s)

/-- The page walk (spec/20_memory.md R76 to R78): not-present and protection faults with CR2 loaded, the accessed and dirty
bits written back only when they change, and the address composed; and the #PF error code (R83, R75). -/
def Obligations.PageWalk : Prop :=
  (∀ (s : State) (l : Word) (a : Acc),
     (s.pg = false → translate l a s = .ok l s) ∧
     (s.pg = true →
       let pdeAddr := (s.cr3 &&& 0xFFFFF000) ||| (l >>> 22) * 4
       let pde : Word := (s.physRead pdeAddr 4).1.setWidth 32
       let s1 := (s.physRead pdeAddr 4).2
       let pteAddr := (pde &&& 0xFFFFF000) ||| ((l >>> 12) &&& 0x3FF) * 4
       let pte : Word := (s1.physRead pteAddr 4).1.setWidth 32
       let s2 := (s1.physRead pteAddr 4).2
       let write := decide (a.kind = .write ∨ a.kind = .rmw)
       let denied :=
         (a.user && (!pde.getLsbD 2 || !pte.getLsbD 2)) ||
           (write && (a.user || s.wp) && (!pde.getLsbD 1 || !pte.getLsbD 1))
       (pde.getLsbD 0 = false → translate l a s = .error (.exc (Exc.pf (pfCode false a) l)) { s1 with cr2 := l }) ∧
       (pde.getLsbD 0 = true → pte.getLsbD 0 = false →
         translate l a s = .error (.exc (Exc.pf (pfCode false a) l)) { s2 with cr2 := l }) ∧
       (pde.getLsbD 0 = true → pte.getLsbD 0 = true → denied = true →
         translate l a s = .error (.exc (Exc.pf (pfCode true a) l)) { s2 with cr2 := l }) ∧
       (pde.getLsbD 0 = true → pte.getLsbD 0 = true → denied = false →
         let s3 := if pde.getLsbD 5 then s2 else s2.physWrite pdeAddr 4 ((pde ||| 0x20).setWidth 64)
         let pte' := pte ||| 0x20 ||| (if write then 0x40 else 0)
         translate l a s =
           .ok ((pte &&& 0xFFFFF000) ||| (l &&& 0xFFF))
             (if pte.getLsbD 5 && (!write || pte.getLsbD 6) then s3 else s3.physWrite pteAddr 4 (pte'.setWidth 64))))) ∧
  (∀ (present : Bool) (a : Acc) (i : Nat), i < 16 →
    (pfCode present a).getLsbD i =
      ((i == 0 && present) || (i == 1 && decide (a.kind = .write ∨ a.kind = .rmw)) || (i == 2 && a.user) ||
        (i == 4 && decide (a.kind = .fetch)))) ∧
  (∀ (k : AccKind) (cpl : BitVec 2), (accAt k cpl).user = decide (cpl = 3) ∧ (accSys k).user = false)

/-- PUSH x then POP y at the same operand size gives y the value of x and restores the stack pointer
(spec/45_data_flags_stack.md R289, spec/20_memory.md R93). POP into the stack pointer: PopForms. -/
def Obligations.PushThenPopCopies : Prop :=
  ∀ (o : OSize) (r q : Reg) (s : State), s.StackWindow o.bytes → q ≠ .esp →
    ∃ t u, exec (.pushRv o r) s = .next t ∧ exec (.popRv o q) t = .next u ∧
      u.regs.view o.size q = s.regs.view o.size r ∧ (∀ x, x ≠ q → u.regs.get x = s.regs.get x) ∧ u.flags = s.flags

/-- MOV to a segment register (spec/45_data_flags_stack.md R283): the real-mode load; the null selector; reading the descriptor,
with #GP beyond the table's limit; the type, privilege and present tests in their order, each with its exception and the
register unchanged; and what a load that passes leaves, with the accessed bit set in memory where SET_DESC_ACCESSED asks for it,
or the exception of that write.
A load of SS exempts the next boundary (spec/20_memory.md R99 to R103, R106; the cache fields R106 does not name: log 15). -/
def Obligations.SegmentLoads : Prop :=
  (∀ (g : SReg) (m : Rm) (v : Word) (s s1 : State), readLoc .w (rmv m s) s = .ok v s1 → s.pe = false →
    exec (.movSregRm16 g m) s =
      .next
        { s1.setSeg g (SegReg.realOf g (v.setWidth 16)) with
          inhibitNext := s.inhibitNext || decide (g = .ss), cycles := s.cycles + 1 }) ∧
  (∀ (g : SReg) (m : Rm) (v : Word) (s s1 : State), readLoc .w (rmv m s) s = .ok v s1 → s.pe = true →
    selIndex (v.setWidth 16) = 0 →
    (g ≠ .ss →
      exec (.movSregRm16 g m) s =
        .next { s1.setSeg g (SegReg.nullOf (v.setWidth 16) false) with cycles := s.cycles + 1 }) ∧
    (g = .ss → exec (.movSregRm16 g m) s = takeException (Exc.gp 0) s s1)) ∧
  (∀ (sel : Half) (e : Byte) (s : State),
    let base := if selTI sel then s.ldtr.base else s.gdtr.base
    let limit := if selTI sel then s.ldtr.limit.toNat else s.gdtr.limit.toNat
    descRead sel e s =
      if limit < selIndex sel * 8 + 7 then .error (.exc (Exc.coded e (sel &&& 0xFFFC))) s
      else sysRead (base + BitVec.ofNat 32 (selIndex sel * 8)) 8 s) ∧
  (∀ (g : SReg) (m : Rm) (v : Word) (s s1 : State), readLoc .w (rmv m s) s = .ok v s1 → s.pe = true →
    let sel : Half := v.setWidth 16
    selIndex sel ≠ 0 →
    (∀ e s2, descRead sel 13 s1 = .error (.exc e) s2 → exec (.movSregRm16 g m) s = takeException e s s2) ∧
    (∀ d s2, descRead sel 13 s1 = .ok d s2 →
      let tests := segTests g sel s.cpl d
      let loaded := s2.setSeg g { selector := sel, cache := cacheOf d (decide (g = .ss)) (selRPL sel) }
      (∀ e, checked tests () s2 = .error (.exc e) s2 → exec (.movSregRm16 g m) s = takeException e s s2) ∧
      (∀ e s3, checked tests () s2 = .ok () s2 → loaded.MarkRaises sel d e s3 →
        exec (.movSregRm16 g m) s = takeException e s s3) ∧
      (∀ s3, checked tests () s2 = .ok () s2 → loaded.Marked sel d s3 →
        exec (.movSregRm16 g m) s =
          .next { s3 with inhibitNext := s.inhibitNext || decide (g = .ss), cycles := s.cycles + 1 })))

/-! ## Arithmetic and flags -/

/-- AddFlags and SubFlags (spec/40_alu_arith.md R200, R201): the truncated sum or difference, carry or borrow included, and the
six flags. -/
def Obligations.SumAndDifferenceFlags : Prop :=
  ∀ (f : Flags) (sz : Size) (a b : Word) (c : Bool), a.toNat < 2 ^ sz.bits → b.toNat < 2 ^ sz.bits →
    (let r := addResult sz a b c
     let g := f.add sz a b c
     r.toNat = (a.toNat + b.toNat + c.toNat) % 2 ^ sz.bits ∧
     (g.cf = true ↔ 2 ^ sz.bits ≤ a.toNat + b.toNat + c.toNat) ∧
     (g.of = true ↔ msb sz a = msb sz b ∧ msb sz r ≠ msb sz a) ∧
     (g.af = true ↔ (a ^^^ b ^^^ r) &&& 0x10 ≠ 0) ∧
     g.zf = (r == 0) ∧ g.sf = msb sz r ∧ g.pf = parity8 r ∧ g.control = f.control) ∧
    (let r := subResult sz a b c
     let g := f.sub sz a b c
     (r.toNat : Int) = ((a.toNat : Int) - b.toNat - c.toNat) % 2 ^ sz.bits ∧
     (g.cf = true ↔ a.toNat < b.toNat + c.toNat) ∧
     (g.of = true ↔ msb sz a ≠ msb sz b ∧ msb sz r ≠ msb sz a) ∧
     (g.af = true ↔ (a ^^^ b ^^^ r) &&& 0x10 ≠ 0) ∧
     g.zf = (r == 0) ∧ g.sf = msb sz r ∧ g.pf = parity8 r ∧ g.control = f.control)

/-- OF means what signed arithmetic says: it is set exactly when the exact signed sum or difference, carry or borrow
included, is outside the signed range of the width; and the result is congruent to it. -/
def Obligations.OverflowIsSignedRange : Prop :=
  ∀ (f : Flags) (sz : Size) (a b : Word) (c : Bool), a.toNat < 2 ^ sz.bits → b.toNat < 2 ^ sz.bits →
    let sum := signed sz a + signed sz b + c.toNat
    let diff := signed sz a - signed sz b - c.toNat
    let inRange (x : Int) : Prop := -(2 ^ (sz.bits - 1)) ≤ x ∧ x < 2 ^ (sz.bits - 1)
    ((f.add sz a b c).of = false ↔ inRange sum) ∧ (inRange sum → signed sz (addResult sz a b c) = sum) ∧
    ((f.sub sz a b c).of = false ↔ inRange diff) ∧ (inRange diff → signed sz (subResult sz a b c) = diff)

/-- The 78 forms of ADD, ADC, SUB, SBB, CMP, AND, OR, XOR and TEST complete when their operands can be accessed, with
exactly this next state: the result written to the destination (CMP and TEST write none), the flags of the operation, nothing
else. AF after a logical operation is a free value (log 4). (spec/40_alu_arith.md R202 to R207, spec/41_alu_logic.md R230 to
R234.) -/
def Obligations.BinaryForms : Prop :=
  ∀ (i : Instr) (f : BinForm) (s : State), binForm i = some f →
    (f.op.writes = true → ∀ (p : Opened) (b : Word) (s1 s2 : State),
      openLoc f.size (f.dst s) s = .ok p s1 → readSrc f.size (f.src s) s1 = .ok b s2 →
      let a := (s2.readOpened f.size p).1
      let s3 := (s2.readOpened f.size p).2
      ∃ (af : Bool) (n : Nat),
        exec i s =
          .next
            { ({ s3 with flags := binFlags f.op f.size a b s.flags af, draws := n }).writeOpened f.size
                (binResult f.op f.size a b s.flags.cf) p with cycles := s.cycles + 1 }) ∧
    (f.op.writes = false → ∀ (a b : Word) (s1 s2 : State),
      readLoc f.size (f.dst s) s = .ok a s1 → readSrc f.size (f.src s) s1 = .ok b s2 →
      ∃ (af : Bool) (n : Nat),
        exec i s =
          .next { s2 with flags := binFlags f.op f.size a b s.flags af, draws := n, cycles := s.cycles + 1 })

/-- INC, DEC, NEG and NOT complete when their destination can be accessed, with exactly this next state; INC and DEC keep CF,
NOT keeps every flag (spec/40_alu_arith.md R208 to R210, spec/41_alu_logic.md R235). -/
def Obligations.UnaryForms : Prop :=
  ∀ (i : Instr) (op : UnOp) (sz : Size) (dst : State → Loc) (p : Opened) (s s1 : State),
    unForm i = some (op, sz, dst) → openLoc sz (dst s) s = .ok p s1 →
    let a := (s1.readOpened sz p).1
    let s2 := (s1.readOpened sz p).2
    exec i s =
      .next
        { ({ s2 with flags := unFlags op sz a s.flags }).writeOpened sz (unResult op sz a) p with
          cycles := s.cycles + 1 }

/-- The 42 shifts and rotates complete when their destination can be accessed: by a count of 0 (mod 32) everything but a
rewritten destination stays; else the destination takes the count-fold one-bit step, CF the last bit out, OF for a count of 1
the rule's value, and a rotate keeps ZF, SF, PF and AF. OF for a count above 1 and AF after a shift are free values (log 4).
(spec/42_alu_shift_rotate.md R240 to R248.) -/
def Obligations.ShiftForms : Prop :=
  ∀ (i : Instr) (op : ShiftOp) (sz : Size) (dst : State → Loc) (count : State → Word) (p : Opened) (s s1 : State),
    shiftForm i = some (op, sz, dst, count) → openLoc sz (dst s) s = .ok p s1 →
    let a := (s1.readOpened sz p).1
    let s2 := (s1.readOpened sz p).2
    let c := (count s &&& 0x1F).toNat
    let r := (shiftIter op sz c a s.flags.cf).1
    let cf := (shiftIter op sz c a s.flags.cf).2
    (c = 0 → exec i s = .next { s2.writeOpened sz a p with cycles := s.cycles + 1 }) ∧
    (c ≠ 0 → ∃ (of1 af1 : Bool) (n : Nat) (f : Flags),
      exec i s = .next { ({ s2 with flags := f, draws := n }).writeOpened sz r p with cycles := s.cycles + 1 } ∧
      f.cf = cf ∧ f.control = s.flags.control ∧
      f.of =
        (if c = 1 then
          (match op with
            | .shl => msb sz r ^^ cf | .shr => msb sz a | .sar => false | .rol => msb sz r ^^ cf
            | .rcl => msb sz r ^^ cf | .ror => msb sz a ^^ cf | .rcr => msb sz a ^^ s.flags.cf)
        else of1) ∧
      (op.isRotate = true → f.af = s.flags.af ∧ f.zf = s.flags.zf ∧ f.sf = s.flags.sf ∧ f.pf = s.flags.pf) ∧
      (op.isRotate = false → f.af = af1 ∧ f.zf = (cut sz r == 0) ∧ f.sf = msb sz r ∧ f.pf = parity8 r))

/-- The algebraic laws. SHL by c then SHR by c of a 16-bit value masks off its top c bits, and CF after each is the last bit
shifted out; for a count of 16 to 31 both give 0 (spec/42_alu_shift_rotate.md R249). RCL by c then RCR by c restores the value
and CF, and the other way round, at every width and count (R250). ADD then SUB of the same value restores the destination at
every width (spec/40_alu_arith.md R211); and so do the instructions on two registers, with the flags of R200 and R201 after
each. -/
def Obligations.ArithmeticAndShiftLaws : Prop :=
  (∀ (a : Word) (c : Nat) (cf : Bool), a.toNat < 2 ^ 16 →
     let l := shiftIter .shl .w c a cf
     let r := shiftIter .shr .w c l.1 l.2
     (c ≤ 15 → r.1 = a &&& (((1#32) <<< (16 - c)) - 1)) ∧
     (1 ≤ c → c ≤ 15 → l.2 = a.getLsbD (16 - c) ∧ r.2 = l.1.getLsbD (c - 1)) ∧
     (16 ≤ c → c ≤ 31 → l.1 = 0 ∧ r.1 = 0)) ∧
  (∀ (sz : Size) (a : Word) (c : Nat) (cf : Bool), a.toNat < 2 ^ sz.bits →
     shiftIter .rcr sz c (shiftIter .rcl sz c a cf).1 (shiftIter .rcl sz c a cf).2 = (a, cf) ∧
     shiftIter .rcl sz c (shiftIter .rcr sz c a cf).1 (shiftIter .rcr sz c a cf).2 = (a, cf)) ∧
  (∀ (sz : Size) (a b : Word), a.toNat < 2 ^ sz.bits → b.toNat < 2 ^ sz.bits →
    subResult sz (addResult sz a b false) b false = a) ∧
  (∀ (o : OSize) (r q : Reg) (s : State), r ≠ q →
    ∃ t u, exec (.addRmvRv o (.reg r) q) s = .next t ∧ exec (.subRmvRv o (.reg r) q) t = .next u ∧ u.regs = s.regs ∧
      t.flags = s.flags.add o.size (s.regs.view o.size r) (s.regs.view o.size q) false ∧
      u.flags = t.flags.sub o.size (t.regs.view o.size r) (s.regs.view o.size q) false) ∧
  (∀ (r q : Reg8) (s : State), r ≠ q →
    ∃ t u, exec (.addRm8R8 (.reg r) q) s = .next t ∧ exec (.subRm8R8 (.reg r) q) t = .next u ∧ u.regs = s.regs ∧
      t.flags = s.flags.add .b (s.regs.get8 r) (s.regs.get8 q) false ∧
      u.flags = t.flags.sub .b (t.regs.get8 r) (s.regs.get8 q) false)

/-- MUL and IMUL complete when their source can be read: the exact product goes to AX, DX:AX or EDX:EAX (low half to the
destination register of the other IMUL forms), CF and OF say whether the high half matters, the control flags stay. ZF, SF,
PF and AF are free values (log 4). (spec/43_alu_muldiv.md R260 to R263, R268.) -/
def Obligations.MultiplyForms : Prop :=
  (∀ (i : Instr) (sgn : Bool) (sz : Size) (src : State → Loc) (b : Word) (s s1 : State),
    mulForm i = some (sgn, sz, src) → readLoc sz (src s) s = .ok b s1 →
    let a := s.regs.view sz .eax
    let p : Int := if sgn then signed sz a * signed sz b else (a.toNat : Int) * b.toNat
    let low := truncInt sz p
    let high := truncInt sz (p / 2 ^ sz.bits)
    ∃ (f : Flags) (n : Nat),
      exec i s =
        .next
          { s1 with
            regs :=
              (match sz with
                | .b => s.regs.put .w .eax (low ||| (high <<< 8))
                | .w => (s.regs.put .w .eax low).put .w .edx high
                | .d => (s.regs.put .d .eax low).put .d .edx high)
            flags := f, draws := n, cycles := s.cycles + 1 } ∧
      f.cf = (if sgn then decide (p ≠ signed sz low) else decide (high ≠ 0)) ∧ f.of = f.cf ∧
      f.control = s.flags.control) ∧
  (∀ (i : Instr) (sz : Size) (r : Reg) (src : State → Loc) (factor : State → Word) (b : Word) (s s1 : State),
    mulIntoForm i = some (sz, r, src, factor) → readLoc sz (src s) s = .ok b s1 →
    let p := signed sz (factor s) * signed sz b
    ∃ (f : Flags) (n : Nat),
      exec i s =
        .next { s1 with regs := s.regs.put sz r (truncInt sz p), flags := f, draws := n, cycles := s.cycles + 1 } ∧
      f.cf = decide (p ≠ signed sz (truncInt sz p)) ∧ f.of = f.cf ∧ f.control = s.flags.control)

/-- DIV and IDIV: when the divisor is not 0 and the quotient fits, dividend = quotient * divisor + remainder with the
remainder small and of the dividend's sign, and only the result registers change, the six status flags being free values
(log 4); else #DE is taken with nothing changed (spec/43_alu_muldiv.md R264, R265, R269). -/
def Obligations.DivideForms : Prop :=
  ∀ (i : Instr) (sgn : Bool) (sz : Size) (src : State → Loc) (dw : Word) (s s1 : State),
    divForm i = some (sgn, sz, src) → readLoc sz (src s) s = .ok dw s1 →
    let n : Int := if sgn then signedDividend sz (dividend sz s.regs) else (dividend sz s.regs).toNat
    let d : Int := if sgn then signed sz dw else dw.toNat
    let lo : Int := if sgn then -(2 ^ (sz.bits - 1)) else 0
    let hi : Int := if sgn then 2 ^ (sz.bits - 1) - 1 else 2 ^ sz.bits - 1
    (∀ q m : Int, d ≠ 0 → n = q * d + m → |m| < |d| → (0 ≤ n → 0 ≤ m) → (n ≤ 0 → m ≤ 0) →
      (lo ≤ q → q ≤ hi →
        ∃ (f : Flags) (k : Nat),
          exec i s =
            .next
              { s1 with
                regs :=
                  (match sz with
                    | .b => (s.regs.set8 .al (truncInt .b q)).set8 .ah (truncInt .b m)
                    | .w => (s.regs.put .w .eax (truncInt .w q)).put .w .edx (truncInt .w m)
                    | .d => (s.regs.put .d .eax (truncInt .d q)).put .d .edx (truncInt .d m))
                flags := f, draws := k, cycles := s.cycles + 1 } ∧ f.control = s.flags.control) ∧
      (¬(lo ≤ q ∧ q ≤ hi) → exec i s = takeException Exc.de s s1)) ∧
    (d = 0 → exec i s = takeException Exc.de s s1)

/-- The decimal adjustments always complete (AAM for every base but 0, where it takes #DE), write AL (and AH), and the
flags the rules name; the flags the rules leave undefined, and the second step of AH where the editions differ, are free
values (log 4). (spec/44_alu_bcd.md R270 to R275.) -/
def Obligations.DecimalAdjustForms : Prop :=
  ∀ s : State,
    let al := s.regs.get8 .al
    let ah := s.regs.get8 .ah
    let low := decide (9 < (al &&& 0x0F).toNat) || s.flags.af
    let high := decide (0x99 < al.toNat) || s.flags.cf
    let szp (f : Flags) (r : Word) : Prop := f.zf = (r == 0) ∧ f.sf = msb .b r ∧ f.pf = parity8 r
    (∃ (f : Flags) (n : Nat),
      let r := (al + (if low then 6 else 0) + (if high then 0x60 else 0)) &&& 0xFF
      exec .daa s = .next { s with regs := s.regs.set8 .al r, flags := f, draws := n, cycles := s.cycles + 1 } ∧
      f.cf = high ∧ f.af = low ∧ szp f r ∧ f.control = s.flags.control) ∧
    (∃ (f : Flags) (n : Nat),
      let r := (al - (if low then 6 else 0) - (if high then 0x60 else 0)) &&& 0xFF
      exec .das s = .next { s with regs := s.regs.set8 .al r, flags := f, draws := n, cycles := s.cycles + 1 } ∧
      f.cf = (high || (low && (s.flags.cf || decide (al.toNat < 6)))) ∧ f.af = low ∧ szp f r ∧
      f.control = s.flags.control) ∧
    (∃ (f : Flags) (n : Nat) (twice : Bool),
      exec .aaa s =
        .next
          { s with
            regs :=
              (s.regs.set8 .ah (if low then (if 0xFA ≤ al.toNat ∧ twice then ah + 2 else ah + 1) else ah)).set8 .al
                ((if low then al + 6 else al) &&& 0x0F)
            flags := f, draws := n, cycles := s.cycles + 1 } ∧
      f.cf = low ∧ f.af = low ∧ f.control = s.flags.control) ∧
    (∃ (f : Flags) (n : Nat) (twice : Bool),
      exec .aas s =
        .next
          { s with
            regs :=
              (s.regs.set8 .ah (if low then (if al.toNat < 6 ∧ twice then ah - 2 else ah - 1) else ah)).set8 .al
                ((if low then al - 6 else al) &&& 0x0F)
            flags := f, draws := n, cycles := s.cycles + 1 } ∧
      f.cf = low ∧ f.af = low ∧ f.control = s.flags.control) ∧
    (∀ base : Byte, base ≠ 0 →
      ∃ (f : Flags) (n : Nat),
        let r := BitVec.ofNat 32 (al.toNat % base.toNat)
        exec (.aam base) s =
          .next
            { s with
              regs := (s.regs.set8 .ah (BitVec.ofNat 32 (al.toNat / base.toNat))).set8 .al r
              flags := f, draws := n, cycles := s.cycles + 1 } ∧
        szp f r ∧ f.control = s.flags.control) ∧
    exec (.aam 0) s = takeException Exc.de s s ∧
    (∀ base : Byte,
      ∃ (f : Flags) (n : Nat),
        let r := BitVec.ofNat 32 ((al.toNat + ah.toNat * base.toNat) % 256)
        exec (.aad base) s =
          .next
            { s with regs := (s.regs.set8 .al r).set8 .ah 0, flags := f, draws := n, cycles := s.cycles + 1 } ∧
        szp f r ∧ f.control = s.flags.control)

/-! ## Data, flags and stack -/

/-- CBW, CWDE, CWD, CDQ, LEA, NOP and MOV from a segment register to a register or memory always complete (the store when
its place can be written) and change the destination only; the upper half of a 32-bit register after MOV from a segment
register is a free value (log 4). Without a 66 prefix its register form is that of the code segment's default size; whether 66
selects the other is open, one answer for every state (log 35). (spec/43_alu_muldiv.md R266, R267, spec/45_data_flags_stack.md
R282, R284, R285.) -/
def Obligations.RegisterMoves : Prop :=
  (∃ selects : Bool, ∀ (s : State) (o : OSize),
    let plain : OSize := if s.cs.cache.db then .o32 else .o16
    s.sregFormSize o = if o = plain ∨ selects = true then o else plain) ∧
  ∀ s : State,
    exec (.cbwCwde .o16) s =
      .next { s.putReg .w .eax ((s.regs.eax.setWidth 8).signExtend 32) with cycles := s.cycles + 1 } ∧
    exec (.cbwCwde .o32) s =
      .next { s.putReg .d .eax ((s.regs.eax.setWidth 16).signExtend 32) with cycles := s.cycles + 1 } ∧
    exec (.cwdCdq .o16) s =
      .next { s.putReg .w .edx (if s.regs.eax.getLsbD 15 then 0xFFFF else 0) with cycles := s.cycles + 1 } ∧
    exec (.cwdCdq .o32) s =
      .next { s.putReg .d .edx (if s.regs.eax.getLsbD 31 then 0xFFFFFFFF else 0) with cycles := s.cycles + 1 } ∧
    (∀ o r m, exec (.lea o r m) s =
      .next { s.putReg o.size r (effAddr s.regs m.addr) with cycles := s.cycles + 1 }) ∧
    exec .nop s = .next { s with cycles := s.cycles + 1 } ∧
    (∀ o r g, s.sregFormSize o = .o16 → exec (.movRm16Sreg o (.reg r) g) s =
      .next { s.putReg .w r ((s.seg g).selector.setWidth 32) with cycles := s.cycles + 1 }) ∧
    (∀ o r g, s.sregFormSize o = .o32 → ∃ (w : Word) (n : Nat), w.setWidth 16 = (s.seg g).selector ∧
      exec (.movRm16Sreg o (.reg r) g) s = .next { s.putReg .d r w with draws := n, cycles := s.cycles + 1 }) ∧
    (∀ o m g s1, writeLoc .w ((s.seg g).selector.setWidth 32) (rmv (.mem m) s) s = .ok () s1 →
      exec (.movRm16Sreg o (.mem m) g) s = .next { s1 with cycles := s.cycles + 1 })

/-- The twelve other moves complete when their source can be read and their destination written: a register destination
takes the value and nothing else changes; a memory one, paging off, is stored at base + offset
(spec/45_data_flags_stack.md R280, R281). -/
def Obligations.MoveForms : Prop :=
  ∀ (i : Instr) (sz : Size) (dst : State → Loc) (src : State → Source) (v : Word) (s s1 : State),
    moveForm i = some (sz, dst, src) → readSrc sz (src s) s = .ok v s1 →
    (∀ r, dst s = .reg r → exec i s = .next { s1.putReg sz r v with cycles := s.cycles + 1 }) ∧
    (∀ r, dst s = .reg8 r → exec i s = .next { s1.putReg8 r v with cycles := s.cycles + 1 }) ∧
    (∀ g off s2, dst s = .mem g off → writeLoc sz v (.mem g off) s1 = .ok () s2 →
      exec i s = .next { s2 with cycles := s.cycles + 1 }) ∧
    (∀ g off, dst s = .mem g off → s.pg = false → s1.allows sz .write (.mem g off) = true →
      exec i s = .next { s1.physWrite (s.linAt g off) sz.bytes (v.setWidth 64) with cycles := s.cycles + 1 })

/-- A push completes when its slot below the stack pointer can be written; the slot takes the value, SP_w moves down by the
operand size, nothing else changes. The upper half of a 32-bit push of a segment register is a free value (log 4).
(spec/45_data_flags_stack.md R286 to R288, R293, spec/20_memory.md R93.) -/
def Obligations.PushForms : Prop :=
  (∀ (i : Instr) (o : OSize) (val : State → Word) (s s1 : State), pushForm i = some (o, val) →
    memWrite .ss (s.spBelow o.bytes) o.bytes ((val s).setWidth 64) s = .ok () s1 →
    exec i s =
      .next
        { s1 with
          regs := (s.setSp (s.spTrunc (s.sp - BitVec.ofNat 32 o.bytes))).regs, cycles := s.cycles + 1 }) ∧
  (∀ (i : Instr) (o : OSize) (g : SReg) (s : State), pushSegForm i = some (o, g) →
    ∃ (w : Word) (n : Nat), w.setWidth 16 = (s.seg g).selector ∧
      ∀ s1, memWrite .ss (s.spBelow o.bytes) o.bytes (w.setWidth 64) { s with draws := n } = .ok () s1 →
        exec i s =
          .next
            { s1 with
              regs := (s.setSp (s.spTrunc (s.sp - BitVec.ofNat 32 o.bytes))).regs, cycles := s.cycles + 1 })

/-- A pop completes when its slot at the stack pointer can be read. A register takes the value after SP_w moved up; a segment
register is loaded first, by the loader, and SP_w moves after it; where the loader raises, that exception is taken and neither
has changed; POPF writes the flags its privilege lets it write and never VM, VIF or VIP (spec/45_data_flags_stack.md R289, R290,
R294, spec/20_memory.md R100 to R103). The cache fields R106 does not name: log 15. -/
def Obligations.PopForms : Prop :=
  ∀ (o : OSize) (v : Word) (s s1 : State), peek o 0 s = .ok v s1 →
    let regs := (s.setSp (s.spTrunc (s.sp + BitVec.ofNat 32 o.bytes))).regs
    (∀ r, exec (.popRv o r) s = .next { s1 with regs := regs.put o.size r v, cycles := s.cycles + 1 }) ∧
    (∀ i g, popSegForm i = some (o, g) →
      (s.pe = false →
        exec i s =
          .next
            { s1.setSeg g (SegReg.realOf g (v.setWidth 16)) with
              regs := regs, inhibitNext := s.inhibitNext || decide (g = .ss), cycles := s.cycles + 1 }) ∧
      (∀ s2, loadSeg g (v.setWidth 16) s1 = .ok () s2 →
        exec i s =
          .next
            { s2 with
              regs := regs, inhibitNext := s.inhibitNext || decide (g = .ss), cycles := s.cycles + 1 }) ∧
      (∀ e s2, loadSeg g (v.setWidth 16) s1 = .error (.exc e) s2 → exec i s = takeException e s s2) ∧
      (s.pe = true →
        let sel : Half := v.setWidth 16
        (selIndex sel = 0 → g = .ss → exec i s = takeException (Exc.gp 0) s s1) ∧
        (selIndex sel = 0 → g ≠ .ss →
          exec i s = .next { s1.setSeg g (SegReg.nullOf sel false) with regs := regs, cycles := s.cycles + 1 }) ∧
        (∀ e s2, selIndex sel ≠ 0 → descRead sel 13 s1 = .error (.exc e) s2 → exec i s = takeException e s s2) ∧
        (∀ d s2, selIndex sel ≠ 0 → descRead sel 13 s1 = .ok d s2 →
          let tests := segTests g sel s.cpl d
          let loaded := s2.setSeg g { selector := sel, cache := cacheOf d (decide (g = .ss)) (selRPL sel) }
          (∀ e, checked tests () s2 = .error (.exc e) s2 → exec i s = takeException e s s2) ∧
          (∀ e s3, checked tests () s2 = .ok () s2 → loaded.MarkRaises sel d e s3 → exec i s = takeException e s s3) ∧
          (∀ s3, checked tests () s2 = .ok () s2 → loaded.Marked sel d s3 →
            exec i s =
              .next
                { s3 with
                  regs := regs, inhibitNext := s.inhibitNext || decide (g = .ss), cycles := s.cycles + 1 })))) ∧
    (let mask : Word :=
      0x4DD5 ||| (if s.pe = false ∨ s.cpl = 0 then 0x3000 else 0) |||
        (if s.pe = false ∨ s.cpl.toNat ≤ s.flags.iopl.toNat then 0x0200 else 0) |||
        (match o with | .o16 => 0 | .o32 => 0x00250000)
    exec (.popf o) s = .next { s1 with regs := regs, flags := s.flags.write v mask, cycles := s.cycles + 1 })

/-- PUSHA completes when its eight slots can be written, eAX highest and the stack pointer's slot holding its value before;
POPA completes when they can be read, and discards that slot; so POPA after PUSHA restores every register
(spec/45_data_flags_stack.md R291, R292). -/
def Obligations.PushAllPopAll : Prop :=
  (∀ (o : OSize) (s s1 : State),
    stage o 0 [s.regs.eax, s.regs.ecx, s.regs.edx, s.regs.ebx, s.sp, s.regs.ebp, s.regs.esi, s.regs.edi] s = .ok () s1 →
    exec (.pusha o) s =
      .next
        { s1 with
          regs := (s.setSp (s.spTrunc (s.sp - BitVec.ofNat 32 (8 * o.bytes)))).regs, cycles := s.cycles + 1 }) ∧
  (∀ (o : OSize) (di si bp x bx dx cx ax : Word) (s s1 : State),
    peekAll o [0, o.bytes, 2 * o.bytes, 3 * o.bytes, 4 * o.bytes, 5 * o.bytes, 6 * o.bytes, 7 * o.bytes] s =
      .ok [di, si, bp, x, bx, dx, cx, ax] s1 →
    exec (.popa o) s =
      .next
        { s1 with
          regs :=
            (((((((s.setSp (s.spTrunc (s.sp + BitVec.ofNat 32 (8 * o.bytes)))).regs.put o.size .edi di).put o.size .esi
              si).put o.size .ebp bp).put o.size .ebx bx).put o.size .edx dx).put o.size .ecx cx).put o.size .eax ax
          cycles := s.cycles + 1 }) ∧
  (∀ (o : OSize) (s : State), s.StackWindow (8 * o.bytes) →
    ∃ t u, exec (.pusha o) s = .next t ∧ exec (.popa o) t = .next u ∧ u.regs = s.regs ∧ u.flags = s.flags)

/-- The flag instructions: each changes the flag it names and nothing else, and always completes; CLI and STI need CPL at
most IOPL in protected mode, else #GP(0); STI exempts the next boundary
(spec/45_data_flags_stack.md R295 to R303). -/
def Obligations.FlagInstructions : Prop :=
  ∀ s : State,
    exec .clc s = .next { s with flags := { s.flags with cf := false }, cycles := s.cycles + 1 } ∧
    exec .stc s = .next { s with flags := { s.flags with cf := true }, cycles := s.cycles + 1 } ∧
    exec .cmc s = .next { s with flags := { s.flags with cf := !s.flags.cf }, cycles := s.cycles + 1 } ∧
    exec .cld s = .next { s with flags := { s.flags with df := false }, cycles := s.cycles + 1 } ∧
    exec .std s = .next { s with flags := { s.flags with df := true }, cycles := s.cycles + 1 } ∧
    exec .lahf s = .next { s.putReg8 .ah (s.flags.image &&& 0xFF) with cycles := s.cycles + 1 } ∧
    exec .sahf s =
      .next { s with flags := s.flags.write (s.regs.get8 .ah) 0xD5, cycles := s.cycles + 1 } ∧
    ((s.pe = false ∨ s.cpl.toNat ≤ s.flags.iopl.toNat) →
      exec .cli s = .next { s with flags := { s.flags with ifl := false }, cycles := s.cycles + 1 } ∧
      exec .sti s =
        .next { s with flags := { s.flags with ifl := true }, inhibitNext := true, cycles := s.cycles + 1 }) ∧
    (s.pe = true → s.flags.iopl.toNat < s.cpl.toNat →
      exec .cli s = takeException (Exc.gp 0) s s ∧ exec .sti s = takeException (Exc.gp 0) s s)

/-- A masked write of EFLAGS, seen through the image: a field whose bits the mask selects takes the written bits, every other
bit is as before; bit 1 reads 1, bits 3, 5, 15 and 31:22 read 0; and each field stands at its bit position (spec/10_state.md
R27, R28, R32, R33). -/
def Obligations.EflagsWriteThenImage : Prop :=
  ∀ (f : Flags) (v m : Word) (i : Nat), i < 32 →
    (f.write v m).image.getLsbD i =
      (if i ∈ [0, 2, 4, 6, 7, 8, 9, 10, 11, 14, 16, 17, 18, 19, 20, 21] then
        (if m.getLsbD i then v.getLsbD i else f.image.getLsbD i)
      else if i ∈ [12, 13] then
        (if m.getLsbD 12 && m.getLsbD 13 then v.getLsbD i else f.image.getLsbD i)
      else decide (i = 1)) ∧
    f.image.getLsbD 0 = f.cf ∧ f.image.getLsbD 2 = f.pf ∧ f.image.getLsbD 4 = f.af ∧ f.image.getLsbD 6 = f.zf ∧
    f.image.getLsbD 7 = f.sf ∧ f.image.getLsbD 8 = f.tf ∧ f.image.getLsbD 9 = f.ifl ∧ f.image.getLsbD 10 = f.df ∧
    f.image.getLsbD 11 = f.of ∧ f.image.extractLsb' 12 2 = f.iopl ∧ f.image.getLsbD 14 = f.nt ∧
    f.image.getLsbD 16 = f.rf ∧ f.image.getLsbD 17 = f.vm ∧ f.image.getLsbD 18 = f.ac ∧ f.image.getLsbD 19 = f.vif ∧
    f.image.getLsbD 20 = f.vip ∧ f.image.getLsbD 21 = f.id

/-- The register views (spec/10_state.md R21 to R23): a view is bits of its cell; it reads back what was written to it, cut to
its width; a word or byte write changes only the bits its view covers, and no other cell. -/
def Obligations.RegisterViews : Prop :=
  (∀ (x : Regs) (sz : Size) (r q : Reg) (v : Word),
    (∀ i, (x.view sz r).getLsbD i = (decide (i < sz.bits) && (x.get r).getLsbD i)) ∧
    (x.put sz r v).view sz r = v &&& BitVec.ofNat 32 (2 ^ sz.bits - 1) ∧
    (∀ i, sz.bits ≤ i → ((x.put sz r v).get r).getLsbD i = (x.get r).getLsbD i) ∧
    (q ≠ r → (x.put sz r v).get q = x.get q)) ∧
  (∀ (x : Regs) (r q : Reg8) (v : Word),
    (∀ i, (x.get8 r).getLsbD i =
      (decide (i < 8) && (x.get (reg8Cell r)).getLsbD (if r ∈ [Reg8.ah, Reg8.ch, Reg8.dh, Reg8.bh] then i + 8 else i))) ∧
    reg8Cell r =
      (match r with
        | .al => .eax | .cl => .ecx | .dl => .edx | .bl => .ebx | .ah => .eax | .ch => .ecx | .dh => .edx | .bh => .ebx) ∧
    (x.set8 r v).get8 r = v &&& 0xFF ∧ (q ≠ r → (x.set8 r v).get8 q = x.get8 q) ∧
    (∀ i, ¬(if r ∈ [Reg8.ah, Reg8.ch, Reg8.dh, Reg8.bh] then 8 ≤ i ∧ i < 16 else i < 8) →
      ((x.set8 r v).get (reg8Cell r)).getLsbD i = (x.get (reg8Cell r)).getLsbD i) ∧
    (∀ p, p ≠ reg8Cell r → (x.set8 r v).get p = x.get p))

/-! ## Control transfer -/

/-- The near jumps (spec/46_control.md R320 to R323): a conditional jump not taken does nothing else than complete; a taken
or unconditional one sets EIP to the target cut to the operand size, or takes #GP(0) beyond the limit of CS. -/
def Obligations.NearJumps : Prop :=
  (∀ (i : Instr) (cc : BitVec 4) (o : OSize) (rel : Word) (s : State), jccForm i = some (cc, o, rel) →
    (s.flags.cond cc = false → exec i s = .next { s with cycles := s.cycles + 1 }) ∧
    (s.flags.cond cc = true → (cut o.size (s.eip + rel)).toNat ≤ s.cs.cache.limit.toNat →
      exec i s = .next { s with eip := cut o.size (s.eip + rel), cycles := s.cycles + 1 }) ∧
    (s.flags.cond cc = true → s.cs.cache.limit.toNat < (cut o.size (s.eip + rel)).toNat →
      exec i s = takeException (Exc.gp 0) s s)) ∧
  (∀ (i : Instr) (o : OSize) (rel : Word) (s : State), jmpForm i = some (o, rel) →
    ((cut o.size (s.eip + rel)).toNat ≤ s.cs.cache.limit.toNat →
      exec i s = .next { s with eip := cut o.size (s.eip + rel), cycles := s.cycles + 1 }) ∧
    (s.cs.cache.limit.toNat < (cut o.size (s.eip + rel)).toNat → exec i s = takeException (Exc.gp 0) s s)) ∧
  (∀ (o : OSize) (m : Rm) (t : Word) (s s1 : State), readLoc o.size (rmv m s) s = .ok t s1 →
    ((cut o.size t).toNat ≤ s.cs.cache.limit.toNat →
      exec (.jmpRmv o m) s = .next { s1 with eip := cut o.size t, cycles := s.cycles + 1 }) ∧
    (s.cs.cache.limit.toNat < (cut o.size t).toNat → exec (.jmpRmv o m) s = takeException (Exc.gp 0) s s1)) ∧
  (∀ f : Flags,
    f.cond 0 = f.of ∧ f.cond 1 = !f.of ∧ f.cond 2 = f.cf ∧ f.cond 3 = !f.cf ∧ f.cond 4 = f.zf ∧ f.cond 5 = !f.zf ∧
    f.cond 6 = (f.cf || f.zf) ∧ f.cond 7 = (!f.cf && !f.zf) ∧ f.cond 8 = f.sf ∧ f.cond 9 = !f.sf ∧ f.cond 10 = f.pf ∧
    f.cond 11 = !f.pf ∧ f.cond 12 = decide (f.sf ≠ f.of) ∧ f.cond 13 = decide (f.sf = f.of) ∧
    f.cond 14 = (f.zf || decide (f.sf ≠ f.of)) ∧ f.cond 15 = (!f.zf && decide (f.sf = f.of)))

/-- Near CALL and RET (spec/46_control.md R324, R325, R330): CALL checks its target, pushes the next EIP and jumps; RET pops
the target, checks it, and releases its imm16. Beyond the limit of CS each takes #GP(0), the stack pointer unmoved. -/
def Obligations.NearCallsAndReturns : Prop :=
  (∀ (i : ImmV) (s s1 : State),
    let t := cut i.osize.size (s.eip + immSext i)
    (t.toNat ≤ s.cs.cache.limit.toNat →
      memWrite .ss (s.spBelow i.osize.bytes) i.osize.bytes (s.eip.setWidth 64) s = .ok () s1 →
      exec (.callRelv i) s =
        .next
          { s1 with
            regs := (s.setSp (s.spTrunc (s.sp - BitVec.ofNat 32 i.osize.bytes))).regs, eip := t
            cycles := s.cycles + 1 }) ∧
    (s.cs.cache.limit.toNat < t.toNat → exec (.callRelv i) s = takeException (Exc.gp 0) s s)) ∧
  (∀ (o : OSize) (m : Rm) (t : Word) (s s1 : State), readLoc o.size (rmv m s) s = .ok t s1 →
    (∀ s2, (cut o.size t).toNat ≤ s.cs.cache.limit.toNat →
      memWrite .ss (s.spBelow o.bytes) o.bytes (s.eip.setWidth 64) s1 = .ok () s2 →
      exec (.callRmv o m) s =
        .next
          { s2 with
            regs := (s.setSp (s.spTrunc (s.sp - BitVec.ofNat 32 o.bytes))).regs, eip := cut o.size t
            cycles := s.cycles + 1 }) ∧
    (s.cs.cache.limit.toNat < (cut o.size t).toNat → exec (.callRmv o m) s = takeException (Exc.gp 0) s s1)) ∧
  (∀ (i : Instr) (o : OSize) (imm : Half) (t : Word) (s s1 : State),
    ((i = .ret o ∧ imm = 0) ∨ i = .retImm16 o imm) → peek o 0 s = .ok t s1 →
    ((cut o.size t).toNat ≤ s.cs.cache.limit.toNat →
      exec i s =
        .next
          { s1 with
            regs := (s.setSp (s.spTrunc (s.sp + BitVec.ofNat 32 (o.bytes + imm.toNat)))).regs, eip := cut o.size t
            cycles := s.cycles + 1 }) ∧
    (s.cs.cache.limit.toNat < (cut o.size t).toNat → exec i s = takeException (Exc.gp 0) s s1))

/-- "CALL-then-RET restores EIP and ... the pre-call SP" (spec/46_control.md R339): a near CALL to a target within CS,
followed by a RET at equal operand size, in a plain stack; EIP fits the operand size. -/
def Obligations.CallThenReturnRestores : Prop :=
  ∀ (i : ImmV) (s : State), s.StackWindow i.osize.bytes →
    (cut i.osize.size (s.eip + immSext i)).toNat ≤ s.cs.cache.limit.toNat →
    cut i.osize.size s.eip = s.eip → s.eip.toNat ≤ s.cs.cache.limit.toNat →
    ∃ t u, exec (.callRelv i) s = .next t ∧ exec (.ret i.osize) t = .next u ∧
      t.eip = cut i.osize.size (s.eip + immSext i) ∧
      u.eip = s.eip ∧ u.regs = s.regs ∧ u.flags = s.flags

/-- Far JMP, CALL and RET in real mode (spec/46_control.md R320, R326, R327, R331): CS is loaded as in real mode; CALL pushes CS
and EIP first, at the operand size; RET pops them and releases its imm16; each takes #GP(0) for an offset beyond the new limit
0xFFFF, a CALL before it pushes anything (log 22). The upper half of a 32-bit CS slot is a free value (log 4); the cache fields
R106 does not name: log 15. -/
def Obligations.FarTransfersInRealMode : Prop :=
  ∀ s : State, s.pe = false →
    (∀ i sel, 0xFFFF < (immVal i).toNat →
      exec (.jmpFar i sel) s = takeException (Exc.gp 0) s s ∧ exec (.callFar i sel) s = takeException (Exc.gp 0) s s) ∧
    (∀ i sel, (immVal i).toNat ≤ 0xFFFF → exec (.jmpFar i sel) s =
      .next { s with cs := SegReg.realOf .cs sel, eip := immVal i, cycles := s.cycles + 1 }) ∧
    (∀ i sel, (immVal i).toNat ≤ 0xFFFF → ∃ (w : Word) (n : Nat), w.setWidth 16 = s.cs.selector ∧
      ∀ s1, stage i.osize 0 [w, s.eip] { s with draws := n } = .ok () s1 →
        exec (.callFar i sel) s =
          .next
            { s1 with
              regs := (s.setSp (s.spTrunc (s.sp - BitVec.ofNat 32 (2 * i.osize.bytes)))).regs
              cs := SegReg.realOf .cs sel, eip := immVal i, cycles := s.cycles + 1 }) ∧
    (∀ i o (imm : Half) off sel s1 s2, ((i = .retf o ∧ imm = 0) ∨ i = .retfImm16 o imm) →
      peek o 0 s = .ok off s1 → peek o o.bytes s1 = .ok sel s2 →
      ((cut o.size off).toNat ≤ 0xFFFF →
        exec i s =
          .next
            { s2 with
              regs := (s.setSp (s.spTrunc (s.sp + BitVec.ofNat 32 (2 * o.bytes + imm.toNat)))).regs
              cs := SegReg.realOf .cs (sel.setWidth 16), eip := cut o.size off, cycles := s.cycles + 1 }) ∧
      (0xFFFF < (cut o.size off).toNat →
        ∃ s3, exec i s = takeException (Exc.gp 0) s s3 ∧ s3.mem = s2.mem ∧ s3.cr2 = s2.cr2))

/-- RETF and IRET in protected mode: the tests of the CS they return to, in order (spec/46_control.md R331). To the same
privilege: CS, EIP, the flags IRET's mask selects, and SP_w, RETF's imm16 released. To an outer one: the tests of the outer SS,
then also SS and ESP from the stack, RETF's imm16 released there too (log 31), the CPL the RPL of the new CS, and each data
segment of a DPL below it null (R332, R333). A return to virtual-8086 mode is refused, and IRET with NT set switches to the task
the back-link names (R334, spec/60_exceptions.md R442). -/
def Obligations.ReturnsInProtectedMode : Prop :=
  (∀ (sel : Half) (off : Word) (s : State),
    let c := sel &&& 0xFFFC
    (selIndex sel = 0 → checkReturnCs sel off s = .error (.exc (Exc.gp 0)) s) ∧
    (∀ e s1, selIndex sel ≠ 0 → descRead sel 13 s = .error (.exc e) s1 →
      checkReturnCs sel off s = .error (.exc e) s1) ∧
    (∀ d s1, selIndex sel ≠ 0 → descRead sel 13 s = .ok d s1 →
      checkReturnCs sel off s =
        checked
          [(!descS d || !descCode d, Exc.gp c), (decide ((selRPL sel).toNat < s.cpl.toNat), Exc.gp c),
           (descConforming d && decide ((selRPL sel).toNat < (descDPL d).toNat), Exc.gp c),
           (!descConforming d && decide (descDPL d ≠ selRPL sel), Exc.gp c), (!descP d, Exc.np c),
           (decide ((descLimit d).toNat < off.toNat), Exc.gp 0)] d s1)) ∧
  (∀ (i : Instr) (o : OSize) (off : Word) (sel : Half) (k : Nat) (imm : Half) (fl : Flags) (s s1 : State), s.pe = true →
    s.Popped i o off sel k imm fl s1 →
    let r := selRPL sel
    (∀ e s2, checkReturnCs sel (cut o.size off) s1 = .error (.exc e) s2 → exec i s = takeException e s s2) ∧
    (∀ d s2, checkReturnCs sel (cut o.size off) s1 = .ok d s2 →
      (∀ s3, r = s.cpl → State.Marked { s2 with cs := { selector := sel, cache := cacheOf d false r } } sel d s3 →
        exec i s =
          .next
            { s3 with
              regs := (s.setSp (s.spTrunc (s.sp + BitVec.ofNat 32 k))).regs, eip := cut o.size off, flags := fl
              cycles := s.cycles + 1 }) ∧
      (∀ nesp nssW s3 s4, r ≠ s.cpl → peek o k s2 = .ok nesp s3 → peek o (k + o.bytes) s3 = .ok nssW s4 →
        let nss : Half := nssW.setWidth 16
        (selIndex nss = 0 → exec i s = takeException (Exc.gp 0) s s4) ∧
        (∀ e s5, selIndex nss ≠ 0 → descRead nss 13 s4 = .error (.exc e) s5 → exec i s = takeException e s s5) ∧
        (∀ ds s5, selIndex nss ≠ 0 → descRead nss 13 s4 = .ok ds s5 →
          let tests : List (Bool × Exc) :=
            [(decide (selRPL nss ≠ r) || !descS ds || descCode ds || !descWritable ds || decide (descDPL ds ≠ r),
              Exc.gp (nss &&& 0xFFFC)),
             (!descP ds, Exc.ss (nss &&& 0xFFFC))]
          (∀ e, checked tests () s5 = .error (.exc e) s5 → exec i s = takeException e s s5) ∧
          (∀ s6 s7, checked tests () s5 = .ok () s5 →
            State.Marked { s5 with cs := { selector := sel, cache := cacheOf d false r } } sel d s6 →
            State.Marked
              { s6 with eip := cut o.size off, flags := fl, ss := { selector := nss, cache := cacheOf ds true r } } nss ds s7 →
            let stale (x : SegReg) : SegReg :=
              if x.cache.null = false ∧ x.cache.dpl.toNat < r.toNat then SegReg.nullOf 0 false else x
            exec i s =
              .next
                { s7 with
                  regs :=
                    s.regs.set .esp (merge (if descDB ds then .d else .w) s.regs.esp nesp + imm.setWidth 32)
                  ds := stale s.ds, es := stale s.es, fs := stale s.fs, gs := stale s.gs
                  cycles := s.cycles + 1 }))))) ∧
  (∀ (off sel fl : Word) (s s1 s2 s3 : State), s.pe = true → s.flags.nt = false → s.cpl = 0 →
    peek .o32 0 s = .ok off s1 →
    peek .o32 4 s1 = .ok sel s2 → peek .o32 8 s2 = .ok fl s3 → fl.getLsbD 17 = true →
    exec (.iret .o32) s = .refused .virtual8086Return) ∧
  (∀ (o : OSize) (link : Quad) (s s1 : State), s.pe = true → s.flags.nt = true → sysRead s.tr.base 2 s = .ok link s1 →
    (∀ t, taskSwitch (link.setWidth 16) .iret s.eip s1 = .ok () t →
      exec (.iret o) s = .next { t with cycles := t.cycles + 1 }) ∧
    (∀ e t, taskSwitch (link.setWidth 16) .iret s.eip s1 = .error (.exc e) t → exec (.iret o) s = takeException e s t))

/-- Far JMP and CALL in protected mode by the kind of descriptor: null and beyond the table; a code segment, with the tests of
spec/20_memory.md R107 in order, CALL pushing CS and EIP at the operand size, CS taking the selector with the CPL as its RPL, so
that the privilege does not change; a task gate or an available TSS, which switch the task; and every other kind but a call gate,
which is #GP with the selector (spec/46_control.md R326, R327). The upper half of a 32-bit CS slot is a free value (log 4); the
descriptor of a code segment is read twice (log 30). -/
def Obligations.FarTransfersInProtectedMode : Prop :=
  (∀ (sel : Half) (off : Word) (d : Quad) (s s1 : State), selIndex sel ≠ 0 → descRead sel 13 s = .ok d s1 →
    let c := sel &&& 0xFFFC
    checkDirectCs sel off s =
      checked
        [(!descS d || !descCode d, Exc.gp c), (descConforming d && decide (s.cpl.toNat < (descDPL d).toNat), Exc.gp c),
         (!descConforming d && (decide (descDPL d ≠ s.cpl) || decide (s.cpl.toNat < (selRPL sel).toNat)), Exc.gp c),
         (!descP d, Exc.np c), (decide ((descLimit d).toNat < off.toNat), Exc.gp 0)] d s1) ∧
  (∀ (call : Bool) (imm : ImmV) (sel : Half) (s : State), s.pe = true →
    let i : Instr := if call then .callFar imm sel else .jmpFar imm sel
    let c := sel &&& 0xFFFC
    (selIndex sel = 0 → exec i s = takeException (Exc.gp 0) s s) ∧
    (∀ e s1, selIndex sel ≠ 0 → descRead sel 13 s = .error (.exc e) s1 → exec i s = takeException e s s1) ∧
    (∀ d s1, selIndex sel ≠ 0 → descRead sel 13 s = .ok d s1 →
      (descS d = true → descCode d = true →
        (∀ e s2, checkDirectCs sel (immVal imm) s1 = .error (.exc e) s2 → exec i s = takeException e s s2) ∧
        (∀ d2 s2, checkDirectCs sel (immVal imm) s1 = .ok d2 s2 →
          let cs : SegReg := { selector := withRPL sel s.cpl, cache := cacheOf d2 false s.cpl }
          (∀ s3, call = false → State.Marked { s2 with cs := cs } sel d2 s3 →
            exec i s = .next { s3 with eip := immVal imm, cycles := s.cycles + 1 } ∧ s3.cpl = s.cpl) ∧
          (call = true → ∃ (w : Word) (n : Nat), w.setWidth 16 = s.cs.selector ∧
            ∀ s3 s4, stage imm.osize 0 [w, s.eip] { s2 with draws := n } = .ok () s3 →
              State.Marked
                { s3 with
                  regs := (s.setSp (s.spTrunc (s.sp - BitVec.ofNat 32 (2 * imm.osize.bytes)))).regs, cs := cs } sel d2 s4 →
              exec i s = .next { s4 with eip := immVal imm, cycles := s.cycles + 1 } ∧ s4.cpl = s.cpl))) ∧
      (descS d = false → descType d ∈ [1, 5, 9] →
        let tests : List (Bool × Exc) :=
          [(decide ((descDPL d).toNat < s.cpl.toNat) || decide ((descDPL d).toNat < (selRPL sel).toNat), Exc.gp c),
           (!descP d, Exc.np c)]
        let tss := if descType d = 5 then gateSelector d else sel
        let kind : TaskKind := if call then .call else .jmp
        (∀ e, checked tests () s1 = .error (.exc e) s1 → exec i s = takeException e s s1) ∧
        (checked tests () s1 = .ok () s1 →
          (∀ t, taskSwitch tss kind s.eip s1 = .ok () t → exec i s = .next { t with cycles := t.cycles + 1 }) ∧
          (∀ e t, taskSwitch tss kind s.eip s1 = .error (.exc e) t → exec i s = takeException e s t))) ∧
      ((descS d = true ∧ descCode d = false ∨ descS d = false ∧ descType d ∉ [1, 4, 5, 9, 12]) →
        exec i s = takeException (Exc.gp c) s s1)))

/-- Far JMP and CALL through a call gate: the tests of the gate and of its target, in order (spec/46_control.md R328). JMP, and
CALL to the same privilege, enter the target at the current privilege, CALL pushing CS and EIP at the gate's size. CALL to a more
privileged one takes the stack of that level from the TSS, pushes exactly the old SS, ESP, CS and EIP on it, no flags, and writes
all of ESP; a gate with parameters is refused there (R329, R339). The upper half of a 32-bit selector slot is a free value
(log 4); what a fault on the new stack raises: log 18. -/
def Obligations.CallGateTransfers : Prop :=
  ∀ (call : Bool) (imm : ImmV) (sel : Half) (g : Quad) (s s1 : State), s.pe = true →
    let i : Instr := if call then .callFar imm sel else .jmpFar imm sel
    selIndex sel ≠ 0 → descRead sel 13 s = .ok g s1 → descS g = false → descType g ∈ [4, 12] →
    let tsel := gateSelector g
    let c := tsel &&& 0xFFFC
    let o := gateSize g
    let gateTests : List (Bool × Exc) :=
      [(decide ((descDPL g).toNat < s.cpl.toNat) || decide ((descDPL g).toNat < (selRPL sel).toNat),
        Exc.gp (sel &&& 0xFFFC)),
       (!descP g, Exc.np (sel &&& 0xFFFC)), (decide (selIndex tsel = 0), Exc.gp 0)]
    (∀ e, checked gateTests () s1 = .error (.exc e) s1 → exec i s = takeException e s s1) ∧
    (∀ e s2, checked gateTests () s1 = .ok () s1 → descRead tsel 13 s1 = .error (.exc e) s2 →
      exec i s = takeException e s s2) ∧
    (∀ d s2, checked gateTests () s1 = .ok () s1 → descRead tsel 13 s1 = .ok d s2 →
      let n := descDPL d
      let tests : List (Bool × Exc) :=
        [(!descS d || !descCode d || decide (s.cpl.toNat < n.toNat), Exc.gp c),
         (!call && !descConforming d && decide (n ≠ s.cpl), Exc.gp c), (!descP d, Exc.np c),
         (decide ((descLimit d).toNat < (gateOffset g).toNat), Exc.gp 0)]
      let cs (rpl : BitVec 2) : SegReg := { selector := withRPL tsel rpl, cache := cacheOf d false rpl }
      let inner := call = true ∧ descConforming d = false ∧ n.toNat < s.cpl.toNat
      (∀ e, checked tests () s2 = .error (.exc e) s2 → exec i s = takeException e s s2) ∧
      (∀ s3, checked tests () s2 = .ok () s2 → call = false → State.Marked { s2 with cs := cs s.cpl } tsel d s3 →
        exec i s = .next { s3 with eip := gateOffset g, cycles := s.cycles + 1 }) ∧
      (checked tests () s2 = .ok () s2 → call = true → ¬inner → ∃ (w : Word) (k : Nat), w.setWidth 16 = s.cs.selector ∧
        ∀ s3 s4, stage o 0 [w, s.eip] { s2 with draws := k } = .ok () s3 →
          State.Marked
            { s3 with
              regs := (s.setSp (s.spTrunc (s.sp - BitVec.ofNat 32 (2 * o.bytes)))).regs, cs := cs s.cpl } tsel d s4 →
          exec i s = .next { s4 with eip := gateOffset g, cycles := s.cycles + 1 }) ∧
      (checked tests () s2 = .ok () s2 → inner →
        (gateCount g ≠ 0 → exec i s = .refused .callGateParameters) ∧
        (gateCount g = 0 →
          (∀ e s3, innerStack n s2 = .error (.exc e) s3 → exec i s = takeException e s s3) ∧
          (∀ nss nesp ds s3, innerStack n s2 = .ok (nss, nesp, ds) s3 →
            ∃ (ss w : Word) (k : Nat), ss.setWidth 16 = s.ss.selector ∧ w.setWidth 16 = s.cs.selector ∧
              (∀ e s4, stageVia (Exc.ss 0) (cacheOf ds true n) n nesp o 0 [ss, s.regs.esp, w, s.eip]
                  { s3 with draws := k } = .error (.exc e) s4 → exec i s = takeException e s s4) ∧
              (∀ s4 s5 s6, stageVia (Exc.ss 0) (cacheOf ds true n) n nesp o 0 [ss, s.regs.esp, w, s.eip]
                  { s3 with draws := k } = .ok () s4 →
                State.Marked { s4 with ss := { selector := nss, cache := cacheOf ds true n } } nss ds s5 →
                State.Marked
                  { s5 with regs := s.regs.set .esp (nesp - BitVec.ofNat 32 (4 * o.bytes)), cs := cs n } tsel d s6 →
                exec i s = .next { s6 with eip := gateOffset g, cycles := s.cycles + 1 })))))

/-- A task switch (spec/60_exceptions.md R440 to R443): the tests of the new TSS's descriptor in order; the fields read; the
outgoing state saved in the current TSS, NT clear for IRET; the outgoing busy bit cleared, the new one set, the link written for
CALL and INT; the commit of TR, CR0.TS, CR3, EIP, EFLAGS (NT set for CALL and INT), the general registers and the new selectors,
each with a null cache; then LDTR, CS, SS, DS, ES, FS and GS loaded in that order, each after its tests, a fault leaving the new
task in place (log 17). The order inside the TSS: log 19; how a busy bit is written: log 29; the null caches: log 23. -/
def Obligations.TaskSwitch : Prop :=
  (∀ (sel : Half) (kind : TaskKind) (ret : Word) (s : State),
    let c := sel &&& 0xFFFC
    let vec : Byte := if kind = .iret then 10 else 13
    let links := kind = .call ∨ kind = .int
    (selTI sel = true ∨ selIndex sel = 0 → taskSwitch sel kind ret s = .error (.exc (Exc.coded vec c)) s) ∧
    (∀ d s1, selTI sel = false → selIndex sel ≠ 0 → descRead sel vec s = .ok d s1 →
      let is32 := decide (descType d ∈ [9, 11])
      let tests : List (Bool × Exc) :=
        [(descS d || decide (descType d ∉ [1, 3, 9, 11]), Exc.coded vec c),
         (decide (kind ≠ .iret) && decide (descType d ∈ [3, 11]), Exc.gp c), (!descP d, Exc.np c),
         (decide ((descLimit d).toNat < if is32 then 0x67 else 0x2B), Exc.ts c)]
      (∀ e, checked tests () s1 = .error (.exc e) s1 → taskSwitch sel kind ret s = .error (.exc e) s1) ∧
      (∀ t s2, checked tests () s1 = .ok () s1 → s1.TssRead (descBase d) is32 t s2 →
        (is32 = true ∧ t.eflags.getLsbD 17 = true → taskSwitch sel kind ret s = .error (.stop .virtual8086Task) s2) ∧
        (¬(is32 = true ∧ t.eflags.getLsbD 17 = true) → ∀ old s3 s4 s5 s6 s7,
          let image := if kind = .iret then s.flags.image &&& 0xFFFFBFFF else s.flags.image
          let x := s.regs
          let w (g : SegReg) : Word := g.selector.setWidth 32
          writeFields s.tr.base
            (if s.tr.is32 then
              [(0x28, 4, x.eax), (0x2C, 4, x.ecx), (0x30, 4, x.edx), (0x34, 4, x.ebx), (0x38, 4, x.esp), (0x3C, 4, x.ebp),
               (0x40, 4, x.esi), (0x44, 4, x.edi), (0x48, 2, w s.es), (0x4C, 2, w s.cs), (0x50, 2, w s.ss),
               (0x54, 2, w s.ds), (0x58, 2, w s.fs), (0x5C, 2, w s.gs), (0x20, 4, ret), (0x24, 4, image), (0x1C, 4, s.cr3)]
            else
              [(0x12, 2, x.eax), (0x14, 2, x.ecx), (0x16, 2, x.edx), (0x18, 2, x.ebx), (0x1A, 2, x.esp), (0x1C, 2, x.ebp),
               (0x1E, 2, x.esi), (0x20, 2, x.edi), (0x22, 2, w s.es), (0x24, 2, w s.cs), (0x26, 2, w s.ss),
               (0x28, 2, w s.ds), (0x0E, 2, ret), (0x10, 2, image)]) s2 = .ok () s3 →
          let outByte := s.gdtr.base + BitVec.ofNat 32 (selIndex s.tr.selector * 8) + 5
          sysRead outByte 1 s3 = .ok old s4 → sysWrite outByte 1 (old &&& 0xFD) s4 = .ok () s5 →
          sysWrite (s.gdtr.base + BitVec.ofNat 32 (selIndex sel * 8) + 5) 1 ((descAccess d ||| 2).setWidth 64) s5 =
            .ok () s6 →
          (links → sysWrite (descBase d) 2 (s.tr.selector.setWidth 64) s6 = .ok () s7) → (¬links → s7 = s6) →
          let f := s.flags.write t.eflags (if is32 then 0x003F7FD5 else 0x00007FD5)
          let half (a b : Word) : Word := if is32 then b else (a &&& 0xFFFF0000) ||| (b &&& 0xFFFF)
          let y := t.regs
          let u : State :=
            { s7 with
              tr := { selector := sel, base := descBase d, limit := descLimit d, is32 := is32 }
              cr0 := s.cr0 ||| 8, cr3 := if is32 then t.cr3 else s.cr3, eip := t.eip
              flags := { f with nt := f.nt || decide links }
              regs :=
                { eax := half x.eax y.eax, ecx := half x.ecx y.ecx, edx := half x.edx y.edx, ebx := half x.ebx y.ebx
                  esp := half x.esp y.esp, ebp := half x.ebp y.ebp, esi := half x.esi y.esi, edi := half x.edi y.edi }
              ldtr := { selector := t.ldt, base := 0, limit := 0, null := true }
              es := SegReg.nullOf t.es false, cs := SegReg.nullOf t.cs false, ss := SegReg.nullOf t.ss true
              ds := SegReg.nullOf t.ds false, fs := SegReg.nullOf t.fs false, gs := SegReg.nullOf t.gs false }
          (∀ u', loadTaskSegments t u = .ok () u' → taskSwitch sel kind ret s = .ok () u') ∧
          (∀ e u', loadTaskSegments t u = .error (.exc e) u' →
            taskSwitch sel kind ret s = .error (.exc { e with newTask := true }) u'))))) ∧
  (∀ (t : TssImage) (s : State),
    loadTaskSegments t s =
      (do
        taskLdtr t.ldt
        taskCs t.cs
        taskSs t.ss
        loadData 10 .ds t.ds
        loadData 10 .es t.es
        loadData 10 .fs t.fs
        loadData 10 .gs t.gs) s) ∧
  (∀ (sel : Half) (s : State),
    let c := sel &&& 0xFFFC
    (selIndex sel = 0 → taskLdtr sel s = .ok () s) ∧
    (selIndex sel ≠ 0 → selTI sel = true → taskLdtr sel s = .error (.exc (Exc.ts c)) s) ∧
    (∀ d s1, selIndex sel ≠ 0 → selTI sel = false → descRead sel 10 s = .ok d s1 →
      let tests : List (Bool × Exc) := [(descS d || decide (descType d ≠ 2), Exc.ts c), (!descP d, Exc.ts c)]
      (∀ e, checked tests () s1 = .error (.exc e) s1 → taskLdtr sel s = .error (.exc e) s1) ∧
      (checked tests () s1 = .ok () s1 →
        taskLdtr sel s =
          .ok () { s1 with ldtr := { selector := sel, base := descBase d, limit := descLimit d, null := false } }))) ∧
  (∀ (g : SReg) (sel : Half) (s : State),
    let c := sel &&& 0xFFFC
    let load := match g with | .cs => taskCs sel | .ss => taskSs sel | g => loadData 10 g sel
    (selIndex sel = 0 →
      load s =
        match g with
        | .cs => .error (.exc (Exc.ts c)) s
        | .ss => .error (.exc (Exc.ts 0)) s
        | g => .ok () (s.setSeg g (SegReg.nullOf sel false))) ∧
    (∀ e s1, selIndex sel ≠ 0 → descRead sel 10 s = .error (.exc e) s1 → load s = .error (.exc e) s1) ∧
    (∀ d s1, selIndex sel ≠ 0 → descRead sel 10 s = .ok d s1 →
      let tests : List (Bool × Exc) :=
        match g with
        | .cs =>
          [(!descS d || !descCode d, Exc.ts c), (!descConforming d && decide (descDPL d ≠ selRPL sel), Exc.ts c),
           (descConforming d && decide ((selRPL sel).toNat < (descDPL d).toNat), Exc.ts c), (!descP d, Exc.np c)]
        | .ss =>
          [(decide (selRPL sel ≠ s.cpl) || decide (descDPL d ≠ s.cpl) || !descS d || descCode d || !descWritable d,
            Exc.ts c),
           (!descP d, Exc.ss c)]
        | _ =>
          [(!descS d, Exc.ts c), (descCode d && !descReadable d, Exc.ts c),
           ((!descCode d || !descConforming d) && decide ((descDPL d).toNat < max s.cpl.toNat (selRPL sel).toNat),
            Exc.ts c),
           (!descP d, Exc.np c)]
      let loaded := s1.setSeg g { selector := sel, cache := cacheOf d (decide (g = .ss)) (selRPL sel) }
      (∀ e, checked tests () s1 = .error (.exc e) s1 → load s = .error (.exc e) s1) ∧
      (∀ e s2, checked tests () s1 = .ok () s1 → loaded.MarkRaises sel d e s2 →
        load s = .error (.exc e) (s2.setSeg g (s.seg g))) ∧
      (∀ s2, checked tests () s1 = .ok () s1 → loaded.Marked sel d s2 → load s = .ok () s2)))

/-! ## System instructions -/

/-- The privileged instructions take #GP(0) at CPL 1, 2 and 3, before anything else they do; LLDT and LTR take #UD in real
mode (spec/60_exceptions.md R450, spec/47_system.md R360 to R369). -/
def Obligations.PrivilegedInstructionsNeedCplZero : Prop :=
  (∀ (i : Instr) (s : State), needsCpl0 i = true → s.pe = true → s.cpl ≠ 0 →
    exec i s = takeException (Exc.gp 0) s s) ∧
  (∀ (i : Instr) (s : State), needsProtection i = true → s.pe = false → exec i s = takeException Exc.ud s s)

/-- HLT, CLTS and the moves of control and debug registers at CPL 0: exactly the register named changes; paging without
protection takes #GP(0) (spec/47_system.md R360, R364 to R368). -/
def Obligations.SystemRegisterMoves : Prop :=
  ∀ s : State, s.cpl = 0 →
    exec .hlt s = .next { s with halted := true, cycles := s.cycles + 1 } ∧
    exec .clts s = .next { s with cr0 := s.cr0 &&& 0xFFFFFFF7, cycles := s.cycles + 1 } ∧
    (∀ r n, exec (.movR32Cr r n) s = .next { s.putReg .d r (s.getCr n) with cycles := s.cycles + 1 }) ∧
    (∀ r n, (n = .cr0 → (s.regs.get r).getLsbD 31 = true → (s.regs.get r).getLsbD 0 = true) →
      exec (.movCrR32 n r) s = .next { s.setCr n (s.regs.get r) with cycles := s.cycles + 1 }) ∧
    (∀ r, (s.regs.get r).getLsbD 31 = true → (s.regs.get r).getLsbD 0 = false →
      exec (.movCrR32 .cr0 r) s = takeException (Exc.gp 0) s s) ∧
    (∀ r n, exec (.movR32Dr r n) s = .next { s.putReg .d r (s.dr.get n) with cycles := s.cycles + 1 }) ∧
    (∀ r n, exec (.movDrR32 n r) s = .next { s with dr := s.dr.set n (s.regs.get r), cycles := s.cycles + 1 })

/-- The loads of GDTR, IDTR, LDTR and TR at CPL 0; the selectors and descriptors LLDT and LTR reject, in order, each with its
exception (spec/47_system.md R361 to R363, R369). -/
def Obligations.TableRegisterLoads : Prop :=
  (∀ (o : OSize) (m : MemOp) (lim b : Quad) (s s1 s2 : State), s.cpl = 0 →
    memRead (memSeg m) (memOff s.regs m) 2 s = .ok lim s1 →
    memRead (memSeg m) (memOff s.regs m + 2) 4 s1 = .ok b s2 →
    let base : Word := match o with | .o16 => b.setWidth 32 &&& 0x00FFFFFF | .o32 => b.setWidth 32
    exec (.lgdt o m) s =
      .next { s2 with gdtr := { base := base, limit := lim.setWidth 16 }, cycles := s.cycles + 1 } ∧
    exec (.lidt o m) s =
      .next { s2 with idtr := { base := base, limit := lim.setWidth 16 }, cycles := s.cycles + 1 }) ∧
  (∀ (m : Rm) (v : Word) (s s1 : State), s.pe = true → s.cpl = 0 → readLoc .w (rmv m s) s = .ok v s1 →
    let sel : Half := v.setWidth 16
    (selIndex sel = 0 →
      exec (.lldt m) s =
        .next
          { s1 with
            ldtr := { selector := sel, base := 0, limit := 0, null := true }, cycles := s.cycles + 1 } ∧
      exec (.ltr m) s = takeException (Exc.gp 0) s s1) ∧
    (selIndex sel ≠ 0 → selTI sel = true →
      exec (.lldt m) s = takeException (Exc.gp (sel &&& 0xFFFC)) s s1 ∧
      exec (.ltr m) s = takeException (Exc.gp (sel &&& 0xFFFC)) s s1) ∧
    (∀ e s2, selIndex sel ≠ 0 → selTI sel = false → descRead sel 13 s1 = .error (.exc e) s2 →
      exec (.lldt m) s = takeException e s s2 ∧ exec (.ltr m) s = takeException e s s2) ∧
    (∀ d s2, selIndex sel ≠ 0 → selTI sel = false → descRead sel 13 s1 = .ok d s2 →
      let c := sel &&& 0xFFFC
      let tests (types : List Nat) : List (Bool × Exc) :=
        [(descS d || decide (descType d ∉ types), Exc.gp c), (!descP d, Exc.np c)]
      (∀ e, checked (tests [2]) () s2 = .error (.exc e) s2 → exec (.lldt m) s = takeException e s s2) ∧
      (∀ e, checked (tests [1, 9]) () s2 = .error (.exc e) s2 → exec (.ltr m) s = takeException e s s2) ∧
      (∀ e s3, checked (tests [1, 9]) () s2 = .ok () s2 →
        sysWrite (s.gdtr.base + BitVec.ofNat 32 (selIndex sel * 8) + 5) 1 ((descAccess d ||| 2).setWidth 64) s2 =
          .error (.exc e) s3 → exec (.ltr m) s = takeException e s s3) ∧
      (descS d = false → descType d = 2 → descP d = true →
        exec (.lldt m) s =
          .next
            { s2 with
              ldtr := { selector := sel, base := descBase d, limit := descLimit d, null := false }
              cycles := s.cycles + 1 }) ∧
      (∀ s3, descS d = false → (descType d = 1 ∨ descType d = 9) → descP d = true →
        sysWrite (s.gdtr.base + BitVec.ofNat 32 (selIndex sel * 8) + 5) 1 ((descAccess d ||| 2).setWidth 64) s2 =
          .ok () s3 →
        exec (.ltr m) s =
          .next
            { s3 with
              tr := { selector := sel, base := descBase d, limit := descLimit d, is32 := decide (descType d = 9) }
              cycles := s.cycles + 1 })))

/-- IN and OUT complete when the access is allowed, which it is in real mode and whenever CPL is at most IOPL: IN writes what
the device answers, all ones from a port no device claims, to AL, AX or EAX only; OUT changes no register. Else the I/O
permission bitmap of a 32-bit TSS decides: a set bit of any port of the access, or a bit beyond TR.limit, denies with #GP(0), and
clear ones allow; a 16-bit TSS denies (spec/20_memory.md R113, R114, spec/47_system.md R370 to R373). What a device answers:
log 5; that the first port's claim decides for an access of 2 or 4 bytes: log 11. -/
def Obligations.PortForms : Prop :=
  (∀ (i : Instr) (inp : Bool) (sz : Size) (port : State → Half) (s s1 : State), portForm i = some (inp, sz, port) →
    checkPort (port s) sz.bytes s = .ok () s1 →
    (s.params.ports.contains (port s) = false →
      (inp = true → exec i s = .next { s1.putReg sz .eax 0xFFFFFFFF with cycles := s.cycles + 1 }) ∧
      (inp = false → exec i s = .next { s1 with cycles := s.cycles + 1 })) ∧
    (s.params.ports.contains (port s) = true →
      (inp = true →
        exec i s =
          .next
            { s1.putReg sz .eax (Config.ioRead s1.events (port s) sz.bytes) with
              events := .portRead (port s) sz.bytes :: s1.events, cycles := s.cycles + 1 }) ∧
      (inp = false →
        exec i s =
          .next
            { s1 with
              events := .portWrite (port s) sz.bytes (s.regs.view sz .eax) :: s1.events
              cycles := s.cycles + 1 }))) ∧
  (∀ (s : State) (port : Half) (n : Nat), (s.pe = false ∨ s.cpl.toNat ≤ s.flags.iopl.toNat) →
    checkPort port n s = .ok () s) ∧
  (∀ (i : Instr) (inp : Bool) (sz : Size) (port : State → Half) (s : State), portForm i = some (inp, sz, port) →
    s.pe = true → s.flags.iopl.toNat < s.cpl.toNat → s.tr.is32 = false → exec i s = takeException (Exc.gp 0) s s) ∧
  (∀ (i : Instr) (inp : Bool) (sz : Size) (port : State → Half) (e : Exc) (s s1 : State),
    portForm i = some (inp, sz, port) → checkPort (port s) sz.bytes s = .error (.exc e) s1 →
    exec i s = takeException e s s1) ∧
  (∀ (s : State) (port : Half) (n : Nat), s.pe = true → s.flags.iopl.toNat < s.cpl.toNat → s.tr.is32 = true →
    (∀ b s1, sysRead (s.tr.base + 0x66) 2 s = .ok b s1 →
      checkPort port n s = checkPorts (b.setWidth 32) port.toNat n s1) ∧
    (∀ x s1, sysRead (s.tr.base + 0x66) 2 s = .error x s1 → checkPort port n s = .error x s1)) ∧
  (∀ (s : State) (bitmap : Word) (q n : Nat),
    let off := bitmap.toNat + q / 8
    checkPorts bitmap q 0 s = .ok () s ∧
    (s.tr.limit.toNat < off → checkPorts bitmap q (n + 1) s = .error (.exc (Exc.gp 0)) s) ∧
    (off ≤ s.tr.limit.toNat →
      (∀ b s1, sysRead (s.tr.base + BitVec.ofNat 32 off) 1 s = .ok b s1 →
        checkPorts bitmap q (n + 1) s =
          if b.getLsbD (q % 8) then .error (.exc (Exc.gp 0)) s1 else checkPorts bitmap (q + 1) n s1) ∧
      (∀ x s1, sysRead (s.tr.base + BitVec.ofNat 32 off) 1 s = .error x s1 →
        checkPorts bitmap q (n + 1) s = .error x s1))) ∧
  (∀ (s : State) (port : Half) (n : Nat), s.pe = true → s.flags.iopl.toNat < s.cpl.toNat → s.tr.is32 = true →
    s.pg = false → s.params.providers = [] →
    let off (k : Nat) := (s.physRead (s.tr.base + 0x66) 2).1.toNat + (port.toNat + k) / 8
    let denied (k : Nat) : Prop := s.tr.limit.toNat < off k ∨
      (s.physRead (s.tr.base + BitVec.ofNat 32 (off k)) 1).1.getLsbD ((port.toNat + k) % 8) = true
    ((∃ k, k < n ∧ denied k) → checkPort port n s = .error (.exc (Exc.gp 0)) s) ∧
    ((∀ k, k < n → ¬denied k) → checkPort port n s = .ok () s))

/-- BOUND completes with nothing changed when the signed index lies within the two signed bounds, and else takes #BR
(spec/47_system.md R374). -/
def Obligations.BoundCheck : Prop :=
  ∀ (o : OSize) (r : Reg) (m : MemOp) (lo hi : Quad) (s s1 s2 : State),
    memRead (memSeg m) (memOff s.regs m) o.bytes s = .ok lo s1 →
    memRead (memSeg m) (memOff s.regs m + o.bytes) o.bytes s1 = .ok hi s2 →
    let i := signed o.size (s.regs.view o.size r)
    let l := signed o.size (lo.setWidth 32)
    let h := signed o.size (hi.setWidth 32)
    (l ≤ i → i ≤ h → exec (.bound o r m) s = .next { s2 with cycles := s.cycles + 1 }) ∧
    ((i < l ∨ h < i) → exec (.bound o r m) s = takeException Exc.br s s2)
end

