-- ==== Sys2Proof/Laws/Monad.lean ====
section
/-! SUPPORT. How operations compose: the equations of `M`, and the closure lemmas of two predicates on operations — what
they keep of the state, and what they may abort with. -/

namespace Sys2Proof.Machine

/-! ## Equations -/

@[simp] theorem M.pure_apply {α : Type} (a : α) (s : State) : (pure a : M α) s = .ok a s := rfl

theorem M.bind_apply {α β : Type} (m : M α) (f : α → M β) (s : State) :
    (m >>= f) s = match m s with | .ok a s' => f a s' | .error e s' => .error e s' := by
  show EStateM.bind m f s = _
  unfold EStateM.bind
  cases m s <;> rfl

theorem M.bind_ok {α β : Type} {m : M α} {f : α → M β} {s s' : State} {a : α} (h : m s = .ok a s') :
    (m >>= f) s = f a s' := by rw [M.bind_apply, h]

theorem M.bind_error {α β : Type} {m : M α} {f : α → M β} {s s' : State} {e : Abort} (h : m s = .error e s') :
    (m >>= f) s = .error e s' := by rw [M.bind_apply, h]

@[simp] theorem getS_bind {β : Type} (f : State → M β) (s : State) : (getS >>= f) s = f s s := rfl

@[simp] theorem getS_apply (s : State) : getS s = .ok s s := rfl

@[simp] theorem modS_apply (g : State → State) (s : State) : modS g s = .ok () (g s) := rfl

@[simp] theorem modS_bind {β : Type} (g : State → State) (f : Unit → M β) (s : State) :
    (modS g >>= f) s = f () (g s) := rfl

@[simp] theorem pure_bind_apply {α β : Type} (a : α) (f : α → M β) (s : State) : ((pure a : M α) >>= f) s = f a s := rfl

@[simp] theorem raise_apply {α : Type} (e : Exc) (s : State) : (raise e : M α) s = .error (.exc e) s := rfl

@[simp] theorem refuse_apply {α : Type} (r : Refusal) (s : State) : (refuse r : M α) s = .error (.stop r) s := rfl

@[simp] theorem raise_bind {α β : Type} (e : Exc) (f : α → M β) (s : State) :
    ((raise e : M α) >>= f) s = .error (.exc e) s := rfl

theorem raiseIf_apply (c : Prop) [Decidable c] (e : Exc) (s : State) :
    raiseIf c e s = if c then .error (.exc e) s else .ok () s := by
  unfold raiseIf
  split <;> rfl

theorem whenM_apply (c : Prop) [Decidable c] (m : M Unit) (s : State) :
    whenM c m s = if c then m s else .ok () s := by
  unfold whenM
  split <;> rfl

theorem raiseIf_false {c : Prop} [Decidable c] {e : Exc} {s : State} (h : ¬c) : raiseIf c e s = .ok () s := by
  rw [raiseIf_apply, if_neg h]

theorem raiseIf_true {c : Prop} [Decidable c] {e : Exc} {s : State} (h : c) : raiseIf c e s = .error (.exc e) s := by
  rw [raiseIf_apply, if_pos h]

theorem raiseIf_bind {β : Type} (c : Prop) [Decidable c] (e : Exc) (f : Unit → M β) (s : State) :
    (raiseIf c e >>= f) s = if c then .error (.exc e) s else f () s := by
  rw [M.bind_apply, raiseIf_apply]
  by_cases h : c <;> simp [h]

@[simp] theorem drawWord_apply (s : State) : drawWord s = .ok (Config.draw s.draws) { s with draws := s.draws + 1 } := rfl

@[simp] theorem readReg_apply (sz : Size) (r : Reg) (s : State) : readReg sz r s = .ok (s.regs.view sz r) s := rfl

@[simp] theorem readReg8_apply (r : Reg8) (s : State) : readReg8 r s = .ok (s.regs.get8 r) s := rfl

@[simp] theorem writeReg_apply (sz : Size) (r : Reg) (v : Word) (s : State) :
    writeReg sz r v s = .ok () (s.putReg sz r v) := rfl

@[simp] theorem writeReg8_apply (r : Reg8) (v : Word) (s : State) : writeReg8 r v s = .ok () (s.putReg8 r v) := rfl

@[simp] theorem writeEip_apply (v : Word) (s : State) : writeEip v s = .ok () (s.withEip v) := rfl

/-! ## What an operation keeps -/

/-- Whatever the operation answers, the state it leaves relates to the state it started from by R. -/
def Keeps {α : Type} (R : State → State → Prop) (m : M α) : Prop :=
  ∀ s, match m s with | .ok _ s' => R s s' | .error _ s' => R s s'

/-- A relation that steps can be chained along. -/
structure Chain (R : State → State → Prop) : Prop where
  refl : ∀ s, R s s
  trans : ∀ s t u, R s t → R t u → R s u

theorem Keeps.ok {α : Type} {R : State → State → Prop} {m : M α} (h : Keeps R m) {s s' : State} {a : α}
    (e : m s = .ok a s') : R s s' := by
  have := h s
  rw [e] at this
  exact this

theorem Keeps.error {α : Type} {R : State → State → Prop} {m : M α} (h : Keeps R m) {s s' : State} {x : Abort}
    (e : m s = .error x s') : R s s' := by
  have := h s
  rw [e] at this
  exact this

theorem Keeps.pure {α : Type} {R : State → State → Prop} (hR : Chain R) (a : α) : Keeps R (pure a : M α) :=
  fun s => hR.refl s

theorem Keeps.bind {α β : Type} {R : State → State → Prop} (hR : Chain R) {m : M α} {f : α → M β} (hm : Keeps R m)
    (hf : ∀ a, Keeps R (f a)) : Keeps R (m >>= f) := by
  intro s
  rw [M.bind_apply]
  cases h : m s with
  | error e s' => exact hm.error h
  | ok a s' =>
    have h1 := hm.ok h
    cases h2 : f a s' with
    | ok b s2 => simpa [h2] using hR.trans _ _ _ h1 ((hf a).ok h2)
    | error e s2 => simpa [h2] using hR.trans _ _ _ h1 ((hf a).error h2)

theorem Keeps.getS {R : State → State → Prop} (hR : Chain R) : Keeps R getS := fun s => hR.refl s

theorem Keeps.modS {R : State → State → Prop} {g : State → State} (h : ∀ s, R s (g s)) : Keeps R (modS g) := h

theorem Keeps.raise {α : Type} {R : State → State → Prop} (hR : Chain R) (e : Exc) : Keeps R (raise e : M α) :=
  fun s => hR.refl s

theorem Keeps.refuse {α : Type} {R : State → State → Prop} (hR : Chain R) (r : Refusal) : Keeps R (refuse r : M α) :=
  fun s => hR.refl s

theorem Keeps.ite {α : Type} {R : State → State → Prop} {c : Prop} [Decidable c] {m n : M α} (hm : Keeps R m)
    (hn : Keeps R n) : Keeps R (if c then m else n) := by
  split <;> assumption

theorem Keeps.raiseIf {R : State → State → Prop} (hR : Chain R) (c : Prop) [Decidable c] (e : Exc) :
    Keeps R (raiseIf c e) := by
  unfold Machine.raiseIf
  exact Keeps.ite (Keeps.raise hR e) (Keeps.pure hR ())

theorem Keeps.whenM {R : State → State → Prop} (hR : Chain R) (c : Prop) [Decidable c] {m : M Unit} (hm : Keeps R m) :
    Keeps R (whenM c m) := by
  unfold Machine.whenM
  exact Keeps.ite hm (Keeps.pure hR ())

/-- A change kept by a finer relation is kept by a coarser one. -/
theorem Keeps.mono {α : Type} {R Q : State → State → Prop} (h : ∀ s t, R s t → Q s t) {m : M α} (hm : Keeps R m) :
    Keeps Q m := by
  intro s
  have := hm s
  cases e : m s <;> rw [e] at this <;> exact h _ _ this

/-! ## What an operation may abort with -/

/-- Whatever the operation aborts with satisfies P. -/
def Raises {α : Type} (P : Abort → Prop) (m : M α) : Prop := ∀ s x s', m s = .error x s' → P x

theorem Raises.pure {α : Type} {P : Abort → Prop} (a : α) : Raises P (pure a : M α) := by
  intro s x s' h
  cases h

theorem Raises.bind {α β : Type} {P : Abort → Prop} {m : M α} {f : α → M β} (hm : Raises P m) (hf : ∀ a, Raises P (f a)) :
    Raises P (m >>= f) := by
  intro s x s' h
  rw [M.bind_apply] at h
  cases h1 : m s with
  | error e s1 =>
    rw [h1] at h
    cases h
    exact hm _ _ _ h1
  | ok a s1 =>
    rw [h1] at h
    exact hf a _ _ _ h

theorem Raises.getS {P : Abort → Prop} : Raises P getS := by
  intro s x s' h
  cases h

theorem Raises.modS {P : Abort → Prop} (g : State → State) : Raises P (modS g) := by
  intro s x s' h
  cases h

theorem Raises.raise {α : Type} {P : Abort → Prop} {e : Exc} (h : P (.exc e)) : Raises P (raise e : M α) := by
  intro s x s' hx
  cases hx
  exact h

theorem Raises.refuse {α : Type} {P : Abort → Prop} {r : Refusal} (h : P (.stop r)) : Raises P (refuse r : M α) := by
  intro s x s' hx
  cases hx
  exact h

theorem Raises.ite {α : Type} {P : Abort → Prop} {c : Prop} [Decidable c] {m n : M α} (hm : Raises P m) (hn : Raises P n) :
    Raises P (if c then m else n) := by
  split <;> assumption

theorem Raises.raiseIf {P : Abort → Prop} {c : Prop} [Decidable c] {e : Exc} (h : P (.exc e)) : Raises P (raiseIf c e) := by
  unfold Machine.raiseIf
  exact Raises.ite (Raises.raise h) (Raises.pure ())

theorem Raises.whenM {P : Abort → Prop} {c : Prop} [Decidable c] {m : M Unit} (hm : Raises P m) : Raises P (whenM c m) := by
  unfold Machine.whenM
  exact Raises.ite hm (Raises.pure ())

theorem Raises.mono {α : Type} {P Q : Abort → Prop} (h : ∀ x, P x → Q x) {m : M α} (hm : Raises P m) : Raises Q m :=
  fun s x s' e => h x (hm s x s' e)

end Sys2Proof.Machine
end

