-- ==== Sys2Proof/Laws/Access.lean ====
section
/-! SUPPORT. What an access leaves where it succeeds: memory and what devices have seen may differ, nothing else. -/

namespace Sys2Proof.Machine

theorem sameButMemory_refl (s : State) : s.sameButMemory s := rfl

theorem sameButMemory_trans {s t u : State} (h : s.sameButMemory t) (k : t.sameButMemory u) : s.sameButMemory u := by
  unfold State.sameButMemory at *
  rw [k, h]

/-- An operation that, where it succeeds, changes nothing but memory and what devices have seen. -/
def Quiet {α : Type} (m : M α) : Prop := ∀ s a s', m s = .ok a s' → s.sameButMemory s'

theorem Quiet.pure {α : Type} (a : α) : Quiet (pure a : M α) := by
  intro s b s' h
  cases h
  rfl

theorem Quiet.getS : Quiet getS := by
  intro s b s' h
  cases h
  rfl

theorem Quiet.raise {α : Type} (e : Exc) : Quiet (raise e : M α) := by
  intro s b s' h
  cases h

theorem Quiet.bind {α β : Type} {m : M α} {f : α → M β} (hm : Quiet m) (hf : ∀ a, Quiet (f a)) : Quiet (m >>= f) := by
  intro s b s' h
  rw [M.bind_apply] at h
  cases h1 : m s with
  | error e s1 => rw [h1] at h; cases h
  | ok a s1 =>
    rw [h1] at h
    exact sameButMemory_trans (hm _ _ _ h1) (hf a _ _ _ h)

theorem Quiet.ite {α : Type} {c : Prop} [Decidable c] {m n : M α} (hm : Quiet m) (hn : Quiet n) :
    Quiet (if c then m else n) := by
  split <;> assumption

theorem Quiet.raiseIf (c : Prop) [Decidable c] (e : Exc) : Quiet (raiseIf c e) := by
  unfold Machine.raiseIf
  exact Quiet.ite (Quiet.raise e) (Quiet.pure ())

theorem Quiet.whenM (c : Prop) [Decidable c] {m : M Unit} (hm : Quiet m) : Quiet (whenM c m) := by
  unfold Machine.whenM
  exact Quiet.ite hm (Quiet.pure ())

theorem sameButMemory_dispatchRead (s : State) (p : Word) (n : Nat) : s.sameButMemory (s.dispatchRead p n).2 := by
  unfold State.dispatchRead
  dsimp only
  split <;> rfl

theorem sameButMemory_physReadEach (s : State) (a n : Nat) : s.sameButMemory (s.physReadEach a n).2 := by
  induction n generalizing s a with
  | zero => rfl
  | succ n ih =>
    refine sameButMemory_trans ?_ (ih _ _)
    split
    · exact sameButMemory_dispatchRead s _ 1
    · rfl

theorem sameButMemory_physRead (s : State) (p : Word) (n : Nat) : s.sameButMemory (s.physRead p n).2 := by
  unfold State.physRead
  split
  · exact sameButMemory_physReadEach s _ n
  · exact sameButMemory_dispatchRead s p n

theorem sameButMemory_dispatchWrite (s : State) (p : Word) (n : Nat) (v : Quad) :
    s.sameButMemory (s.dispatchWrite p n v) := by
  unfold State.dispatchWrite
  dsimp only
  split
  · rfl
  · split <;> rfl

theorem sameButMemory_physWriteEach (s : State) (a n : Nat) (v : Quad) : s.sameButMemory (s.physWriteEach a n v) := by
  induction n generalizing s a v with
  | zero => rfl
  | succ n ih =>
    refine sameButMemory_trans ?_ (ih _ _ _)
    split
    · exact sameButMemory_dispatchWrite s _ 1 v
    · rfl

theorem sameButMemory_physWrite (s : State) (p : Word) (n : Nat) (v : Quad) : s.sameButMemory (s.physWrite p n v) := by
  unfold State.physWrite
  split
  · exact sameButMemory_physWriteEach s _ n v
  · exact sameButMemory_dispatchWrite s p n v

theorem sameButMemory_writeEach (s : State) (ps : List Word) (v : Quad) : s.sameButMemory (s.writeEach ps v) := by
  induction ps generalizing s v with
  | nil => rfl
  | cons p ps ih => exact sameButMemory_trans (sameButMemory_physWrite s p 1 _) (ih _ _)

theorem quiet_physRead (p : Word) (n : Nat) : Quiet (physRead p n) := by
  intro s b s' h
  cases h
  exact sameButMemory_physRead s p n

theorem quiet_physWrite (p : Word) (n : Nat) (v : Quad) : Quiet (physWrite p n v) := by
  intro s b s' h
  cases h
  exact sameButMemory_physWrite s p n v

theorem quiet_pageFault {α : Type} (l : Word) (a : Acc) (b : Bool) : Quiet (pageFault l a b : M α) := by
  intro s x s' h
  cases h

theorem quiet_translate (l : Word) (a : Acc) : Quiet (translate l a) := by
  refine Quiet.bind Quiet.getS fun _ => Quiet.ite ?_ (Quiet.pure l)
  refine Quiet.bind Quiet.getS fun _ => Quiet.bind (quiet_physRead _ _) fun pde => ?_
  refine Quiet.ite (quiet_pageFault _ _ _) (Quiet.bind (quiet_physRead _ _) fun pte => ?_)
  refine Quiet.ite (quiet_pageFault _ _ _) (Quiet.ite (quiet_pageFault _ _ _) ?_)
  exact Quiet.bind (Quiet.whenM _ (quiet_physWrite _ _ _)) fun _ =>
    Quiet.bind (Quiet.whenM _ (quiet_physWrite _ _ _)) fun _ => Quiet.pure _

theorem quiet_linReadBytes (l : Word) (a : Acc) (n : Nat) : Quiet (linReadBytes l a n) := by
  induction n generalizing l with
  | zero => exact Quiet.pure _
  | succ n ih =>
    exact Quiet.bind (quiet_translate _ _) fun p => Quiet.bind (quiet_physRead _ _) fun lo => Quiet.bind (ih _) fun _ =>
      Quiet.pure _

theorem quiet_linRead (l : Word) (n : Nat) (a : Acc) : Quiet (linRead l n a) :=
  Quiet.bind Quiet.getS fun _ => Quiet.ite (quiet_linReadBytes _ _ _)
    (Quiet.bind (quiet_translate _ _) fun _ => quiet_physRead _ _)

theorem quiet_linWriteBytes (l : Word) (a : Acc) (n : Nat) (v : Quad) : Quiet (linWriteBytes l a n v) := by
  induction n generalizing l v with
  | zero => exact Quiet.pure _
  | succ n ih =>
    exact Quiet.bind (quiet_translate _ _) fun p => Quiet.bind (quiet_physWrite _ _ _) fun lo => ih _ _

theorem quiet_translateBytes (l : Word) (a : Acc) (n : Nat) : Quiet (translateBytes l a n) := by
  induction n generalizing l with
  | zero => exact Quiet.pure _
  | succ n ih => exact Quiet.bind (quiet_translate _ _) fun p => Quiet.bind (ih _) fun _ => Quiet.pure _

theorem quiet_linPlace (l : Word) (n : Nat) (a : Acc) : Quiet (linPlace l n a) :=
  Quiet.bind Quiet.getS fun _ => Quiet.ite (Quiet.bind (quiet_translateBytes _ _ _) fun _ => Quiet.pure _)
    (Quiet.bind (quiet_translate _ _) fun _ => Quiet.pure _)

theorem quiet_linWrite (l : Word) (n : Nat) (v : Quad) (a : Acc) : Quiet (linWrite l n v a) := by
  refine Quiet.bind Quiet.getS fun _ => Quiet.ite ?_ (Quiet.bind (quiet_translate _ _) fun _ => quiet_physWrite _ _ _)
  split
  · exact quiet_linWriteBytes _ _ _ _
  · refine Quiet.bind (quiet_translateBytes _ _ _) fun ps => ?_
    intro s b s' h
    cases h
    exact sameButMemory_writeEach s ps v

theorem quiet_segCheck (c : SegCache) (isCs : Bool) (off n : Nat) (k : AccKind) : Quiet (segCheck c isCs off n k) :=
  Quiet.bind Quiet.getS fun _ => Quiet.raiseIf _ _

theorem quiet_memRead (g : SReg) (off n : Nat) : Quiet (memRead g off n) :=
  Quiet.bind Quiet.getS fun _ => Quiet.bind (quiet_segCheck _ _ _ _ _) fun _ => quiet_linRead _ _ _

theorem quiet_memWrite (g : SReg) (off n : Nat) (v : Quad) : Quiet (memWrite g off n v) :=
  Quiet.bind Quiet.getS fun _ => Quiet.bind (quiet_segCheck _ _ _ _ _) fun _ => quiet_linWrite _ _ _ _

theorem quiet_memOpen (g : SReg) (off n : Nat) : Quiet (memOpen g off n) :=
  Quiet.bind Quiet.getS fun _ => Quiet.bind (quiet_segCheck _ _ _ _ _) fun _ => quiet_linPlace _ _ _

theorem quiet_readLoc (sz : Size) (l : Loc) : Quiet (readLoc sz l) := by
  cases l with
  | reg8 r => intro s b s' h; cases h; rfl
  | reg r => intro s b s' h; cases h; rfl
  | mem g off => exact Quiet.bind (quiet_memRead _ _ _) fun _ => Quiet.pure _

theorem quiet_readSrc (sz : Size) (x : Source) : Quiet (readSrc sz x) := by
  cases x with
  | loc l => exact quiet_readLoc sz l
  | imm v => exact Quiet.pure v

theorem quiet_openLoc (sz : Size) (l : Loc) : Quiet (openLoc sz l) := by
  cases l with
  | reg8 r => exact Quiet.pure _
  | reg r => exact Quiet.pure _
  | mem g off => exact Quiet.bind (quiet_memOpen _ _ _) fun _ => Quiet.pure _

theorem quiet_peek (o : OSize) (k : Nat) : Quiet (peek o k) :=
  Quiet.bind Quiet.getS fun _ => Quiet.bind (quiet_memRead _ _ _) fun _ => Quiet.pure _

theorem quiet_stage (o : OSize) (k : Nat) (vs : List Word) : Quiet (stage o k vs) := by
  induction vs generalizing k with
  | nil => exact Quiet.pure ()
  | cons v vs ih => exact Quiet.bind Quiet.getS fun _ => Quiet.bind (quiet_memWrite _ _ _ _) fun _ => ih _

theorem quiet_segCheckAs (e : Exc) (c : SegCache) (isCs : Bool) (off n : Nat) (k : AccKind) :
    Quiet (segCheckAs e c isCs off n k) := Quiet.bind Quiet.getS fun _ => Quiet.raiseIf _ _

theorem quiet_stageVia (e : Exc) (c : SegCache) (cpl : BitVec 2) (nesp : Word) (o : OSize) (k : Nat) (vs : List Word) :
    Quiet (stageVia e c cpl nesp o k vs) := by
  induction vs generalizing k with
  | nil => exact Quiet.pure ()
  | cons v vs ih =>
    refine Quiet.bind ?_ fun _ => ih _
    exact Quiet.bind (quiet_segCheckAs _ _ _ _ _ _) fun _ => quiet_linWrite _ _ _ _

theorem quiet_descRead (sel : Half) (e : Byte) : Quiet (descRead sel e) :=
  Quiet.bind Quiet.getS fun _ => Quiet.bind (Quiet.raiseIf _ _) fun _ => quiet_linRead _ _ _

theorem sameButMemory_readOpened (s : State) (sz : Size) (p : Opened) : s.sameButMemory (s.readOpened sz p).2 := by
  cases p with
  | reg8 r => rfl
  | reg r => rfl
  | mem pl =>
    cases pl with
    | run p => exact sameButMemory_physRead s p sz.bytes
    | bytes ps =>
      show s.sameButMemory (s.readEach ps).2
      induction ps generalizing s with
      | nil => rfl
      | cons p ps ih => exact sameButMemory_trans (sameButMemory_physRead s p 1) (ih _)

end Sys2Proof.Machine
end

