-- ==== Sys2Proof/Laws/Forms.lean ====
section
/-! SUPPORT. Which shared operation runs each instruction of a family of forms. -/

namespace Sys2Proof.Machine

theorem exec_binForm {i : Instr} {f : BinForm} (s : State) (h : binForm i = some f) :
    exec i s = run (binary f.op f.size (f.dst s) (f.src s)) s := by
  cases i <;> cases h <;> rfl

theorem exec_unForm {i : Instr} {op : UnOp} {sz : Size} {dst : State → Loc} (s : State)
    (h : unForm i = some (op, sz, dst)) : exec i s = run (unary op sz (dst s)) s := by
  cases i <;> cases h <;> rfl

theorem exec_shiftForm {i : Instr} {op : ShiftOp} {sz : Size} {dst : State → Loc} {count : State → Word} (s : State)
    (h : shiftForm i = some (op, sz, dst, count)) :
    ∃ src, exec i s = run (shiftLoc op sz (dst s) src) s ∧ readSrc .b src s = .ok (count s) s := by
  cases i <;> cases h <;> exact ⟨_, rfl, rfl⟩

theorem exec_mulForm {i : Instr} {sgn : Bool} {sz : Size} {src : State → Loc} (s : State)
    (h : mulForm i = some (sgn, sz, src)) :
    exec i s = run (if sgn then mulSigned sz (src s) else mulUnsigned sz (src s)) s := by
  cases i <;> cases h <;> rfl

theorem exec_divForm {i : Instr} {sgn : Bool} {sz : Size} {src : State → Loc} (s : State)
    (h : divForm i = some (sgn, sz, src)) :
    exec i s = run (if sgn then divSigned sz (src s) else divUnsigned sz (src s)) s := by
  cases i <;> cases h <;> rfl

theorem exec_moveForm {i : Instr} {sz : Size} {dst : State → Loc} {src : State → Source} (s : State)
    (h : moveForm i = some (sz, dst, src)) : exec i s = run (move sz (dst s) (src s)) s := by
  cases i <;> cases h <;> first | rfl | (rename_i g _; cases g <;> rfl)

/-- What the pushes of one value run, each with the value it reads first. -/
theorem exec_pushForm {i : Instr} {o : OSize} {val : State → Word} (s : State) (h : pushForm i = some (o, val)) :
    ∃ m, exec i s = run m s ∧ m s = push o (val s) s := by
  cases i <;> cases h
  · exact ⟨_, rfl, by rw [pushReg, M.bind_ok (readReg_apply _ _ s)]⟩
  · exact ⟨_, rfl, rfl⟩
  · exact ⟨_, rfl, rfl⟩
  · exact ⟨_, rfl, by rw [pushFlags, getS_bind]; rfl⟩

theorem exec_pushSegForm {i : Instr} {o : OSize} {g : SReg} (s : State) (h : pushSegForm i = some (o, g)) :
    exec i s = run (pushSeg o g) s := by
  cases i <;> cases h <;> rfl

theorem exec_popSegForm {i : Instr} {o : OSize} {g : SReg} (s : State) (h : popSegForm i = some (o, g)) :
    exec i s = run (popSeg o g) s := by
  cases i <;> cases h <;> rfl

theorem exec_jccForm {i : Instr} {cc : BitVec 4} {o : OSize} {rel : Word} (s : State)
    (h : jccForm i = some (cc, o, rel)) : exec i s = run (jumpIf cc o rel) s := by
  cases i <;> cases h <;> rfl

theorem exec_jmpForm {i : Instr} {o : OSize} {rel : Word} (s : State) (h : jmpForm i = some (o, rel)) :
    exec i s = run (jumpRel o rel) s := by
  cases i <;> cases h <;> rfl

theorem exec_portForm {i : Instr} {inp : Bool} {sz : Size} {port : State → Half} (s : State)
    (h : portForm i = some (inp, sz, port)) :
    exec i s = run (if inp then portIn sz (port s) else portOut sz (port s)) s := by
  cases i <;> cases h <;> rfl

end Sys2Proof.Machine
end

