-- ==== Sys2Proof/Laws/Memory.lean ====
section
/-! SUPPORT. The laws of memory: reading what was written, the canonical form, and what an access can change. -/

namespace Sys2Proof.Machine

/-! ## Read after write, and the canonical form -/

theorem Memory.wfFrom_mono {m : Memory} {a b : Nat} (hab : a ≤ b) (h : Memory.wfFrom b m = true) :
    Memory.wfFrom a m = true := by
  cases m with
  | nil => rfl
  | cons c cs =>
    simp only [Memory.wfFrom, Bool.and_eq_true, decide_eq_true_eq] at h ⊢
    exact ⟨⟨by omega, h.1.2⟩, h.2⟩

/-- Below the first listed address everything reads 0. -/
theorem Memory.read_below {m : Memory} {a b : Nat} (h : Memory.wfFrom b m = true) (hab : a < b) : Memory.read m a = 0 := by
  induction m generalizing b with
  | nil => rfl
  | cons c cs ih =>
    simp only [Memory.wfFrom, Bool.and_eq_true, decide_eq_true_eq] at h
    rw [Memory.read, if_neg (by omega)]
    exact ih h.2 (by omega)

theorem Memory.wfFrom_write {m : Memory} {a b : Nat} {v : Byte} (hba : b ≤ a) (h : Memory.wfFrom b m = true) :
    Memory.wfFrom b (Memory.write m a v) = true := by
  induction m generalizing b with
  | nil =>
    simp only [Memory.write]
    split
    · rfl
    · simp_all [Memory.wfFrom]
  | cons c cs ih =>
    have h0 := h
    simp only [Memory.wfFrom, Bool.and_eq_true, decide_eq_true_eq] at h
    simp only [Memory.write]
    split
    · split
      · exact h0
      · simp only [Memory.wfFrom, Bool.and_eq_true, decide_eq_true_eq]
        exact ⟨⟨hba, by simp_all⟩, ⟨by omega, h.1.2⟩, h.2⟩
    · split
      · split
        · exact Memory.wfFrom_mono (by omega) h.2
        · simp only [Memory.wfFrom, Bool.and_eq_true, decide_eq_true_eq]
          rename_i h2 _
          subst h2
          exact ⟨⟨hba, by simp_all⟩, h.2⟩
      · simp only [Memory.wfFrom, Bool.and_eq_true, decide_eq_true_eq]
        exact ⟨h.1, ih (by omega) h.2⟩

/-- A write keeps the canonical form. -/
theorem Memory.wf_write {m : Memory} (a : Nat) (v : Byte) (h : Memory.wf m = true) : Memory.wf (Memory.write m a v) = true :=
  Memory.wfFrom_write (Nat.zero_le a) h

/-- A read after a write to the same address gives the value written. -/
theorem Memory.read_write_same {m : Memory} {b : Nat} (a : Nat) (v : Byte) (h : Memory.wfFrom b m = true) :
    Memory.read (Memory.write m a v) a = v := by
  induction m generalizing b with
  | nil =>
    simp only [Memory.write]
    split
    · simp_all [Memory.read]
    · simp [Memory.read]
  | cons c cs ih =>
    simp only [Memory.wfFrom, Bool.and_eq_true, decide_eq_true_eq] at h
    simp only [Memory.write]
    split
    · split
      · rename_i h1 h2
        subst h2
        rw [Memory.read, if_neg (by omega)]
        exact Memory.read_below h.2 (by omega)
      · simp [Memory.read]
    · split
      · split
        · rename_i h1 h2 h3
          subst h3
          exact Memory.read_below h.2 (by omega)
        · simp [Memory.read]
      · rename_i h1 h2
        rw [Memory.read, if_neg (by omega)]
        exact ih h.2

/-- A write leaves every other address alone. -/
theorem Memory.read_write_other {m : Memory} {b : Nat} (a a' : Nat) (v : Byte) (hne : a' ≠ a)
    (h : Memory.wfFrom b m = true) : Memory.read (Memory.write m a v) a' = Memory.read m a' := by
  induction m generalizing b with
  | nil =>
    simp only [Memory.write]
    split
    · rfl
    · simp [Memory.read, Ne.symm hne]
  | cons c cs ih =>
    have h0 := h
    simp only [Memory.wfFrom, Bool.and_eq_true, decide_eq_true_eq] at h
    simp only [Memory.write]
    split
    · split
      · rfl
      · simp [Memory.read, Ne.symm hne]
    · split
      · split
        · rename_i h1 h2 h3
          rw [Memory.read, if_neg (by omega)]
        · rename_i h1 h2 h3
          simp [Memory.read, Ne.symm hne, h2]
      · simp only [Memory.read]
        split
        · rfl
        · exact ih h.2

theorem Memory.below_write {m : Memory} {n : Nat} (a : Nat) (v : Byte) (han : a < n) (h : Memory.below m n = true) :
    Memory.below (Memory.write m a v) n = true := by
  induction m with
  | nil =>
    simp only [Memory.write]
    split
    · rfl
    · simp [Memory.below, han]
  | cons c cs ih =>
    simp only [Memory.below, List.all_cons, Bool.and_eq_true, decide_eq_true_eq] at h ih
    simp only [Memory.write]
    split
    · split <;> simp [Memory.below, han, h.1] <;> simpa using h.2
    · split
      · split <;> simp [Memory.below, han] <;> simpa using h.2
      · simp only [Memory.below, List.all_cons, Bool.and_eq_true, decide_eq_true_eq]
        exact ⟨h.1, ih h.2⟩

/-! ## Several bytes -/

theorem Memory.wf_writeBytes {m : Memory} (a n : Nat) (v : Quad) (h : Memory.wf m = true) :
    Memory.wf (m.writeBytes a n v) = true := by
  induction n generalizing m a v with
  | zero => exact h
  | succ n ih => exact ih _ _ (Memory.wf_write a _ h)

theorem Memory.below_writeBytes {m : Memory} {N : Nat} (a n : Nat) (v : Quad) (han : a + n ≤ N)
    (h : Memory.below m N = true) : Memory.below (m.writeBytes a n v) N = true := by
  induction n generalizing m a v with
  | zero => exact h
  | succ n ih => exact ih _ _ (by omega) (Memory.below_write a _ (by omega) h)

/-- A store of several bytes leaves every other address alone. -/
theorem Memory.read_writeBytes_other {m : Memory} (a n a' : Nat) (v : Quad) (hne : ∀ i, i < n → a' ≠ a + i)
    (h : Memory.wf m = true) : (m.writeBytes a n v).read a' = m.read a' := by
  induction n generalizing m a v with
  | zero => rfl
  | succ n ih =>
    rw [Memory.writeBytes, ih _ _ (fun i hi => by have := hne (i + 1) (by omega); omega) (Memory.wf_write a _ h)]
    exact Memory.read_write_other _ _ _ (by simpa using hne 0 (by omega)) h

/-- Byte i of a store of several bytes is byte i of the value. -/
theorem Memory.read_writeBytes_same {m : Memory} (a n i : Nat) (v : Quad) (hi : i < n) (h : Memory.wf m = true) :
    (m.writeBytes a n v).read (a + i) = (v >>> (8 * i)).setWidth 8 := by
  induction n generalizing m a v i with
  | zero => omega
  | succ n ih =>
    rw [Memory.writeBytes]
    cases i with
    | zero =>
      rw [Memory.read_writeBytes_other _ _ _ _ (fun j hj => by omega) (Memory.wf_write a _ h)]
      exact Memory.read_write_same _ _ h
    | succ i =>
      have := ih (a + 1) i (v >>> 8) (by omega) (Memory.wf_write a (v.setWidth 8) h)
      rw [show a + (i + 1) = a + 1 + i by omega, this, ← BitVec.shiftRight_add, show 8 + 8 * i = 8 * (i + 1) by omega]

/-! ## What an access can change -/

/-- An access changes nothing but memory, CR2 and what devices have seen, and keeps memory canonical and inside RAM. -/
structure MemStep (s s' : State) : Prop where
  same : s' = { s with mem := s'.mem, cr2 := s'.cr2, events := s'.events }
  wf : s.mem.wf = true → s'.mem.wf = true
  below : s.mem.below s.params.ramSize = true → s'.mem.below s.params.ramSize = true

theorem MemStep.refl (s : State) : MemStep s s := ⟨rfl, id, id⟩

theorem MemStep.params {s s' : State} (h : MemStep s s') : s'.params = s.params := by rw [h.same]

theorem MemStep.trans {s t u : State} (h : MemStep s t) (k : MemStep t u) : MemStep s u where
  same := by
    rw [k.same, h.same]
  wf := fun x => k.wf (h.wf x)
  below := fun x => by
    have := k.below
    rw [h.params] at this
    exact this (h.below x)

theorem MemStep.chain : Chain MemStep := ⟨MemStep.refl, fun _ _ _ => MemStep.trans⟩

theorem memStep_log (s : State) (e : DevEvent) : MemStep s (s.log e) := ⟨rfl, id, id⟩

/-- An access made as one whole that lands in RAM lies in RAM (R71, R74). -/
theorem splits_ram {s : State} {a n : Nat} (h : s.splits a n = false) (hp : s.provider a = none) (ha : a < s.params.ramSize) :
    a + n ≤ s.params.ramSize := by
  have hn : ¬1 < n := by simpa [State.splits, State.inOneBlock, hp] using h
  omega

/-- A one-byte access is never made as several. -/
theorem splits_one (s : State) (a : Nat) : s.splits a 1 = false := rfl

/-- Byte by byte in RAM at rising masked addresses is the whole, little-endian (R71, R73, R74). -/
theorem physReadEach_ram {s : State} {q a n : Nat}
    (h : ∀ i, i < n → q + i < 2 ^ 32 ∧ (s.maskA20 (BitVec.ofNat 32 (q + i))).toNat = a + i ∧ s.provider (a + i) = none ∧
      a + i < s.params.ramSize) :
    s.physReadEach q n = (s.mem.readBytes a n, s) := by
  induction n generalizing q a with
  | zero => rfl
  | succ n ih =>
    obtain ⟨h1, h2, h3, h4⟩ := h 0 (by omega)
    simp only [Nat.add_zero] at h1 h2 h3 h4
    have hd : s.dispatchRead (BitVec.ofNat 32 q) 1 = ((s.mem.read a).setWidth 64, s) := by
      simp [State.dispatchRead, h2, h3, h4, Memory.readBytes]
    have hs := ih (q := q + 1) (a := a + 1) fun i hi => by
      simpa [Nat.add_assoc, Nat.add_comm 1 i] using h (i + 1) (by omega)
    rw [State.physReadEach, if_pos h1, hd]
    simp only [hs, Memory.readBytes]

theorem physWriteEach_ram {s : State} {q a n : Nat} (v : Quad)
    (h : ∀ i, i < n → q + i < 2 ^ 32 ∧ (s.maskA20 (BitVec.ofNat 32 (q + i))).toNat = a + i ∧ s.provider (a + i) = none ∧
      a + i < s.params.ramSize) :
    s.physWriteEach q n v = s.withMem (s.mem.writeBytes a n v) := by
  induction n generalizing s q a v with
  | zero => rfl
  | succ n ih =>
    obtain ⟨h1, h2, h3, h4⟩ := h 0 (by omega)
    simp only [Nat.add_zero] at h1 h2 h3 h4
    have hd : s.dispatchWrite (BitVec.ofNat 32 q) 1 v = s.withMem (s.mem.write a (v.setWidth 8)) := by
      simp [State.dispatchWrite, h2, h3, h4, Memory.writeBytes]
    have hs := ih (s := s.withMem (s.mem.write a (v.setWidth 8))) (q := q + 1) (a := a + 1) (v >>> 8) fun i hi => by
      rw [Nat.add_right_comm q 1 i, Nat.add_right_comm a 1 i]
      exact h (i + 1) (by omega)
    rw [State.physWriteEach, if_pos h1, hd, hs]
    rfl

/-- PhysRead of plain RAM whose masked addresses rise from a on (R71, R73, R74). -/
theorem physRead_ram {s : State} {p : Word} {a n : Nat} (hn : 1 ≤ n)
    (h : ∀ i, i < n → p.toNat + i < 2 ^ 32 ∧ (s.maskA20 (BitVec.ofNat 32 (p.toNat + i))).toNat = a + i ∧
      s.provider (a + i) = none ∧ a + i < s.params.ramSize) :
    s.physRead p n = (s.mem.readBytes a n, s) := by
  have h0 := h 0 (by omega)
  simp only [Nat.add_zero, BitVec.ofNat_toNat, BitVec.setWidth_eq] at h0
  unfold State.physRead
  split
  · exact physReadEach_ram h
  · simp [State.dispatchRead, h0]

/-- PhysWrite of plain RAM whose masked addresses rise from a on (R71, R73, R74). -/
theorem physWrite_ram {s : State} {p : Word} {a n : Nat} (v : Quad) (hn : 1 ≤ n)
    (h : ∀ i, i < n → p.toNat + i < 2 ^ 32 ∧ (s.maskA20 (BitVec.ofNat 32 (p.toNat + i))).toNat = a + i ∧
      s.provider (a + i) = none ∧ a + i < s.params.ramSize) :
    s.physWrite p n v = s.withMem (s.mem.writeBytes a n v) := by
  have h0 := h 0 (by omega)
  simp only [Nat.add_zero, BitVec.ofNat_toNat, BitVec.setWidth_eq] at h0
  unfold State.physWrite
  split
  · exact physWriteEach_ram v h
  · simp [State.dispatchWrite, h0]

theorem memStep_dispatchRead (s : State) (p : Word) (n : Nat) : MemStep s (s.dispatchRead p n).2 := by
  unfold State.dispatchRead
  dsimp only
  split
  · exact memStep_log s _
  · exact MemStep.refl s

theorem memStep_physReadEach (s : State) (a n : Nat) : MemStep s (s.physReadEach a n).2 := by
  induction n generalizing s a with
  | zero => exact MemStep.refl s
  | succ n ih =>
    refine MemStep.trans ?_ (ih _ _)
    split
    · exact memStep_dispatchRead s _ 1
    · exact MemStep.refl s

/-- PhysRead changes nothing but what devices have seen. -/
theorem memStep_physRead (s : State) (p : Word) (n : Nat) : MemStep s (s.physRead p n).2 := by
  unfold State.physRead
  split
  · exact memStep_physReadEach s _ n
  · exact memStep_dispatchRead s p n

theorem memStep_dispatchWrite (s : State) (p : Word) (n : Nat) (v : Quad) (h : s.splits (s.maskA20 p).toNat n = false) :
    MemStep s (s.dispatchWrite p n v) := by
  unfold State.dispatchWrite
  dsimp only
  split
  · exact memStep_log s _
  · rename_i hp
    split
    · rename_i hr
      exact ⟨rfl, Memory.wf_writeBytes _ _ _, Memory.below_writeBytes _ _ _ (splits_ram h hp hr)⟩
    · exact MemStep.refl s

theorem memStep_physWriteEach (s : State) (a n : Nat) (v : Quad) : MemStep s (s.physWriteEach a n v) := by
  induction n generalizing s a v with
  | zero => exact MemStep.refl s
  | succ n ih =>
    refine MemStep.trans ?_ (ih _ _ _)
    split
    · exact memStep_dispatchWrite s _ 1 v (splits_one s _)
    · exact MemStep.refl s

/-- PhysWrite keeps memory canonical and inside RAM. -/
theorem memStep_physWrite (s : State) (p : Word) (n : Nat) (v : Quad) : MemStep s (s.physWrite p n v) := by
  unfold State.physWrite
  split
  · exact memStep_physWriteEach s _ n v
  · rename_i h
    exact memStep_dispatchWrite s p n v (by simpa using h)

theorem memStep_readEach (s : State) (ps : List Word) : MemStep s (s.readEach ps).2 := by
  induction ps generalizing s with
  | nil => exact MemStep.refl s
  | cons p ps ih => exact (memStep_physRead s p 1).trans (ih _)

theorem memStep_writeEach (s : State) (ps : List Word) (v : Quad) : MemStep s (s.writeEach ps v) := by
  induction ps generalizing s v with
  | nil => exact MemStep.refl s
  | cons p ps ih => exact (memStep_physWrite s p 1 _).trans (ih _ _)

theorem memStep_readPlace (s : State) (pl : Place) (n : Nat) : MemStep s (s.readPlace pl n).2 := by
  cases pl with
  | run p => exact memStep_physRead s p n
  | bytes ps => exact memStep_readEach s ps

theorem memStep_writePlace (s : State) (pl : Place) (n : Nat) (v : Quad) : MemStep s (s.writePlace pl n v) := by
  cases pl with
  | run p => exact memStep_physWrite s p n v
  | bytes ps => exact memStep_writeEach s ps v

theorem keeps_physRead (p : Word) (n : Nat) : Keeps MemStep (physRead p n) := fun s => memStep_physRead s p n

theorem keeps_physWrite (p : Word) (n : Nat) (v : Quad) : Keeps MemStep (physWrite p n v) := fun s => memStep_physWrite s p n v

theorem keeps_pageFault {α : Type} (l : Word) (a : Acc) (b : Bool) : Keeps MemStep (pageFault l a b : M α) :=
  fun _ => ⟨rfl, id, id⟩

theorem keeps_walk (l : Word) (a : Acc) : Keeps MemStep (walk l a) := by
  unfold walk
  refine Keeps.bind MemStep.chain (Keeps.getS MemStep.chain) fun s => ?_
  refine Keeps.bind MemStep.chain (keeps_physRead _ _) fun pde => ?_
  refine Keeps.ite (keeps_pageFault _ _ _) ?_
  refine Keeps.bind MemStep.chain (keeps_physRead _ _) fun pte => ?_
  refine Keeps.ite (keeps_pageFault _ _ _) (Keeps.ite (keeps_pageFault _ _ _) ?_)
  exact Keeps.bind MemStep.chain (Keeps.whenM MemStep.chain _ (keeps_physWrite _ _ _)) fun _ =>
    Keeps.bind MemStep.chain (Keeps.whenM MemStep.chain _ (keeps_physWrite _ _ _)) fun _ => Keeps.pure MemStep.chain _

/-- A translation changes nothing but memory (A and D bits), CR2 and what devices have seen. -/
theorem keeps_translate (l : Word) (a : Acc) : Keeps MemStep (translate l a) := by
  unfold translate
  exact Keeps.bind MemStep.chain (Keeps.getS MemStep.chain) fun s =>
    Keeps.ite (keeps_walk l a) (Keeps.pure MemStep.chain l)

theorem keeps_linReadBytes (l : Word) (a : Acc) (n : Nat) : Keeps MemStep (linReadBytes l a n) := by
  induction n generalizing l with
  | zero => exact Keeps.pure MemStep.chain 0
  | succ n ih =>
    exact Keeps.bind MemStep.chain (keeps_translate l a) fun p =>
      Keeps.bind MemStep.chain (keeps_physRead p 1) fun lo =>
        Keeps.bind MemStep.chain (ih (l + 1)) fun hi => Keeps.pure MemStep.chain _

/-- A linear read changes nothing but memory, CR2 and what devices have seen. -/
theorem keeps_linRead (l : Word) (n : Nat) (a : Acc) : Keeps MemStep (linRead l n a) := by
  unfold linRead
  exact Keeps.bind MemStep.chain (Keeps.getS MemStep.chain) fun s =>
    Keeps.ite (keeps_linReadBytes l a n)
      (Keeps.bind MemStep.chain (keeps_translate l a) fun p => keeps_physRead p n)

theorem keeps_linWriteBytes (l : Word) (a : Acc) (n : Nat) (v : Quad) : Keeps MemStep (linWriteBytes l a n v) := by
  induction n generalizing l v with
  | zero => exact Keeps.pure MemStep.chain ()
  | succ n ih =>
    exact Keeps.bind MemStep.chain (keeps_translate l a) fun p =>
      Keeps.bind MemStep.chain (keeps_physWrite p 1 _) fun _ => ih (l + 1) _

theorem keeps_translateBytes (l : Word) (a : Acc) (n : Nat) : Keeps MemStep (translateBytes l a n) := by
  induction n generalizing l with
  | zero => exact Keeps.pure MemStep.chain []
  | succ n ih =>
    exact Keeps.bind MemStep.chain (keeps_translate l a) fun p =>
      Keeps.bind MemStep.chain (ih (l + 1)) fun ps => Keeps.pure MemStep.chain _

/-- Translating a place changes nothing but memory, CR2 and what devices have seen. -/
theorem keeps_linPlace (l : Word) (n : Nat) (a : Acc) : Keeps MemStep (linPlace l n a) := by
  unfold linPlace
  exact Keeps.bind MemStep.chain (Keeps.getS MemStep.chain) fun s =>
    Keeps.ite
      (Keeps.bind MemStep.chain (keeps_translateBytes l a n) fun ps => Keeps.pure MemStep.chain _)
      (Keeps.bind MemStep.chain (keeps_translate l a) fun p => Keeps.pure MemStep.chain _)

/-- A linear write changes nothing but memory, CR2 and what devices have seen. -/
theorem keeps_linWrite (l : Word) (n : Nat) (v : Quad) (a : Acc) : Keeps MemStep (linWrite l n v a) := by
  unfold linWrite
  refine Keeps.bind MemStep.chain (Keeps.getS MemStep.chain) fun s => Keeps.ite ?_ ?_
  · split
    · exact keeps_linWriteBytes l a n v
    · exact Keeps.bind MemStep.chain (keeps_translateBytes l a n) fun ps => Keeps.modS fun s => memStep_writeEach s ps v
  · exact Keeps.bind MemStep.chain (keeps_translate l a) fun p => keeps_physWrite p n v

theorem keeps_sysRead (l : Word) (n : Nat) : Keeps MemStep (sysRead l n) := keeps_linRead l n _

theorem keeps_sysWrite (l : Word) (n : Nat) (v : Quad) : Keeps MemStep (sysWrite l n v) := keeps_linWrite l n v _

/-! ## Accesses through a segment -/

theorem keeps_segCheckAs (e : Exc) (c : SegCache) (isCs : Bool) (off n : Nat) (k : AccKind) :
    Keeps MemStep (segCheckAs e c isCs off n k) := by
  unfold segCheckAs
  exact Keeps.bind MemStep.chain (Keeps.getS MemStep.chain) fun s => Keeps.raiseIf MemStep.chain _ _

theorem keeps_segCheck (c : SegCache) (isCs : Bool) (off n : Nat) (k : AccKind) : Keeps MemStep (segCheck c isCs off n k) :=
  keeps_segCheckAs _ c isCs off n k

/-- MemRead changes nothing but memory, CR2 and what devices have seen. -/
theorem keeps_memRead (g : SReg) (off n : Nat) : Keeps MemStep (memRead g off n) := by
  unfold memRead
  exact Keeps.bind MemStep.chain (Keeps.getS MemStep.chain) fun s =>
    Keeps.bind MemStep.chain (keeps_segCheck _ _ _ _ _) fun _ => keeps_linRead _ _ _

/-- MemWrite changes nothing but memory, CR2 and what devices have seen. -/
theorem keeps_memWrite (g : SReg) (off n : Nat) (v : Quad) : Keeps MemStep (memWrite g off n v) := by
  unfold memWrite
  exact Keeps.bind MemStep.chain (Keeps.getS MemStep.chain) fun s =>
    Keeps.bind MemStep.chain (keeps_segCheck _ _ _ _ _) fun _ => keeps_linWrite _ _ _ _

/-- Opening a destination changes nothing but memory, CR2 and what devices have seen. -/
theorem keeps_memOpen (g : SReg) (off n : Nat) : Keeps MemStep (memOpen g off n) := by
  unfold memOpen
  exact Keeps.bind MemStep.chain (Keeps.getS MemStep.chain) fun s =>
    Keeps.bind MemStep.chain (keeps_segCheck _ _ _ _ _) fun _ => keeps_linPlace _ _ _

theorem keeps_memWriteVia (e : Exc) (c : SegCache) (cpl : BitVec 2) (off n : Nat) (v : Quad) :
    Keeps MemStep (memWriteVia e c cpl off n v) := by
  unfold memWriteVia
  exact Keeps.bind MemStep.chain (keeps_segCheckAs _ _ _ _ _ _) fun _ => keeps_linWrite _ _ _ _

theorem keeps_peek (o : OSize) (k : Nat) : Keeps MemStep (peek o k) := by
  unfold peek
  exact Keeps.bind MemStep.chain (Keeps.getS MemStep.chain) fun s =>
    Keeps.bind MemStep.chain (keeps_memRead _ _ _) fun v => Keeps.pure MemStep.chain _

theorem keeps_stage (o : OSize) (k : Nat) (vs : List Word) : Keeps MemStep (stage o k vs) := by
  induction vs generalizing k with
  | nil => exact Keeps.pure MemStep.chain ()
  | cons v vs ih =>
    unfold stage
    exact Keeps.bind MemStep.chain (Keeps.getS MemStep.chain) fun s =>
      Keeps.bind MemStep.chain (keeps_memWrite _ _ _ _) fun _ => ih _

theorem keeps_stageVia (e : Exc) (c : SegCache) (cpl : BitVec 2) (nesp : Word) (o : OSize) (k : Nat) (vs : List Word) :
    Keeps MemStep (stageVia e c cpl nesp o k vs) := by
  induction vs generalizing k with
  | nil => exact Keeps.pure MemStep.chain ()
  | cons v vs ih =>
    unfold stageVia
    exact Keeps.bind MemStep.chain (keeps_memWriteVia _ _ _ _ _ _) fun _ => ih _

/-- Reading a descriptor changes nothing but memory, CR2 and what devices have seen. -/
theorem keeps_descRead (sel : Half) (e : Byte) : Keeps MemStep (descRead sel e) := by
  unfold descRead
  exact Keeps.bind MemStep.chain (Keeps.getS MemStep.chain) fun s =>
    Keeps.bind MemStep.chain (Keeps.raiseIf MemStep.chain _ _) fun _ => keeps_sysRead _ _

theorem keeps_markAccessed (sel : Half) (d : Quad) : Keeps MemStep (markAccessed sel d) := by
  unfold markAccessed
  exact Keeps.bind MemStep.chain (Keeps.getS MemStep.chain) fun s =>
    Keeps.whenM MemStep.chain _ (keeps_sysWrite _ _ _)

end Sys2Proof.Machine
end

