-- ==== Sys2Proof/Laws/Ops.lean ====
section
/-! SUPPORT. What each shared operation does, said once: the state it leaves where its accesses succeed. -/

namespace Sys2Proof.Machine

/-! ## From a body to an outcome -/

theorem run_next {body : M Unit} {s s1 : State} (h : body s = .ok () s1) : run body s = .next s1.count := by
  simp only [run, h]

theorem run_takes {body : M Unit} {s s1 : State} {e : Exc} (h : body s = .error (.exc e) s1) :
    run body s = takeException e s s1 := by
  simp only [run, h]

theorem run_refuses {body : M Unit} {s s1 : State} {r : Refusal} (h : body s = .error (.stop r) s1) :
    run body s = .refused r := by
  simp only [run, h]

/-! ## From a delivery to the event that caused it -/

/-- A delivery that succeeds does so whichever way the event arises. -/
theorem State.Delivers.of_deliver {v : Byte} {src : Src} {err : Option Half} {ret : Word} {s t : State}
    (h : deliver v src err ret s = .ok () t) : s.Delivers v src err ret t := by
  have hb : deliverEvent v src err ret s = .next t := by simp [deliverEvent, chainBound, deliverChain, h]
  refine ⟨h, hb, ?_, ?_⟩
  · rintro e s0 s1 rfl hn rfl rfl rfl rfl
    unfold takeException handlerBase
    rw [if_neg (by simp [hn])]
    exact hb
  · rintro rfl rfl rfl
    have hi : ∀ w, w = v → softInt w s = .ok () t := by rintro w rfl; simpa [softInt] using h
    refine ⟨run_next (hi v rfl), fun h3 => run_next (hi 3 h3.symm), fun h4 ho => run_next ?_⟩
    rw [intOnOverflow, getS_bind, whenM_apply, if_pos ho]
    exact hi 4 h4.symm

/-- A delivery that raises makes INT n, INT3 and INTO take what it raises. -/
theorem State.DeliveryRaises.of_deliver {v : Byte} {src : Src} {err : Option Half} {ret : Word} {e : Exc} {s t : State}
    (h : deliver v src err ret s = .error (.exc e) t) : s.DeliveryRaises v src err ret e t := by
  refine ⟨h, ?_⟩
  rintro rfl rfl rfl
  have hi : ∀ w, w = v → softInt w s = .error (.exc e) t := by rintro w rfl; simpa [softInt] using h
  refine ⟨run_takes (hi v rfl), fun h3 => run_takes (hi 3 h3.symm), fun h4 ho => run_takes ?_⟩
  rw [intOnOverflow, getS_bind, whenM_apply, if_pos ho]
  exact hi 4 h4.symm

/-- A delivery in protected mode is its steps, with EXT set for an external interrupt. -/
theorem deliver_protected {v : Byte} {src : Src} {err : Option Half} {ret : Word} {s : State} (h : s.pe = true) :
    deliver v src err ret s =
      match deliverProtected v src err ret (s.deliverOn true (classOf v src)) with
      | .ok _ t => .ok () (t.deliverOn false (classOf v src))
      | .error a t => .error (if src = .external then a.withExt else a) t := by
  have hp : (s.deliverOn true (classOf v src)).pe = true := h
  rw [deliver, modS_bind, M.bind_apply]
  simp only [underExt, getS_bind, hp, if_true]
  cases deliverProtected v src err ret (s.deliverOn true (classOf v src)) <;> rfl

/-! ## Undefined bits -/

theorem drawBit_apply (s : State) : drawBit s = .ok ((Config.draw s.draws).getLsbD 0) { s with draws := s.draws + 1 } := rfl

@[simp] theorem modFlags_apply (g : Flags → Flags) (s : State) : modFlags g s = .ok () { s with flags := g s.flags } := rfl

theorem drawSZAP_apply (s : State) :
    ∃ sf zf af pf : Bool,
      drawSZAP s =
        .ok ()
          { s with
            flags := ((({ s.flags with af := af }.setSF sf).setZF zf).setPF pf)
            draws := s.draws + 4 } := ⟨_, _, _, _, rfl⟩

theorem drawOSZP_apply (s : State) :
    ∃ of sf zf pf : Bool,
      drawOSZP s =
        .ok ()
          { s with
            flags := ((({ s.flags with of := of }.setSF sf).setZF zf).setPF pf)
            draws := s.draws + 4 } := ⟨_, _, _, _, rfl⟩

/-! ## Binary and unary operations, shifts -/

theorem binValue_apply (op : BinOp) (sz : Size) (a b : Word) (s : State) :
    ∃ (af : Bool) (n : Nat),
      binValue op sz a b s =
        .ok (binResult op sz a b s.flags.cf) { s with flags := binFlags op sz a b s.flags af, draws := n } := by
  cases op
  case add | adc | sub | sbb | cmp => exact ⟨false, s.draws, rfl⟩
  all_goals exact ⟨_, _, rfl⟩

theorem unValue_apply (op : UnOp) (sz : Size) (a : Word) (s : State) :
    unValue op sz a s = .ok (unResult op sz a) { s with flags := unFlags op sz a s.flags } := by
  cases op <;> rfl

theorem binary_writes {op : BinOp} {sz : Size} {dst : Loc} {src : Source} {p : Opened} {b : Word} {s s1 s2 : State}
    (hw : op.writes = true) (ho : openLoc sz dst s = .ok p s1) (hb : readSrc sz src s1 = .ok b s2) :
    ∃ (af : Bool) (n : Nat),
      binary op sz dst src s =
        .ok ()
          (({ (s2.readOpened sz p).2 with
              flags := binFlags op sz (s2.readOpened sz p).1 b s.flags af, draws := n }).writeOpened sz
            (binResult op sz (s2.readOpened sz p).1 b s.flags.cf) p) := by
  have h1 := quiet_openLoc sz dst _ _ _ ho
  have h2 := quiet_readSrc sz src _ _ _ hb
  have h3 := sameButMemory_readOpened s2 sz p
  have hf : (s2.readOpened sz p).2.flags = s.flags := by rw [h3, h2, h1]
  obtain ⟨af, n, hv⟩ := binValue_apply op sz (s2.readOpened sz p).1 b (s2.readOpened sz p).2
  refine ⟨af, n, ?_⟩
  rw [← hf, binary, if_pos hw, M.bind_ok ho, M.bind_ok hb]
  exact M.bind_ok (m := binValue op sz (s2.readOpened sz p).1 b) hv

theorem binary_compares {op : BinOp} {sz : Size} {dst : Loc} {src : Source} {a b : Word} {s s1 s2 : State}
    (hw : op.writes = false) (ha : readLoc sz dst s = .ok a s1) (hb : readSrc sz src s1 = .ok b s2) :
    ∃ (af : Bool) (n : Nat),
      binary op sz dst src s = .ok () { s2 with flags := binFlags op sz a b s.flags af, draws := n } := by
  have h1 := quiet_readLoc sz dst _ _ _ ha
  have h2 := quiet_readSrc sz src _ _ _ hb
  have hf : s2.flags = s.flags := by rw [h2, h1]
  obtain ⟨af, n, hv⟩ := binValue_apply op sz a b s2
  refine ⟨af, n, ?_⟩
  rw [← hf, binary, if_neg (by simp [hw]), M.bind_ok ha, M.bind_ok hb]
  exact M.bind_ok hv

theorem unary_apply {op : UnOp} {sz : Size} {dst : Loc} {p : Opened} {s s1 : State} (ho : openLoc sz dst s = .ok p s1) :
    unary op sz dst s =
      .ok ()
        (({ (s1.readOpened sz p).2 with flags := unFlags op sz (s1.readOpened sz p).1 s.flags }).writeOpened sz
          (unResult op sz (s1.readOpened sz p).1) p) := by
  have h1 := quiet_openLoc sz dst _ _ _ ho
  have h3 := sameButMemory_readOpened s1 sz p
  have hf : (s1.readOpened sz p).2.flags = s.flags := by rw [h3, h1]
  rw [← hf, unary, modifyLoc, M.bind_ok ho]
  exact M.bind_ok (unValue_apply op sz _ _)

theorem shiftOp_apply (op : ShiftOp) (sz : Size) (a c : Word) (s : State) :
    ((c &&& 0x1F).toNat = 0 → shiftOp op sz a c s = .ok a s) ∧
    ((c &&& 0x1F).toNat ≠ 0 → ∃ (of1 af1 : Bool) (n : Nat),
      shiftOp op sz a c s =
        .ok (shiftIter op sz (c &&& 0x1F).toNat a s.flags.cf).1
          { s with
            flags :=
              s.flags.shift op sz a (shiftIter op sz (c &&& 0x1F).toNat a s.flags.cf).1
                (shiftIter op sz (c &&& 0x1F).toNat a s.flags.cf).2 (c &&& 0x1F).toNat of1 af1
            draws := n }) := by
  constructor
  · intro h0
    rw [shiftOp, getS_bind]
    dsimp only
    rw [if_pos h0]
    rfl
  · intro h0
    refine ⟨(Config.draw s.draws).getLsbD 0, (Config.draw (s.draws + 1)).getLsbD 0, s.draws + 2, ?_⟩
    rw [shiftOp, getS_bind]
    dsimp only
    rw [if_neg h0]
    rfl

theorem shiftLoc_apply {op : ShiftOp} {sz : Size} {dst : Loc} {src : Source} {c : Word} {p : Opened} {s s1 : State}
    (hc : readSrc .b src s = .ok c s) (ho : openLoc sz dst s = .ok p s1) :
    ((c &&& 0x1F).toNat = 0 →
      shiftLoc op sz dst src s = .ok () ((s1.readOpened sz p).2.writeOpened sz (s1.readOpened sz p).1 p)) ∧
    ((c &&& 0x1F).toNat ≠ 0 → ∃ (of1 af1 : Bool) (n : Nat),
      shiftLoc op sz dst src s =
        .ok ()
          (({ (s1.readOpened sz p).2 with
              flags :=
                s.flags.shift op sz (s1.readOpened sz p).1
                  (shiftIter op sz (c &&& 0x1F).toNat (s1.readOpened sz p).1 s.flags.cf).1
                  (shiftIter op sz (c &&& 0x1F).toNat (s1.readOpened sz p).1 s.flags.cf).2 (c &&& 0x1F).toNat of1 af1
              draws := n }).writeOpened sz (shiftIter op sz (c &&& 0x1F).toNat (s1.readOpened sz p).1 s.flags.cf).1 p)) := by
  have h1 := quiet_openLoc sz dst _ _ _ ho
  have h3 := sameButMemory_readOpened s1 sz p
  have hf : (s1.readOpened sz p).2.flags = s.flags := by rw [h3, h1]
  obtain ⟨hz, hn⟩ := shiftOp_apply op sz (s1.readOpened sz p).1 c (s1.readOpened sz p).2
  constructor
  · intro h0
    rw [shiftLoc, M.bind_ok hc, modifyLoc, M.bind_ok ho]
    exact M.bind_ok (m := shiftOp op sz (s1.readOpened sz p).1 c) (hz h0)
  · intro h0
    obtain ⟨of1, af1, n, hv⟩ := hn h0
    refine ⟨of1, af1, n, ?_⟩
    rw [← hf, shiftLoc, M.bind_ok hc, modifyLoc, M.bind_ok ho]
    exact M.bind_ok (m := shiftOp op sz (s1.readOpened sz p).1 c) hv

/-! ## The stack, selectors and segment registers -/

theorem push_apply {o : OSize} {v : Word} {s s1 : State}
    (h : memWrite .ss (s.spBelow o.bytes) o.bytes (v.setWidth 64) s = .ok () s1) :
    push o v s = .ok () { s1 with regs := (s.setSp (s.spTrunc (s.sp - BitVec.ofNat 32 o.bytes))).regs } := by
  have hs := quiet_memWrite _ _ _ _ _ _ _ h
  rw [push, getS_bind, M.bind_ok h, hs]
  show EStateM.Result.ok () _ = _
  rw [BitVec.sub_eq_add_neg]
  rfl

theorem pop_apply {o : OSize} {v : Word} {s s1 : State} (h : peek o 0 s = .ok v s1) :
    pop o s = .ok v { s1 with regs := (s.setSp (s.spTrunc (s.sp + BitVec.ofNat 32 o.bytes))).regs } := by
  have hs := quiet_peek _ _ _ _ _ h
  rw [pop, M.bind_ok h, hs]
  rfl

theorem selRPL_withRPL (x : Half) (r : BitVec 2) : selRPL (withRPL x r) = r := by
  apply BitVec.eq_of_getLsbD_eq
  intro i hi
  simp only [selRPL, withRPL, selCode, BitVec.getLsbD_extractLsb', BitVec.getLsbD_or, BitVec.getLsbD_and,
    BitVec.getLsbD_setWidth]
  interval_cases i <;> simp

theorem selectorAt_apply {o : OSize} {sel : Half} {w : Word} {s s1 : State} (h : selectorAt o sel s = .ok w s1) :
    w.setWidth 16 = sel ∧ s1 = { s with draws := s1.draws } := by
  cases o with
  | o16 =>
    cases h
    exact ⟨by simp, rfl⟩
  | o32 =>
    simp only [selectorAt, M.bind_apply, drawWord_apply] at h
    cases h
    refine ⟨?_, rfl⟩
    apply BitVec.eq_of_getLsbD_eq
    intro i hi
    simp only [BitVec.getLsbD_setWidth, BitVec.getLsbD_or, BitVec.getLsbD_and, hi, decide_true, Bool.true_and]
    interval_cases i <;> simp

@[simp] theorem selIndex_withRPL (x : Half) (r : BitVec 2) : selIndex (withRPL x r) = selIndex x := by
  have h : ∀ i, 3 ≤ i → (withRPL x r).getLsbD i = x.getLsbD i := by
    intro i hi
    by_cases h16 : i < 16
    · simp only [withRPL, selCode, BitVec.getLsbD_or, BitVec.getLsbD_and, BitVec.getLsbD_setWidth]
      interval_cases i <;> simp
    · rw [BitVec.getLsbD_of_ge _ _ (by omega), BitVec.getLsbD_of_ge _ _ (by omega)]
  have e : withRPL x r >>> 3 = x >>> 3 := by
    apply BitVec.eq_of_getLsbD_eq
    intro i _
    simp only [BitVec.getLsbD_ushiftRight]
    exact h _ (by omega)
  have e2 := congrArg BitVec.toNat e
  simpa [selIndex, BitVec.toNat_ushiftRight, Nat.shiftRight_eq_div_pow] using e2

@[simp] theorem selTI_withRPL (x : Half) (r : BitVec 2) : selTI (withRPL x r) = selTI x := by
  simp [selTI, withRPL, selCode]

/-- A Snapshot ends where its accessed bit has been seen to (R102). -/
theorem snapshot_marked {g : SReg} {sel sel' : Half} {d : Quad} {s t : State}
    (hm : State.Marked (s.setSeg g { selector := sel, cache := cacheOf d (g = .ss) (selRPL sel) }) sel' d t)
    (hi : selIndex sel = selIndex sel') (ht : selTI sel = selTI sel') : snapshot g sel d s = .ok () t := by
  have hw : writeSeg g { selector := sel, cache := cacheOf d (g = .ss) (selRPL sel) } s =
      .ok () (s.setSeg g { selector := sel, cache := cacheOf d (g = .ss) (selRPL sel) }) := rfl
  suffices h : (writeSeg g { selector := sel, cache := cacheOf d (g = .ss) (selRPL sel) } >>= fun _ => markAccessed sel d) s =
      .ok () t by rw [snapshot, keepSegOnRaise, h]
  rw [M.bind_ok hw, markAccessed, getS_bind, whenM_apply]
  unfold State.Marked at hm
  unfold State.descAddr State.tableBase descAccessed
  split at hm
  · rename_i h
    rw [if_pos h, hi, ht]
    exact hm
  · rename_i h
    rw [if_neg h, hm]

/-- A Snapshot whose accessed bit cannot be written leaves its register as it was (R103). -/
theorem snapshot_raises {g : SReg} {sel : Half} {d : Quad} {e : Exc} {s t : State}
    (hm : State.MarkRaises (s.setSeg g { selector := sel, cache := cacheOf d (g = .ss) (selRPL sel) }) sel d e t) :
    snapshot g sel d s = .error (.exc e) (t.setSeg g (s.seg g)) := by
  obtain ⟨hp, hd, hw⟩ := hm
  suffices h : (writeSeg g { selector := sel, cache := cacheOf d (g = .ss) (selRPL sel) } >>= fun _ => markAccessed sel d) s =
      .error (.exc e) t by rw [snapshot, keepSegOnRaise, h]
  exact (whenM_apply _ _ _).trans ((if_pos ⟨hp, hd⟩).trans hw)

theorem enterCs_marked {sel : Half} {rpl : BitVec 2} {d : Quad} {off : Word} {s t : State}
    (hm : State.Marked { s with cs := { selector := withRPL sel rpl, cache := cacheOf d false rpl } } sel d t) :
    enterCs sel rpl d off s = .ok () { t with eip := off } := by
  rw [enterCs, M.bind_ok (snapshot_marked (sel' := sel) (by rw [selRPL_withRPL]; exact hm) (by simp) (by simp))]
  rfl

theorem State.Marked.same {s t : State} {sel : Half} {d : Quad} (h : s.Marked sel d t) : s.sameButMemory t := by
  unfold State.Marked at h
  split at h
  · exact quiet_linWrite _ _ _ _ _ _ _ h
  · rw [h]
    rfl

/-- The first of two tests made in order. -/
theorem raiseIf_checked {α : Type} (c : Prop) [Decidable c] (e : Exc) (f : Unit → M α) (ts : List (Bool × Exc)) (a : α)
    (s : State) (h : ¬c → f () s = checked ts a s) : (raiseIf c e >>= f) s = checked ((decide c, e) :: ts) a s := by
  rw [raiseIf_bind]
  by_cases hc : c
  · simp [checked, hc]
  · simp [checked, hc, h hc]

theorem checkTarget_apply (o : OSize) (t : Word) (s : State) :
    checkTarget o t s =
      if s.cs.cache.limit.toNat < (cut o.size t).toNat then .error (.exc (Exc.gp 0)) s else .ok (cut o.size t) s := by
  rw [checkTarget, getS_bind, raiseIf_bind]
  rfl

theorem setEip_apply (o : OSize) (t : Word) (s : State) :
    setEip o t s =
      if s.cs.cache.limit.toNat < (cut o.size t).toNat then .error (.exc (Exc.gp 0)) s
      else .ok () (s.withEip (cut o.size t)) := by
  rw [setEip, M.bind_apply, checkTarget_apply]
  by_cases h : s.cs.cache.limit.toNat < (cut o.size t).toNat
  · rw [if_pos h, if_pos h]
  · rw [if_neg h, if_neg h]
    rfl

theorem quiet_innerStack (n : BitVec 2) : Quiet (innerStack n) :=
  Quiet.bind Quiet.getS fun _ => Quiet.bind (Quiet.raiseIf _ _) fun _ => Quiet.bind (quiet_linRead _ _ _) fun _ =>
    Quiet.bind (quiet_linRead _ _ _) fun _ => Quiet.bind (Quiet.raiseIf _ _) fun _ =>
      Quiet.bind (quiet_descRead _ _) fun _ => Quiet.bind (Quiet.raiseIf _ _) fun _ =>
        Quiet.bind (Quiet.raiseIf _ _) fun _ => Quiet.pure _

theorem quiet_checkReturnCs (sel : Half) (off : Word) : Quiet (checkReturnCs sel off) :=
  Quiet.bind (Quiet.raiseIf _ _) fun _ => Quiet.bind (quiet_descRead _ _) fun _ => Quiet.bind Quiet.getS fun _ =>
    Quiet.bind (Quiet.raiseIf _ _) fun _ => Quiet.bind (Quiet.raiseIf _ _) fun _ => Quiet.bind (Quiet.raiseIf _ _) fun _ =>
      Quiet.bind (Quiet.raiseIf _ _) fun _ => Quiet.bind (Quiet.raiseIf _ _) fun _ =>
        Quiet.bind (Quiet.raiseIf _ _) fun _ => Quiet.pure _

theorem quiet_checkDirectCs (sel : Half) (off : Word) : Quiet (checkDirectCs sel off) :=
  Quiet.bind (Quiet.raiseIf _ _) fun _ => Quiet.bind (quiet_descRead _ _) fun _ => Quiet.bind Quiet.getS fun _ =>
    Quiet.bind (Quiet.raiseIf _ _) fun _ => Quiet.bind (Quiet.raiseIf _ _) fun _ => Quiet.bind (Quiet.raiseIf _ _) fun _ =>
      Quiet.bind (Quiet.raiseIf _ _) fun _ => Quiet.bind (Quiet.raiseIf _ _) fun _ => Quiet.pure _

end Sys2Proof.Machine
end

