-- ==== Sys2Proof/Laws/PerInstr.lean ====
section
/-! SUPPORT. A family of statements about every instruction as syntax: how many bytes its encoding has
(spec/30_encoding.md R144). One lemma per constructor. -/

namespace Sys2Proof.Laws

theorem Disp16.enc_length (d : Disp16) : d.enc.2.length ≤ 2 := by cases d <;> simp [Disp16.enc, halfBytes]

theorem Disp32.enc_length (d : Disp32) : d.enc.2.length ≤ 4 := by cases d <;> simp [Disp32.enc, wordBytes]

theorem Addr.bytes_length (r : BitVec 3) (a : Addr) : 1 ≤ (a.bytes r).length ∧ (a.bytes r).length ≤ 6 := by
  cases a with
  | abs16 d => simp [Addr.bytes, halfBytes]
  | base16 b d =>
    have := Disp16.enc_length d
    simp only [Addr.bytes, List.length_append, List.length_singleton]
    omega
  | abs32 i d => rcases i with _ | ⟨i, s⟩ <;> simp [Addr.bytes, wordBytes]
  | base32 b i d =>
    have := Disp32.enc_length d
    rcases i with _ | ⟨i, s⟩ <;> cases b <;>
      simp only [Addr.bytes, List.length_append, List.length_cons, List.length_nil] <;> omega

theorem prefixBytes_length (d : Bool) (o a : Option OSize) (g : Option SReg) : (prefixBytes d o a g).length ≤ 3 := by
  rcases o with _ | o <;> rcases a with _ | a <;> rcases g with _ | g <;> simp only [prefixBytes] <;>
    (repeat' split) <;> simp

/-- An operand size alone needs at most one prefix byte. -/
theorem prefixBytes_size_length (d : Bool) (o : OSize) : (prefixBytes d (some o) none none).length ≤ 1 := by
  simp only [prefixBytes, List.nil_append, List.append_nil]
  split <;> simp

@[simp] theorem ImmV.bytes_length (i : ImmV) : 2 ≤ i.bytes.length ∧ i.bytes.length ≤ 4 := by
  cases i <;> simp [ImmV.bytes, halfBytes, wordBytes]

theorem encV_length (d : Bool) (o : OSize) (body : List Byte) :
    body.length ≤ (encV d o body).length ∧ (encV d o body).length ≤ body.length + 1 := by
  have := prefixBytes_size_length d o
  simp only [encV, List.length_append]
  omega

theorem encMem_length (d : Bool) (o : Option OSize) (op : List Byte) (r : BitVec 3) (m : MemOp) :
    op.length + 1 ≤ (encMem d o op r m).length ∧ (encMem d o op r m).length ≤ op.length + 9 := by
  have := prefixBytes_length d o (some m.addr.asize) m.seg
  have := Addr.bytes_length r m.addr
  simp only [encMem, List.length_append]
  omega

theorem encRm8_length (d : Bool) (op : List Byte) (r : BitVec 3) (m : Rm8) (imm : List Byte) :
    op.length + 1 ≤ (encRm8 d op r m imm).length ∧ (encRm8 d op r m imm).length ≤ op.length + 9 + imm.length := by
  cases m with
  | reg x => simp only [encRm8, List.length_append, List.length_singleton]; omega
  | mem x =>
    have := encMem_length d none op r x
    simp only [encRm8, List.length_append]
    omega

theorem encRmv_length (d : Bool) (o : OSize) (op : List Byte) (r : BitVec 3) (m : Rm) (imm : List Byte) :
    op.length + 1 ≤ (encRmv d o op r m imm).length ∧ (encRmv d o op r m imm).length ≤ op.length + 9 + imm.length := by
  cases m with
  | reg x =>
    have := encV_length d o (op ++ [modrmByte 3 r x.toBits] ++ imm)
    simp only [List.length_append, List.length_singleton] at this
    simp only [encRmv]
    omega
  | mem x =>
    have := encMem_length d (some o) op r x
    simp only [encRmv, List.length_append]
    omega

theorem encRm16_length (d : Bool) (op : List Byte) (r : BitVec 3) (m : Rm) :
    op.length + 1 ≤ (encRm16 d op r m).length ∧ (encRm16 d op r m).length ≤ op.length + 9 := by
  cases m with
  | reg x => simp only [encRm16, List.length_append, List.length_singleton]; omega
  | mem x => simpa only [encRm16] using encMem_length d none op r x

theorem encMoffs_length (d : Bool) (o : Option OSize) (g : Option SReg) (a : Moffs) (op : Byte) :
    1 ≤ (encMoffs d o g a op).length ∧ (encMoffs d o g a op).length ≤ 8 := by
  cases a with
  | a16 v =>
    have := prefixBytes_length d o (some .o16) g
    simp only [encMoffs, halfBytes, List.length_append, List.length_cons, List.length_nil]
    omega
  | a32 v =>
    have := prefixBytes_length d o (some .o32) g
    simp only [encMoffs, wordBytes, List.length_append, List.length_cons, List.length_nil]
    omega

/-- Some bytes, and not more than an instruction may have. -/
def Fits (bs : List Byte) : Prop := 1 ≤ bs.length ∧ bs.length ≤ 15

theorem fits_v (d : Bool) (o : OSize) (b : Byte) (bs : List Byte) (h : bs.length ≤ 13) : Fits (encV d o (b :: bs)) := by
  have := encV_length d o (b :: bs)
  simp only [List.length_cons] at this
  unfold Fits
  omega

theorem fits_immv (d : Bool) (o : OSize) (b : Byte) (i : ImmV) (bs : List Byte) (h : bs.length ≤ 9) :
    Fits (encV d o ([b] ++ i.bytes ++ bs)) := by
  have := encV_length d o ([b] ++ i.bytes ++ bs)
  have := ImmV.bytes_length i
  simp only [List.length_append, List.length_cons, List.length_nil] at *
  unfold Fits
  omega

theorem fits_immv1 (d : Bool) (o : OSize) (b : Byte) (i : ImmV) : Fits (encV d o ([b] ++ i.bytes)) := by
  have := fits_immv d o b i [] (Nat.zero_le _)
  rwa [List.append_nil] at this

theorem fits_immv0 (d : Bool) (o : OSize) (b c : Byte) (i : ImmV) : Fits (encV d o ([b, c] ++ i.bytes)) := by
  have := encV_length d o ([b, c] ++ i.bytes)
  have := ImmV.bytes_length i
  simp only [List.length_append, List.length_cons, List.length_nil] at *
  unfold Fits
  omega

theorem fits_rm8 (d : Bool) (op : List Byte) (r : BitVec 3) (m : Rm8) (imm : List Byte) (h : op.length + imm.length ≤ 6) :
    Fits (encRm8 d op r m imm) := by
  have := encRm8_length d op r m imm
  unfold Fits
  omega

theorem fits_rmv (d : Bool) (o : OSize) (op : List Byte) (r : BitVec 3) (m : Rm) (imm : List Byte)
    (h : op.length + imm.length ≤ 6) : Fits (encRmv d o op r m imm) := by
  have := encRmv_length d o op r m imm
  unfold Fits
  omega

theorem fits_rmvImmv (d : Bool) (o : OSize) (op : List Byte) (r : BitVec 3) (m : Rm) (i : ImmV) (h : op.length ≤ 2) :
    Fits (encRmv d o op r m i.bytes) := by
  have := ImmV.bytes_length i
  exact fits_rmv d o op r m i.bytes (by omega)

theorem fits_rm16 (d : Bool) (op : List Byte) (r : BitVec 3) (m : Rm) (h : op.length ≤ 6) : Fits (encRm16 d op r m) := by
  have := encRm16_length d op r m
  unfold Fits
  omega

theorem fits_mem (d : Bool) (o : Option OSize) (op : List Byte) (r : BitVec 3) (m : MemOp) (h : op.length ≤ 6) :
    Fits (encMem d o op r m) := by
  have := encMem_length d o op r m
  unfold Fits
  omega

theorem fits_moffs (d : Bool) (o : Option OSize) (g : Option SReg) (a : Moffs) (op : Byte) : Fits (encMoffs d o g a op) := by
  have := encMoffs_length d o g a op
  unfold Fits
  omega

theorem fits_plain (b : Byte) (bs : List Byte) (h : bs.length ≤ 14) : Fits (b :: bs) := by
  unfold Fits
  simp only [List.length_cons]
  omega

namespace EncodeSize

/-- In code of either default size the encoding has at least one byte and at most 15 (spec/30_encoding.md R144). -/
def Statement (i : Instr) : Prop := ∀ d : Bool, 1 ≤ (encode d i).length ∧ (encode d i).length ≤ 15

theorem prefixEs : Statement .prefixEs := fun _ => fits_plain _ _ (by decide)
theorem prefixCs : Statement .prefixCs := fun _ => fits_plain _ _ (by decide)
theorem prefixSs : Statement .prefixSs := fun _ => fits_plain _ _ (by decide)
theorem prefixDs : Statement .prefixDs := fun _ => fits_plain _ _ (by decide)
theorem prefixFs : Statement .prefixFs := fun _ => fits_plain _ _ (by decide)
theorem prefixGs : Statement .prefixGs := fun _ => fits_plain _ _ (by decide)
theorem prefixOpsize : Statement .prefixOpsize := fun _ => fits_plain _ _ (by decide)
theorem prefixAddrsize : Statement .prefixAddrsize := fun _ => fits_plain _ _ (by decide)
theorem prefixLock : Statement .prefixLock := fun _ => fits_plain _ _ (by decide)
theorem prefixRepne : Statement .prefixRepne := fun _ => fits_plain _ _ (by decide)
theorem prefixRep : Statement .prefixRep := fun _ => fits_plain _ _ (by decide)
theorem addRm8R8 (m : Rm8) (r : Reg8) : Statement (.addRm8R8 m r) := fun _ => fits_rm8 _ _ _ _ _ (Nat.le_of_ble_eq_true rfl)
theorem addRmvRv (o : OSize) (m : Rm) (r : Reg) : Statement (.addRmvRv o m r) := fun _ => fits_rmv _ _ _ _ _ _ (Nat.le_of_ble_eq_true rfl)
theorem addR8Rm8 (r : Reg8) (m : Rm8) : Statement (.addR8Rm8 r m) := fun _ => fits_rm8 _ _ _ _ _ (Nat.le_of_ble_eq_true rfl)
theorem addRvRmv (o : OSize) (r : Reg) (m : Rm) : Statement (.addRvRmv o r m) := fun _ => fits_rmv _ _ _ _ _ _ (Nat.le_of_ble_eq_true rfl)
theorem addAlImm8 (i : Byte) : Statement (.addAlImm8 i) := fun _ => fits_plain _ _ (Nat.le_of_ble_eq_true rfl)
theorem addEaxImmv (i : ImmV) : Statement (.addEaxImmv i) := fun _ => fits_immv1 _ _ _ _
theorem addRm8Imm8 (m : Rm8) (i : Byte) : Statement (.addRm8Imm8 m i) := fun _ => fits_rm8 _ _ _ _ [i] (Nat.le_of_ble_eq_true rfl)
theorem addRmvImmv (m : Rm) (i : ImmV) : Statement (.addRmvImmv m i) := fun _ => fits_rmvImmv _ _ _ _ _ _ (Nat.le_of_ble_eq_true rfl)
theorem addRmvSx8 (o : OSize) (m : Rm) (i : Byte) : Statement (.addRmvSx8 o m i) := fun _ => fits_rmv _ _ _ _ _ [i] (Nat.le_of_ble_eq_true rfl)
theorem orRm8R8 (m : Rm8) (r : Reg8) : Statement (.orRm8R8 m r) := fun _ => fits_rm8 _ _ _ _ _ (Nat.le_of_ble_eq_true rfl)
theorem orRmvRv (o : OSize) (m : Rm) (r : Reg) : Statement (.orRmvRv o m r) := fun _ => fits_rmv _ _ _ _ _ _ (Nat.le_of_ble_eq_true rfl)
theorem orR8Rm8 (r : Reg8) (m : Rm8) : Statement (.orR8Rm8 r m) := fun _ => fits_rm8 _ _ _ _ _ (Nat.le_of_ble_eq_true rfl)
theorem orRvRmv (o : OSize) (r : Reg) (m : Rm) : Statement (.orRvRmv o r m) := fun _ => fits_rmv _ _ _ _ _ _ (Nat.le_of_ble_eq_true rfl)
theorem orAlImm8 (i : Byte) : Statement (.orAlImm8 i) := fun _ => fits_plain _ _ (Nat.le_of_ble_eq_true rfl)
theorem orEaxImmv (i : ImmV) : Statement (.orEaxImmv i) := fun _ => fits_immv1 _ _ _ _
theorem orRm8Imm8 (m : Rm8) (i : Byte) : Statement (.orRm8Imm8 m i) := fun _ => fits_rm8 _ _ _ _ [i] (Nat.le_of_ble_eq_true rfl)
theorem orRmvImmv (m : Rm) (i : ImmV) : Statement (.orRmvImmv m i) := fun _ => fits_rmvImmv _ _ _ _ _ _ (Nat.le_of_ble_eq_true rfl)
theorem orRmvSx8 (o : OSize) (m : Rm) (i : Byte) : Statement (.orRmvSx8 o m i) := fun _ => fits_rmv _ _ _ _ _ [i] (Nat.le_of_ble_eq_true rfl)
theorem adcRm8R8 (m : Rm8) (r : Reg8) : Statement (.adcRm8R8 m r) := fun _ => fits_rm8 _ _ _ _ _ (Nat.le_of_ble_eq_true rfl)
theorem adcRmvRv (o : OSize) (m : Rm) (r : Reg) : Statement (.adcRmvRv o m r) := fun _ => fits_rmv _ _ _ _ _ _ (Nat.le_of_ble_eq_true rfl)
theorem adcR8Rm8 (r : Reg8) (m : Rm8) : Statement (.adcR8Rm8 r m) := fun _ => fits_rm8 _ _ _ _ _ (Nat.le_of_ble_eq_true rfl)
theorem adcRvRmv (o : OSize) (r : Reg) (m : Rm) : Statement (.adcRvRmv o r m) := fun _ => fits_rmv _ _ _ _ _ _ (Nat.le_of_ble_eq_true rfl)
theorem adcAlImm8 (i : Byte) : Statement (.adcAlImm8 i) := fun _ => fits_plain _ _ (Nat.le_of_ble_eq_true rfl)
theorem adcEaxImmv (i : ImmV) : Statement (.adcEaxImmv i) := fun _ => fits_immv1 _ _ _ _
theorem adcRm8Imm8 (m : Rm8) (i : Byte) : Statement (.adcRm8Imm8 m i) := fun _ => fits_rm8 _ _ _ _ [i] (Nat.le_of_ble_eq_true rfl)
theorem adcRmvImmv (m : Rm) (i : ImmV) : Statement (.adcRmvImmv m i) := fun _ => fits_rmvImmv _ _ _ _ _ _ (Nat.le_of_ble_eq_true rfl)
theorem adcRmvSx8 (o : OSize) (m : Rm) (i : Byte) : Statement (.adcRmvSx8 o m i) := fun _ => fits_rmv _ _ _ _ _ [i] (Nat.le_of_ble_eq_true rfl)
theorem sbbRm8R8 (m : Rm8) (r : Reg8) : Statement (.sbbRm8R8 m r) := fun _ => fits_rm8 _ _ _ _ _ (Nat.le_of_ble_eq_true rfl)
theorem sbbRmvRv (o : OSize) (m : Rm) (r : Reg) : Statement (.sbbRmvRv o m r) := fun _ => fits_rmv _ _ _ _ _ _ (Nat.le_of_ble_eq_true rfl)
theorem sbbR8Rm8 (r : Reg8) (m : Rm8) : Statement (.sbbR8Rm8 r m) := fun _ => fits_rm8 _ _ _ _ _ (Nat.le_of_ble_eq_true rfl)
theorem sbbRvRmv (o : OSize) (r : Reg) (m : Rm) : Statement (.sbbRvRmv o r m) := fun _ => fits_rmv _ _ _ _ _ _ (Nat.le_of_ble_eq_true rfl)
theorem sbbAlImm8 (i : Byte) : Statement (.sbbAlImm8 i) := fun _ => fits_plain _ _ (Nat.le_of_ble_eq_true rfl)
theorem sbbEaxImmv (i : ImmV) : Statement (.sbbEaxImmv i) := fun _ => fits_immv1 _ _ _ _
theorem sbbRm8Imm8 (m : Rm8) (i : Byte) : Statement (.sbbRm8Imm8 m i) := fun _ => fits_rm8 _ _ _ _ [i] (Nat.le_of_ble_eq_true rfl)
theorem sbbRmvImmv (m : Rm) (i : ImmV) : Statement (.sbbRmvImmv m i) := fun _ => fits_rmvImmv _ _ _ _ _ _ (Nat.le_of_ble_eq_true rfl)
theorem sbbRmvSx8 (o : OSize) (m : Rm) (i : Byte) : Statement (.sbbRmvSx8 o m i) := fun _ => fits_rmv _ _ _ _ _ [i] (Nat.le_of_ble_eq_true rfl)
theorem andRm8R8 (m : Rm8) (r : Reg8) : Statement (.andRm8R8 m r) := fun _ => fits_rm8 _ _ _ _ _ (Nat.le_of_ble_eq_true rfl)
theorem andRmvRv (o : OSize) (m : Rm) (r : Reg) : Statement (.andRmvRv o m r) := fun _ => fits_rmv _ _ _ _ _ _ (Nat.le_of_ble_eq_true rfl)
theorem andR8Rm8 (r : Reg8) (m : Rm8) : Statement (.andR8Rm8 r m) := fun _ => fits_rm8 _ _ _ _ _ (Nat.le_of_ble_eq_true rfl)
theorem andRvRmv (o : OSize) (r : Reg) (m : Rm) : Statement (.andRvRmv o r m) := fun _ => fits_rmv _ _ _ _ _ _ (Nat.le_of_ble_eq_true rfl)
theorem andAlImm8 (i : Byte) : Statement (.andAlImm8 i) := fun _ => fits_plain _ _ (Nat.le_of_ble_eq_true rfl)
theorem andEaxImmv (i : ImmV) : Statement (.andEaxImmv i) := fun _ => fits_immv1 _ _ _ _
theorem andRm8Imm8 (m : Rm8) (i : Byte) : Statement (.andRm8Imm8 m i) := fun _ => fits_rm8 _ _ _ _ [i] (Nat.le_of_ble_eq_true rfl)
theorem andRmvImmv (m : Rm) (i : ImmV) : Statement (.andRmvImmv m i) := fun _ => fits_rmvImmv _ _ _ _ _ _ (Nat.le_of_ble_eq_true rfl)
theorem andRmvSx8 (o : OSize) (m : Rm) (i : Byte) : Statement (.andRmvSx8 o m i) := fun _ => fits_rmv _ _ _ _ _ [i] (Nat.le_of_ble_eq_true rfl)
theorem subRm8R8 (m : Rm8) (r : Reg8) : Statement (.subRm8R8 m r) := fun _ => fits_rm8 _ _ _ _ _ (Nat.le_of_ble_eq_true rfl)
theorem subRmvRv (o : OSize) (m : Rm) (r : Reg) : Statement (.subRmvRv o m r) := fun _ => fits_rmv _ _ _ _ _ _ (Nat.le_of_ble_eq_true rfl)
theorem subR8Rm8 (r : Reg8) (m : Rm8) : Statement (.subR8Rm8 r m) := fun _ => fits_rm8 _ _ _ _ _ (Nat.le_of_ble_eq_true rfl)
theorem subRvRmv (o : OSize) (r : Reg) (m : Rm) : Statement (.subRvRmv o r m) := fun _ => fits_rmv _ _ _ _ _ _ (Nat.le_of_ble_eq_true rfl)
theorem subAlImm8 (i : Byte) : Statement (.subAlImm8 i) := fun _ => fits_plain _ _ (Nat.le_of_ble_eq_true rfl)
theorem subEaxImmv (i : ImmV) : Statement (.subEaxImmv i) := fun _ => fits_immv1 _ _ _ _
theorem subRm8Imm8 (m : Rm8) (i : Byte) : Statement (.subRm8Imm8 m i) := fun _ => fits_rm8 _ _ _ _ [i] (Nat.le_of_ble_eq_true rfl)
theorem subRmvImmv (m : Rm) (i : ImmV) : Statement (.subRmvImmv m i) := fun _ => fits_rmvImmv _ _ _ _ _ _ (Nat.le_of_ble_eq_true rfl)
theorem subRmvSx8 (o : OSize) (m : Rm) (i : Byte) : Statement (.subRmvSx8 o m i) := fun _ => fits_rmv _ _ _ _ _ [i] (Nat.le_of_ble_eq_true rfl)
theorem xorRm8R8 (m : Rm8) (r : Reg8) : Statement (.xorRm8R8 m r) := fun _ => fits_rm8 _ _ _ _ _ (Nat.le_of_ble_eq_true rfl)
theorem xorRmvRv (o : OSize) (m : Rm) (r : Reg) : Statement (.xorRmvRv o m r) := fun _ => fits_rmv _ _ _ _ _ _ (Nat.le_of_ble_eq_true rfl)
theorem xorR8Rm8 (r : Reg8) (m : Rm8) : Statement (.xorR8Rm8 r m) := fun _ => fits_rm8 _ _ _ _ _ (Nat.le_of_ble_eq_true rfl)
theorem xorRvRmv (o : OSize) (r : Reg) (m : Rm) : Statement (.xorRvRmv o r m) := fun _ => fits_rmv _ _ _ _ _ _ (Nat.le_of_ble_eq_true rfl)
theorem xorAlImm8 (i : Byte) : Statement (.xorAlImm8 i) := fun _ => fits_plain _ _ (Nat.le_of_ble_eq_true rfl)
theorem xorEaxImmv (i : ImmV) : Statement (.xorEaxImmv i) := fun _ => fits_immv1 _ _ _ _
theorem xorRm8Imm8 (m : Rm8) (i : Byte) : Statement (.xorRm8Imm8 m i) := fun _ => fits_rm8 _ _ _ _ [i] (Nat.le_of_ble_eq_true rfl)
theorem xorRmvImmv (m : Rm) (i : ImmV) : Statement (.xorRmvImmv m i) := fun _ => fits_rmvImmv _ _ _ _ _ _ (Nat.le_of_ble_eq_true rfl)
theorem xorRmvSx8 (o : OSize) (m : Rm) (i : Byte) : Statement (.xorRmvSx8 o m i) := fun _ => fits_rmv _ _ _ _ _ [i] (Nat.le_of_ble_eq_true rfl)
theorem cmpRm8R8 (m : Rm8) (r : Reg8) : Statement (.cmpRm8R8 m r) := fun _ => fits_rm8 _ _ _ _ _ (Nat.le_of_ble_eq_true rfl)
theorem cmpRmvRv (o : OSize) (m : Rm) (r : Reg) : Statement (.cmpRmvRv o m r) := fun _ => fits_rmv _ _ _ _ _ _ (Nat.le_of_ble_eq_true rfl)
theorem cmpR8Rm8 (r : Reg8) (m : Rm8) : Statement (.cmpR8Rm8 r m) := fun _ => fits_rm8 _ _ _ _ _ (Nat.le_of_ble_eq_true rfl)
theorem cmpRvRmv (o : OSize) (r : Reg) (m : Rm) : Statement (.cmpRvRmv o r m) := fun _ => fits_rmv _ _ _ _ _ _ (Nat.le_of_ble_eq_true rfl)
theorem cmpAlImm8 (i : Byte) : Statement (.cmpAlImm8 i) := fun _ => fits_plain _ _ (Nat.le_of_ble_eq_true rfl)
theorem cmpEaxImmv (i : ImmV) : Statement (.cmpEaxImmv i) := fun _ => fits_immv1 _ _ _ _
theorem cmpRm8Imm8 (m : Rm8) (i : Byte) : Statement (.cmpRm8Imm8 m i) := fun _ => fits_rm8 _ _ _ _ [i] (Nat.le_of_ble_eq_true rfl)
theorem cmpRmvImmv (m : Rm) (i : ImmV) : Statement (.cmpRmvImmv m i) := fun _ => fits_rmvImmv _ _ _ _ _ _ (Nat.le_of_ble_eq_true rfl)
theorem cmpRmvSx8 (o : OSize) (m : Rm) (i : Byte) : Statement (.cmpRmvSx8 o m i) := fun _ => fits_rmv _ _ _ _ _ [i] (Nat.le_of_ble_eq_true rfl)
theorem incRv (o : OSize) (r : Reg) : Statement (.incRv o r) := fun _ => fits_v _ _ _ _ (Nat.le_of_ble_eq_true rfl)
theorem incRm8 (m : Rm8) : Statement (.incRm8 m) := fun _ => fits_rm8 _ _ _ _ _ (Nat.le_of_ble_eq_true rfl)
theorem incRmv (o : OSize) (m : Rm) : Statement (.incRmv o m) := fun _ => fits_rmv _ _ _ _ _ _ (Nat.le_of_ble_eq_true rfl)
theorem decRv (o : OSize) (r : Reg) : Statement (.decRv o r) := fun _ => fits_v _ _ _ _ (Nat.le_of_ble_eq_true rfl)
theorem decRm8 (m : Rm8) : Statement (.decRm8 m) := fun _ => fits_rm8 _ _ _ _ _ (Nat.le_of_ble_eq_true rfl)
theorem decRmv (o : OSize) (m : Rm) : Statement (.decRmv o m) := fun _ => fits_rmv _ _ _ _ _ _ (Nat.le_of_ble_eq_true rfl)
theorem testRm8Imm8 (m : Rm8) (i : Byte) : Statement (.testRm8Imm8 m i) := fun _ => fits_rm8 _ _ _ _ [i] (Nat.le_of_ble_eq_true rfl)
theorem testRmvImmv (m : Rm) (i : ImmV) : Statement (.testRmvImmv m i) := fun _ => fits_rmvImmv _ _ _ _ _ _ (Nat.le_of_ble_eq_true rfl)
theorem notRm8 (m : Rm8) : Statement (.notRm8 m) := fun _ => fits_rm8 _ _ _ _ _ (Nat.le_of_ble_eq_true rfl)
theorem notRmv (o : OSize) (m : Rm) : Statement (.notRmv o m) := fun _ => fits_rmv _ _ _ _ _ _ (Nat.le_of_ble_eq_true rfl)
theorem negRm8 (m : Rm8) : Statement (.negRm8 m) := fun _ => fits_rm8 _ _ _ _ _ (Nat.le_of_ble_eq_true rfl)
theorem negRmv (o : OSize) (m : Rm) : Statement (.negRmv o m) := fun _ => fits_rmv _ _ _ _ _ _ (Nat.le_of_ble_eq_true rfl)
theorem mulRm8 (m : Rm8) : Statement (.mulRm8 m) := fun _ => fits_rm8 _ _ _ _ _ (Nat.le_of_ble_eq_true rfl)
theorem mulRmv (o : OSize) (m : Rm) : Statement (.mulRmv o m) := fun _ => fits_rmv _ _ _ _ _ _ (Nat.le_of_ble_eq_true rfl)
theorem imulRm8 (m : Rm8) : Statement (.imulRm8 m) := fun _ => fits_rm8 _ _ _ _ _ (Nat.le_of_ble_eq_true rfl)
theorem imulRmv (o : OSize) (m : Rm) : Statement (.imulRmv o m) := fun _ => fits_rmv _ _ _ _ _ _ (Nat.le_of_ble_eq_true rfl)
theorem divRm8 (m : Rm8) : Statement (.divRm8 m) := fun _ => fits_rm8 _ _ _ _ _ (Nat.le_of_ble_eq_true rfl)
theorem divRmv (o : OSize) (m : Rm) : Statement (.divRmv o m) := fun _ => fits_rmv _ _ _ _ _ _ (Nat.le_of_ble_eq_true rfl)
theorem idivRm8 (m : Rm8) : Statement (.idivRm8 m) := fun _ => fits_rm8 _ _ _ _ _ (Nat.le_of_ble_eq_true rfl)
theorem idivRmv (o : OSize) (m : Rm) : Statement (.idivRmv o m) := fun _ => fits_rmv _ _ _ _ _ _ (Nat.le_of_ble_eq_true rfl)
theorem testRm8R8 (m : Rm8) (r : Reg8) : Statement (.testRm8R8 m r) := fun _ => fits_rm8 _ _ _ _ _ (Nat.le_of_ble_eq_true rfl)
theorem testRmvRv (o : OSize) (m : Rm) (r : Reg) : Statement (.testRmvRv o m r) := fun _ => fits_rmv _ _ _ _ _ _ (Nat.le_of_ble_eq_true rfl)
theorem testAlImm8 (i : Byte) : Statement (.testAlImm8 i) := fun _ => fits_plain _ _ (Nat.le_of_ble_eq_true rfl)
theorem testEaxImmv (i : ImmV) : Statement (.testEaxImmv i) := fun _ => fits_immv1 _ _ _ _
theorem imulRvRmv (o : OSize) (r : Reg) (m : Rm) : Statement (.imulRvRmv o r m) := fun _ => fits_rmv _ _ _ _ _ _ (Nat.le_of_ble_eq_true rfl)
theorem imulRvRmvImmv (r : Reg) (m : Rm) (i : ImmV) : Statement (.imulRvRmvImmv r m i) := fun _ => fits_rmvImmv _ _ _ _ _ _ (Nat.le_of_ble_eq_true rfl)
theorem imulRvRmvSx8 (o : OSize) (r : Reg) (m : Rm) (i : Byte) : Statement (.imulRvRmvSx8 o r m i) := fun _ => fits_rmv _ _ _ _ _ [i] (Nat.le_of_ble_eq_true rfl)
theorem rolRm8Imm8 (m : Rm8) (i : Byte) : Statement (.rolRm8Imm8 m i) := fun _ => fits_rm8 _ _ _ _ [i] (Nat.le_of_ble_eq_true rfl)
theorem rolRmvImm8 (o : OSize) (m : Rm) (i : Byte) : Statement (.rolRmvImm8 o m i) := fun _ => fits_rmv _ _ _ _ _ [i] (Nat.le_of_ble_eq_true rfl)
theorem rolRm8One (m : Rm8) : Statement (.rolRm8One m) := fun _ => fits_rm8 _ _ _ _ _ (Nat.le_of_ble_eq_true rfl)
theorem rolRmvOne (o : OSize) (m : Rm) : Statement (.rolRmvOne o m) := fun _ => fits_rmv _ _ _ _ _ _ (Nat.le_of_ble_eq_true rfl)
theorem rolRm8Cl (m : Rm8) : Statement (.rolRm8Cl m) := fun _ => fits_rm8 _ _ _ _ _ (Nat.le_of_ble_eq_true rfl)
theorem rolRmvCl (o : OSize) (m : Rm) : Statement (.rolRmvCl o m) := fun _ => fits_rmv _ _ _ _ _ _ (Nat.le_of_ble_eq_true rfl)
theorem rorRm8Imm8 (m : Rm8) (i : Byte) : Statement (.rorRm8Imm8 m i) := fun _ => fits_rm8 _ _ _ _ [i] (Nat.le_of_ble_eq_true rfl)
theorem rorRmvImm8 (o : OSize) (m : Rm) (i : Byte) : Statement (.rorRmvImm8 o m i) := fun _ => fits_rmv _ _ _ _ _ [i] (Nat.le_of_ble_eq_true rfl)
theorem rorRm8One (m : Rm8) : Statement (.rorRm8One m) := fun _ => fits_rm8 _ _ _ _ _ (Nat.le_of_ble_eq_true rfl)
theorem rorRmvOne (o : OSize) (m : Rm) : Statement (.rorRmvOne o m) := fun _ => fits_rmv _ _ _ _ _ _ (Nat.le_of_ble_eq_true rfl)
theorem rorRm8Cl (m : Rm8) : Statement (.rorRm8Cl m) := fun _ => fits_rm8 _ _ _ _ _ (Nat.le_of_ble_eq_true rfl)
theorem rorRmvCl (o : OSize) (m : Rm) : Statement (.rorRmvCl o m) := fun _ => fits_rmv _ _ _ _ _ _ (Nat.le_of_ble_eq_true rfl)
theorem rclRm8Imm8 (m : Rm8) (i : Byte) : Statement (.rclRm8Imm8 m i) := fun _ => fits_rm8 _ _ _ _ [i] (Nat.le_of_ble_eq_true rfl)
theorem rclRmvImm8 (o : OSize) (m : Rm) (i : Byte) : Statement (.rclRmvImm8 o m i) := fun _ => fits_rmv _ _ _ _ _ [i] (Nat.le_of_ble_eq_true rfl)
theorem rclRm8One (m : Rm8) : Statement (.rclRm8One m) := fun _ => fits_rm8 _ _ _ _ _ (Nat.le_of_ble_eq_true rfl)
theorem rclRmvOne (o : OSize) (m : Rm) : Statement (.rclRmvOne o m) := fun _ => fits_rmv _ _ _ _ _ _ (Nat.le_of_ble_eq_true rfl)
theorem rclRm8Cl (m : Rm8) : Statement (.rclRm8Cl m) := fun _ => fits_rm8 _ _ _ _ _ (Nat.le_of_ble_eq_true rfl)
theorem rclRmvCl (o : OSize) (m : Rm) : Statement (.rclRmvCl o m) := fun _ => fits_rmv _ _ _ _ _ _ (Nat.le_of_ble_eq_true rfl)
theorem rcrRm8Imm8 (m : Rm8) (i : Byte) : Statement (.rcrRm8Imm8 m i) := fun _ => fits_rm8 _ _ _ _ [i] (Nat.le_of_ble_eq_true rfl)
theorem rcrRmvImm8 (o : OSize) (m : Rm) (i : Byte) : Statement (.rcrRmvImm8 o m i) := fun _ => fits_rmv _ _ _ _ _ [i] (Nat.le_of_ble_eq_true rfl)
theorem rcrRm8One (m : Rm8) : Statement (.rcrRm8One m) := fun _ => fits_rm8 _ _ _ _ _ (Nat.le_of_ble_eq_true rfl)
theorem rcrRmvOne (o : OSize) (m : Rm) : Statement (.rcrRmvOne o m) := fun _ => fits_rmv _ _ _ _ _ _ (Nat.le_of_ble_eq_true rfl)
theorem rcrRm8Cl (m : Rm8) : Statement (.rcrRm8Cl m) := fun _ => fits_rm8 _ _ _ _ _ (Nat.le_of_ble_eq_true rfl)
theorem rcrRmvCl (o : OSize) (m : Rm) : Statement (.rcrRmvCl o m) := fun _ => fits_rmv _ _ _ _ _ _ (Nat.le_of_ble_eq_true rfl)
theorem shlRm8Imm8 (m : Rm8) (i : Byte) : Statement (.shlRm8Imm8 m i) := fun _ => fits_rm8 _ _ _ _ [i] (Nat.le_of_ble_eq_true rfl)
theorem shlRmvImm8 (o : OSize) (m : Rm) (i : Byte) : Statement (.shlRmvImm8 o m i) := fun _ => fits_rmv _ _ _ _ _ [i] (Nat.le_of_ble_eq_true rfl)
theorem shlRm8One (m : Rm8) : Statement (.shlRm8One m) := fun _ => fits_rm8 _ _ _ _ _ (Nat.le_of_ble_eq_true rfl)
theorem shlRmvOne (o : OSize) (m : Rm) : Statement (.shlRmvOne o m) := fun _ => fits_rmv _ _ _ _ _ _ (Nat.le_of_ble_eq_true rfl)
theorem shlRm8Cl (m : Rm8) : Statement (.shlRm8Cl m) := fun _ => fits_rm8 _ _ _ _ _ (Nat.le_of_ble_eq_true rfl)
theorem shlRmvCl (o : OSize) (m : Rm) : Statement (.shlRmvCl o m) := fun _ => fits_rmv _ _ _ _ _ _ (Nat.le_of_ble_eq_true rfl)
theorem shrRm8Imm8 (m : Rm8) (i : Byte) : Statement (.shrRm8Imm8 m i) := fun _ => fits_rm8 _ _ _ _ [i] (Nat.le_of_ble_eq_true rfl)
theorem shrRmvImm8 (o : OSize) (m : Rm) (i : Byte) : Statement (.shrRmvImm8 o m i) := fun _ => fits_rmv _ _ _ _ _ [i] (Nat.le_of_ble_eq_true rfl)
theorem shrRm8One (m : Rm8) : Statement (.shrRm8One m) := fun _ => fits_rm8 _ _ _ _ _ (Nat.le_of_ble_eq_true rfl)
theorem shrRmvOne (o : OSize) (m : Rm) : Statement (.shrRmvOne o m) := fun _ => fits_rmv _ _ _ _ _ _ (Nat.le_of_ble_eq_true rfl)
theorem shrRm8Cl (m : Rm8) : Statement (.shrRm8Cl m) := fun _ => fits_rm8 _ _ _ _ _ (Nat.le_of_ble_eq_true rfl)
theorem shrRmvCl (o : OSize) (m : Rm) : Statement (.shrRmvCl o m) := fun _ => fits_rmv _ _ _ _ _ _ (Nat.le_of_ble_eq_true rfl)
theorem sarRm8Imm8 (m : Rm8) (i : Byte) : Statement (.sarRm8Imm8 m i) := fun _ => fits_rm8 _ _ _ _ [i] (Nat.le_of_ble_eq_true rfl)
theorem sarRmvImm8 (o : OSize) (m : Rm) (i : Byte) : Statement (.sarRmvImm8 o m i) := fun _ => fits_rmv _ _ _ _ _ [i] (Nat.le_of_ble_eq_true rfl)
theorem sarRm8One (m : Rm8) : Statement (.sarRm8One m) := fun _ => fits_rm8 _ _ _ _ _ (Nat.le_of_ble_eq_true rfl)
theorem sarRmvOne (o : OSize) (m : Rm) : Statement (.sarRmvOne o m) := fun _ => fits_rmv _ _ _ _ _ _ (Nat.le_of_ble_eq_true rfl)
theorem sarRm8Cl (m : Rm8) : Statement (.sarRm8Cl m) := fun _ => fits_rm8 _ _ _ _ _ (Nat.le_of_ble_eq_true rfl)
theorem sarRmvCl (o : OSize) (m : Rm) : Statement (.sarRmvCl o m) := fun _ => fits_rmv _ _ _ _ _ _ (Nat.le_of_ble_eq_true rfl)
theorem cbwCwde (o : OSize) : Statement (.cbwCwde o) := fun _ => fits_v _ _ _ _ (Nat.le_of_ble_eq_true rfl)
theorem cwdCdq (o : OSize) : Statement (.cwdCdq o) := fun _ => fits_v _ _ _ _ (Nat.le_of_ble_eq_true rfl)
theorem daa : Statement .daa := fun _ => fits_plain _ _ (Nat.le_of_ble_eq_true rfl)
theorem das : Statement .das := fun _ => fits_plain _ _ (Nat.le_of_ble_eq_true rfl)
theorem aaa : Statement .aaa := fun _ => fits_plain _ _ (Nat.le_of_ble_eq_true rfl)
theorem aas : Statement .aas := fun _ => fits_plain _ _ (Nat.le_of_ble_eq_true rfl)
theorem aam (i : Byte) : Statement (.aam i) := fun _ => fits_plain _ _ (Nat.le_of_ble_eq_true rfl)
theorem aad (i : Byte) : Statement (.aad i) := fun _ => fits_plain _ _ (Nat.le_of_ble_eq_true rfl)
theorem movRm8R8 (m : Rm8) (r : Reg8) : Statement (.movRm8R8 m r) := fun _ => fits_rm8 _ _ _ _ _ (Nat.le_of_ble_eq_true rfl)
theorem movRmvRv (o : OSize) (m : Rm) (r : Reg) : Statement (.movRmvRv o m r) := fun _ => fits_rmv _ _ _ _ _ _ (Nat.le_of_ble_eq_true rfl)
theorem movR8Rm8 (r : Reg8) (m : Rm8) : Statement (.movR8Rm8 r m) := fun _ => fits_rm8 _ _ _ _ _ (Nat.le_of_ble_eq_true rfl)
theorem movRvRmv (o : OSize) (r : Reg) (m : Rm) : Statement (.movRvRmv o r m) := fun _ => fits_rmv _ _ _ _ _ _ (Nat.le_of_ble_eq_true rfl)
theorem movR8Imm8 (r : Reg8) (i : Byte) : Statement (.movR8Imm8 r i) := fun _ => fits_plain _ _ (Nat.le_of_ble_eq_true rfl)
theorem movRvImmv (r : Reg) (i : ImmV) : Statement (.movRvImmv r i) := fun _ => fits_immv1 _ _ _ _
theorem movRm8Imm8 (m : Rm8) (i : Byte) : Statement (.movRm8Imm8 m i) := fun _ => fits_rm8 _ _ _ _ [i] (Nat.le_of_ble_eq_true rfl)
theorem movRmvImmv (m : Rm) (i : ImmV) : Statement (.movRmvImmv m i) := fun _ => fits_rmvImmv _ _ _ _ _ _ (Nat.le_of_ble_eq_true rfl)
theorem movAlMoffs (g : Option SReg) (a : Moffs) : Statement (.movAlMoffs g a) := fun _ => fits_moffs _ _ _ _ _
theorem movEaxMoffs (o : OSize) (g : Option SReg) (a : Moffs) : Statement (.movEaxMoffs o g a) := fun _ => fits_moffs _ _ _ _ _
theorem movMoffsAl (g : Option SReg) (a : Moffs) : Statement (.movMoffsAl g a) := fun _ => fits_moffs _ _ _ _ _
theorem movMoffsEax (o : OSize) (g : Option SReg) (a : Moffs) : Statement (.movMoffsEax o g a) := fun _ => fits_moffs _ _ _ _ _
theorem movRm16Sreg (o : OSize) (m : Rm) (g : SReg) : Statement (.movRm16Sreg o m g) := fun _ => fits_rmv _ _ _ _ _ _ (Nat.le_of_ble_eq_true rfl)
theorem movSregRm16 (g : SReg) (m : Rm) : Statement (.movSregRm16 g m) := fun _ => fits_rm16 _ _ _ _ (Nat.le_of_ble_eq_true rfl)
theorem lea (o : OSize) (r : Reg) (m : MemOp) : Statement (.lea o r m) := fun _ => fits_mem _ _ _ _ _ (Nat.le_of_ble_eq_true rfl)
theorem nop : Statement .nop := fun _ => fits_plain _ _ (Nat.le_of_ble_eq_true rfl)
theorem pushRv (o : OSize) (r : Reg) : Statement (.pushRv o r) := fun _ => fits_v _ _ _ _ (Nat.le_of_ble_eq_true rfl)
theorem popRv (o : OSize) (r : Reg) : Statement (.popRv o r) := fun _ => fits_v _ _ _ _ (Nat.le_of_ble_eq_true rfl)
theorem pushImmv (i : ImmV) : Statement (.pushImmv i) := fun _ => fits_immv1 _ _ _ _
theorem pushSx8 (o : OSize) (i : Byte) : Statement (.pushSx8 o i) := fun _ => fits_v _ _ _ _ (Nat.le_of_ble_eq_true rfl)
theorem pushEs (o : OSize) : Statement (.pushEs o) := fun _ => fits_v _ _ _ _ (Nat.le_of_ble_eq_true rfl)
theorem pushCs (o : OSize) : Statement (.pushCs o) := fun _ => fits_v _ _ _ _ (Nat.le_of_ble_eq_true rfl)
theorem pushSs (o : OSize) : Statement (.pushSs o) := fun _ => fits_v _ _ _ _ (Nat.le_of_ble_eq_true rfl)
theorem pushDs (o : OSize) : Statement (.pushDs o) := fun _ => fits_v _ _ _ _ (Nat.le_of_ble_eq_true rfl)
theorem pushFs (o : OSize) : Statement (.pushFs o) := fun _ => fits_v _ _ _ _ (Nat.le_of_ble_eq_true rfl)
theorem pushGs (o : OSize) : Statement (.pushGs o) := fun _ => fits_v _ _ _ _ (Nat.le_of_ble_eq_true rfl)
theorem popEs (o : OSize) : Statement (.popEs o) := fun _ => fits_v _ _ _ _ (Nat.le_of_ble_eq_true rfl)
theorem popSs (o : OSize) : Statement (.popSs o) := fun _ => fits_v _ _ _ _ (Nat.le_of_ble_eq_true rfl)
theorem popDs (o : OSize) : Statement (.popDs o) := fun _ => fits_v _ _ _ _ (Nat.le_of_ble_eq_true rfl)
theorem popFs (o : OSize) : Statement (.popFs o) := fun _ => fits_v _ _ _ _ (Nat.le_of_ble_eq_true rfl)
theorem popGs (o : OSize) : Statement (.popGs o) := fun _ => fits_v _ _ _ _ (Nat.le_of_ble_eq_true rfl)
theorem pusha (o : OSize) : Statement (.pusha o) := fun _ => fits_v _ _ _ _ (Nat.le_of_ble_eq_true rfl)
theorem popa (o : OSize) : Statement (.popa o) := fun _ => fits_v _ _ _ _ (Nat.le_of_ble_eq_true rfl)
theorem pushf (o : OSize) : Statement (.pushf o) := fun _ => fits_v _ _ _ _ (Nat.le_of_ble_eq_true rfl)
theorem popf (o : OSize) : Statement (.popf o) := fun _ => fits_v _ _ _ _ (Nat.le_of_ble_eq_true rfl)
theorem lahf : Statement .lahf := fun _ => fits_plain _ _ (Nat.le_of_ble_eq_true rfl)
theorem sahf : Statement .sahf := fun _ => fits_plain _ _ (Nat.le_of_ble_eq_true rfl)
theorem clc : Statement .clc := fun _ => fits_plain _ _ (Nat.le_of_ble_eq_true rfl)
theorem stc : Statement .stc := fun _ => fits_plain _ _ (Nat.le_of_ble_eq_true rfl)
theorem cmc : Statement .cmc := fun _ => fits_plain _ _ (Nat.le_of_ble_eq_true rfl)
theorem cld : Statement .cld := fun _ => fits_plain _ _ (Nat.le_of_ble_eq_true rfl)
theorem std : Statement .std := fun _ => fits_plain _ _ (Nat.le_of_ble_eq_true rfl)
theorem cli : Statement .cli := fun _ => fits_plain _ _ (Nat.le_of_ble_eq_true rfl)
theorem sti : Statement .sti := fun _ => fits_plain _ _ (Nat.le_of_ble_eq_true rfl)
theorem jmpRel8 (o : OSize) (i : Byte) : Statement (.jmpRel8 o i) := fun _ => fits_v _ _ _ _ (Nat.le_of_ble_eq_true rfl)
theorem jmpRelv (i : ImmV) : Statement (.jmpRelv i) := fun _ => fits_immv1 _ _ _ _
theorem jmpRmv (o : OSize) (m : Rm) : Statement (.jmpRmv o m) := fun _ => fits_rmv _ _ _ _ _ _ (Nat.le_of_ble_eq_true rfl)
theorem joRel8 (o : OSize) (i : Byte) : Statement (.joRel8 o i) := fun _ => fits_v _ _ _ _ (Nat.le_of_ble_eq_true rfl)
theorem jnoRel8 (o : OSize) (i : Byte) : Statement (.jnoRel8 o i) := fun _ => fits_v _ _ _ _ (Nat.le_of_ble_eq_true rfl)
theorem jbRel8 (o : OSize) (i : Byte) : Statement (.jbRel8 o i) := fun _ => fits_v _ _ _ _ (Nat.le_of_ble_eq_true rfl)
theorem jaeRel8 (o : OSize) (i : Byte) : Statement (.jaeRel8 o i) := fun _ => fits_v _ _ _ _ (Nat.le_of_ble_eq_true rfl)
theorem jeRel8 (o : OSize) (i : Byte) : Statement (.jeRel8 o i) := fun _ => fits_v _ _ _ _ (Nat.le_of_ble_eq_true rfl)
theorem jneRel8 (o : OSize) (i : Byte) : Statement (.jneRel8 o i) := fun _ => fits_v _ _ _ _ (Nat.le_of_ble_eq_true rfl)
theorem jbeRel8 (o : OSize) (i : Byte) : Statement (.jbeRel8 o i) := fun _ => fits_v _ _ _ _ (Nat.le_of_ble_eq_true rfl)
theorem jaRel8 (o : OSize) (i : Byte) : Statement (.jaRel8 o i) := fun _ => fits_v _ _ _ _ (Nat.le_of_ble_eq_true rfl)
theorem jsRel8 (o : OSize) (i : Byte) : Statement (.jsRel8 o i) := fun _ => fits_v _ _ _ _ (Nat.le_of_ble_eq_true rfl)
theorem jnsRel8 (o : OSize) (i : Byte) : Statement (.jnsRel8 o i) := fun _ => fits_v _ _ _ _ (Nat.le_of_ble_eq_true rfl)
theorem jpRel8 (o : OSize) (i : Byte) : Statement (.jpRel8 o i) := fun _ => fits_v _ _ _ _ (Nat.le_of_ble_eq_true rfl)
theorem jnpRel8 (o : OSize) (i : Byte) : Statement (.jnpRel8 o i) := fun _ => fits_v _ _ _ _ (Nat.le_of_ble_eq_true rfl)
theorem jlRel8 (o : OSize) (i : Byte) : Statement (.jlRel8 o i) := fun _ => fits_v _ _ _ _ (Nat.le_of_ble_eq_true rfl)
theorem jgeRel8 (o : OSize) (i : Byte) : Statement (.jgeRel8 o i) := fun _ => fits_v _ _ _ _ (Nat.le_of_ble_eq_true rfl)
theorem jleRel8 (o : OSize) (i : Byte) : Statement (.jleRel8 o i) := fun _ => fits_v _ _ _ _ (Nat.le_of_ble_eq_true rfl)
theorem jgRel8 (o : OSize) (i : Byte) : Statement (.jgRel8 o i) := fun _ => fits_v _ _ _ _ (Nat.le_of_ble_eq_true rfl)
theorem joRelv (i : ImmV) : Statement (.joRelv i) := fun _ => fits_immv0 _ _ _ _ _
theorem jnoRelv (i : ImmV) : Statement (.jnoRelv i) := fun _ => fits_immv0 _ _ _ _ _
theorem jbRelv (i : ImmV) : Statement (.jbRelv i) := fun _ => fits_immv0 _ _ _ _ _
theorem jaeRelv (i : ImmV) : Statement (.jaeRelv i) := fun _ => fits_immv0 _ _ _ _ _
theorem jeRelv (i : ImmV) : Statement (.jeRelv i) := fun _ => fits_immv0 _ _ _ _ _
theorem jneRelv (i : ImmV) : Statement (.jneRelv i) := fun _ => fits_immv0 _ _ _ _ _
theorem jbeRelv (i : ImmV) : Statement (.jbeRelv i) := fun _ => fits_immv0 _ _ _ _ _
theorem jaRelv (i : ImmV) : Statement (.jaRelv i) := fun _ => fits_immv0 _ _ _ _ _
theorem jsRelv (i : ImmV) : Statement (.jsRelv i) := fun _ => fits_immv0 _ _ _ _ _
theorem jnsRelv (i : ImmV) : Statement (.jnsRelv i) := fun _ => fits_immv0 _ _ _ _ _
theorem jpRelv (i : ImmV) : Statement (.jpRelv i) := fun _ => fits_immv0 _ _ _ _ _
theorem jnpRelv (i : ImmV) : Statement (.jnpRelv i) := fun _ => fits_immv0 _ _ _ _ _
theorem jlRelv (i : ImmV) : Statement (.jlRelv i) := fun _ => fits_immv0 _ _ _ _ _
theorem jgeRelv (i : ImmV) : Statement (.jgeRelv i) := fun _ => fits_immv0 _ _ _ _ _
theorem jleRelv (i : ImmV) : Statement (.jleRelv i) := fun _ => fits_immv0 _ _ _ _ _
theorem jgRelv (i : ImmV) : Statement (.jgRelv i) := fun _ => fits_immv0 _ _ _ _ _
theorem callRelv (i : ImmV) : Statement (.callRelv i) := fun _ => fits_immv1 _ _ _ _
theorem callRmv (o : OSize) (m : Rm) : Statement (.callRmv o m) := fun _ => fits_rmv _ _ _ _ _ _ (Nat.le_of_ble_eq_true rfl)
theorem jmpFar (i : ImmV) (sel : Half) : Statement (.jmpFar i sel) := fun _ => fits_immv _ _ _ _ _ (Nat.le_of_ble_eq_true rfl)
theorem callFar (i : ImmV) (sel : Half) : Statement (.callFar i sel) := fun _ => fits_immv _ _ _ _ _ (Nat.le_of_ble_eq_true rfl)
theorem ret (o : OSize) : Statement (.ret o) := fun _ => fits_v _ _ _ _ (Nat.le_of_ble_eq_true rfl)
theorem retImm16 (o : OSize) (i : Half) : Statement (.retImm16 o i) := fun _ => fits_v _ _ _ _ (Nat.le_of_ble_eq_true rfl)
theorem retf (o : OSize) : Statement (.retf o) := fun _ => fits_v _ _ _ _ (Nat.le_of_ble_eq_true rfl)
theorem retfImm16 (o : OSize) (i : Half) : Statement (.retfImm16 o i) := fun _ => fits_v _ _ _ _ (Nat.le_of_ble_eq_true rfl)
theorem iret (o : OSize) : Statement (.iret o) := fun _ => fits_v _ _ _ _ (Nat.le_of_ble_eq_true rfl)
theorem int (i : Byte) : Statement (.int i) := fun _ => fits_plain _ _ (Nat.le_of_ble_eq_true rfl)
theorem int3 : Statement .int3 := fun _ => fits_plain _ _ (Nat.le_of_ble_eq_true rfl)
theorem into : Statement .into := fun _ => fits_plain _ _ (Nat.le_of_ble_eq_true rfl)
theorem hlt : Statement .hlt := fun _ => fits_plain _ _ (Nat.le_of_ble_eq_true rfl)
theorem lgdt (o : OSize) (m : MemOp) : Statement (.lgdt o m) := fun _ => fits_mem _ _ _ _ _ (Nat.le_of_ble_eq_true rfl)
theorem lidt (o : OSize) (m : MemOp) : Statement (.lidt o m) := fun _ => fits_mem _ _ _ _ _ (Nat.le_of_ble_eq_true rfl)
theorem lldt (m : Rm) : Statement (.lldt m) := fun _ => fits_rm16 _ _ _ _ (Nat.le_of_ble_eq_true rfl)
theorem ltr (m : Rm) : Statement (.ltr m) := fun _ => fits_rm16 _ _ _ _ (Nat.le_of_ble_eq_true rfl)
theorem movR32Cr (r : Reg) (c : CReg) : Statement (.movR32Cr r c) := fun _ => fits_plain _ _ (Nat.le_of_ble_eq_true rfl)
theorem movCrR32 (c : CReg) (r : Reg) : Statement (.movCrR32 c r) := fun _ => fits_plain _ _ (Nat.le_of_ble_eq_true rfl)
theorem movR32Dr (r : Reg) (n : DReg) : Statement (.movR32Dr r n) := fun _ => fits_plain _ _ (Nat.le_of_ble_eq_true rfl)
theorem movDrR32 (n : DReg) (r : Reg) : Statement (.movDrR32 n r) := fun _ => fits_plain _ _ (Nat.le_of_ble_eq_true rfl)
theorem clts : Statement .clts := fun _ => fits_plain _ _ (Nat.le_of_ble_eq_true rfl)
theorem inAlImm8 (i : Byte) : Statement (.inAlImm8 i) := fun _ => fits_plain _ _ (Nat.le_of_ble_eq_true rfl)
theorem inEaxImm8 (o : OSize) (i : Byte) : Statement (.inEaxImm8 o i) := fun _ => fits_v _ _ _ _ (Nat.le_of_ble_eq_true rfl)
theorem inAlDx : Statement .inAlDx := fun _ => fits_plain _ _ (Nat.le_of_ble_eq_true rfl)
theorem inEaxDx (o : OSize) : Statement (.inEaxDx o) := fun _ => fits_v _ _ _ _ (Nat.le_of_ble_eq_true rfl)
theorem outImm8Al (i : Byte) : Statement (.outImm8Al i) := fun _ => fits_plain _ _ (Nat.le_of_ble_eq_true rfl)
theorem outImm8Eax (o : OSize) (i : Byte) : Statement (.outImm8Eax o i) := fun _ => fits_v _ _ _ _ (Nat.le_of_ble_eq_true rfl)
theorem outDxAl : Statement .outDxAl := fun _ => fits_plain _ _ (Nat.le_of_ble_eq_true rfl)
theorem outDxEax (o : OSize) : Statement (.outDxEax o) := fun _ => fits_v _ _ _ _ (Nat.le_of_ble_eq_true rfl)
theorem bound (o : OSize) (r : Reg) (m : MemOp) : Statement (.bound o r m) := fun _ => fits_mem _ _ _ _ _ (Nat.le_of_ble_eq_true rfl)

end EncodeSize

end Sys2Proof.Laws
end

