-- ==== Sys2Proof/Laws/State.lean ====
section
/-! SUPPORT. What each update of the state leaves of each field: one lemma a field and an update. -/

namespace Sys2Proof.Machine

/-! ## withRegs -/

@[simp] theorem State.withRegs_regs (s : State) (x : Regs) : (s.withRegs x).regs = x := rfl
@[simp] theorem State.withRegs_eip (s : State) (x : Regs) : (s.withRegs x).eip = s.eip := rfl
@[simp] theorem State.withRegs_flags (s : State) (x : Regs) : (s.withRegs x).flags = s.flags := rfl
@[simp] theorem State.withRegs_es (s : State) (x : Regs) : (s.withRegs x).es = s.es := rfl
@[simp] theorem State.withRegs_cs (s : State) (x : Regs) : (s.withRegs x).cs = s.cs := rfl
@[simp] theorem State.withRegs_ss (s : State) (x : Regs) : (s.withRegs x).ss = s.ss := rfl
@[simp] theorem State.withRegs_ds (s : State) (x : Regs) : (s.withRegs x).ds = s.ds := rfl
@[simp] theorem State.withRegs_fs (s : State) (x : Regs) : (s.withRegs x).fs = s.fs := rfl
@[simp] theorem State.withRegs_gs (s : State) (x : Regs) : (s.withRegs x).gs = s.gs := rfl
@[simp] theorem State.withRegs_cr0 (s : State) (x : Regs) : (s.withRegs x).cr0 = s.cr0 := rfl
@[simp] theorem State.withRegs_cr2 (s : State) (x : Regs) : (s.withRegs x).cr2 = s.cr2 := rfl
@[simp] theorem State.withRegs_cr3 (s : State) (x : Regs) : (s.withRegs x).cr3 = s.cr3 := rfl
@[simp] theorem State.withRegs_cr4 (s : State) (x : Regs) : (s.withRegs x).cr4 = s.cr4 := rfl
@[simp] theorem State.withRegs_dr (s : State) (x : Regs) : (s.withRegs x).dr = s.dr := rfl
@[simp] theorem State.withRegs_gdtr (s : State) (x : Regs) : (s.withRegs x).gdtr = s.gdtr := rfl
@[simp] theorem State.withRegs_idtr (s : State) (x : Regs) : (s.withRegs x).idtr = s.idtr := rfl
@[simp] theorem State.withRegs_ldtr (s : State) (x : Regs) : (s.withRegs x).ldtr = s.ldtr := rfl
@[simp] theorem State.withRegs_tr (s : State) (x : Regs) : (s.withRegs x).tr = s.tr := rfl
@[simp] theorem State.withRegs_inhibitNext (s : State) (x : Regs) : (s.withRegs x).inhibitNext = s.inhibitNext := rfl
@[simp] theorem State.withRegs_halted (s : State) (x : Regs) : (s.withRegs x).halted = s.halted := rfl
@[simp] theorem State.withRegs_cycles (s : State) (x : Regs) : (s.withRegs x).cycles = s.cycles := rfl
@[simp] theorem State.withRegs_a20 (s : State) (x : Regs) : (s.withRegs x).a20 = s.a20 := rfl
@[simp] theorem State.withRegs_delivering (s : State) (x : Regs) : (s.withRegs x).delivering = s.delivering := rfl
@[simp] theorem State.withRegs_deliveringClass (s : State) (x : Regs) : (s.withRegs x).deliveringClass = s.deliveringClass := rfl
@[simp] theorem State.withRegs_shutdown (s : State) (x : Regs) : (s.withRegs x).shutdown = s.shutdown := rfl
@[simp] theorem State.withRegs_baseCs (s : State) (x : Regs) : (s.withRegs x).baseCs = s.baseCs := rfl
@[simp] theorem State.withRegs_baseEip (s : State) (x : Regs) : (s.withRegs x).baseEip = s.baseEip := rfl
@[simp] theorem State.withRegs_latch (s : State) (x : Regs) : (s.withRegs x).latch = s.latch := rfl
@[simp] theorem State.withRegs_mem (s : State) (x : Regs) : (s.withRegs x).mem = s.mem := rfl
@[simp] theorem State.withRegs_params (s : State) (x : Regs) : (s.withRegs x).params = s.params := rfl
@[simp] theorem State.withRegs_irqs (s : State) (x : Regs) : (s.withRegs x).irqs = s.irqs := rfl
@[simp] theorem State.withRegs_commands (s : State) (x : Regs) : (s.withRegs x).commands = s.commands := rfl
@[simp] theorem State.withRegs_a20Writes (s : State) (x : Regs) : (s.withRegs x).a20Writes = s.a20Writes := rfl
@[simp] theorem State.withRegs_events (s : State) (x : Regs) : (s.withRegs x).events = s.events := rfl
@[simp] theorem State.withRegs_draws (s : State) (x : Regs) : (s.withRegs x).draws = s.draws := rfl

/-! ## withEip -/

@[simp] theorem State.withEip_regs (s : State) (v : Word) : (s.withEip v).regs = s.regs := rfl
@[simp] theorem State.withEip_eip (s : State) (v : Word) : (s.withEip v).eip = v := rfl
@[simp] theorem State.withEip_flags (s : State) (v : Word) : (s.withEip v).flags = s.flags := rfl
@[simp] theorem State.withEip_es (s : State) (v : Word) : (s.withEip v).es = s.es := rfl
@[simp] theorem State.withEip_cs (s : State) (v : Word) : (s.withEip v).cs = s.cs := rfl
@[simp] theorem State.withEip_ss (s : State) (v : Word) : (s.withEip v).ss = s.ss := rfl
@[simp] theorem State.withEip_ds (s : State) (v : Word) : (s.withEip v).ds = s.ds := rfl
@[simp] theorem State.withEip_fs (s : State) (v : Word) : (s.withEip v).fs = s.fs := rfl
@[simp] theorem State.withEip_gs (s : State) (v : Word) : (s.withEip v).gs = s.gs := rfl
@[simp] theorem State.withEip_cr0 (s : State) (v : Word) : (s.withEip v).cr0 = s.cr0 := rfl
@[simp] theorem State.withEip_cr2 (s : State) (v : Word) : (s.withEip v).cr2 = s.cr2 := rfl
@[simp] theorem State.withEip_cr3 (s : State) (v : Word) : (s.withEip v).cr3 = s.cr3 := rfl
@[simp] theorem State.withEip_cr4 (s : State) (v : Word) : (s.withEip v).cr4 = s.cr4 := rfl
@[simp] theorem State.withEip_dr (s : State) (v : Word) : (s.withEip v).dr = s.dr := rfl
@[simp] theorem State.withEip_gdtr (s : State) (v : Word) : (s.withEip v).gdtr = s.gdtr := rfl
@[simp] theorem State.withEip_idtr (s : State) (v : Word) : (s.withEip v).idtr = s.idtr := rfl
@[simp] theorem State.withEip_ldtr (s : State) (v : Word) : (s.withEip v).ldtr = s.ldtr := rfl
@[simp] theorem State.withEip_tr (s : State) (v : Word) : (s.withEip v).tr = s.tr := rfl
@[simp] theorem State.withEip_inhibitNext (s : State) (v : Word) : (s.withEip v).inhibitNext = s.inhibitNext := rfl
@[simp] theorem State.withEip_halted (s : State) (v : Word) : (s.withEip v).halted = s.halted := rfl
@[simp] theorem State.withEip_cycles (s : State) (v : Word) : (s.withEip v).cycles = s.cycles := rfl
@[simp] theorem State.withEip_a20 (s : State) (v : Word) : (s.withEip v).a20 = s.a20 := rfl
@[simp] theorem State.withEip_delivering (s : State) (v : Word) : (s.withEip v).delivering = s.delivering := rfl
@[simp] theorem State.withEip_deliveringClass (s : State) (v : Word) : (s.withEip v).deliveringClass = s.deliveringClass := rfl
@[simp] theorem State.withEip_shutdown (s : State) (v : Word) : (s.withEip v).shutdown = s.shutdown := rfl
@[simp] theorem State.withEip_baseCs (s : State) (v : Word) : (s.withEip v).baseCs = s.baseCs := rfl
@[simp] theorem State.withEip_baseEip (s : State) (v : Word) : (s.withEip v).baseEip = s.baseEip := rfl
@[simp] theorem State.withEip_latch (s : State) (v : Word) : (s.withEip v).latch = s.latch := rfl
@[simp] theorem State.withEip_mem (s : State) (v : Word) : (s.withEip v).mem = s.mem := rfl
@[simp] theorem State.withEip_params (s : State) (v : Word) : (s.withEip v).params = s.params := rfl
@[simp] theorem State.withEip_irqs (s : State) (v : Word) : (s.withEip v).irqs = s.irqs := rfl
@[simp] theorem State.withEip_commands (s : State) (v : Word) : (s.withEip v).commands = s.commands := rfl
@[simp] theorem State.withEip_a20Writes (s : State) (v : Word) : (s.withEip v).a20Writes = s.a20Writes := rfl
@[simp] theorem State.withEip_events (s : State) (v : Word) : (s.withEip v).events = s.events := rfl
@[simp] theorem State.withEip_draws (s : State) (v : Word) : (s.withEip v).draws = s.draws := rfl

/-! ## withMem -/

@[simp] theorem State.withMem_regs (s : State) (m : Memory) : (s.withMem m).regs = s.regs := rfl
@[simp] theorem State.withMem_eip (s : State) (m : Memory) : (s.withMem m).eip = s.eip := rfl
@[simp] theorem State.withMem_flags (s : State) (m : Memory) : (s.withMem m).flags = s.flags := rfl
@[simp] theorem State.withMem_es (s : State) (m : Memory) : (s.withMem m).es = s.es := rfl
@[simp] theorem State.withMem_cs (s : State) (m : Memory) : (s.withMem m).cs = s.cs := rfl
@[simp] theorem State.withMem_ss (s : State) (m : Memory) : (s.withMem m).ss = s.ss := rfl
@[simp] theorem State.withMem_ds (s : State) (m : Memory) : (s.withMem m).ds = s.ds := rfl
@[simp] theorem State.withMem_fs (s : State) (m : Memory) : (s.withMem m).fs = s.fs := rfl
@[simp] theorem State.withMem_gs (s : State) (m : Memory) : (s.withMem m).gs = s.gs := rfl
@[simp] theorem State.withMem_cr0 (s : State) (m : Memory) : (s.withMem m).cr0 = s.cr0 := rfl
@[simp] theorem State.withMem_cr2 (s : State) (m : Memory) : (s.withMem m).cr2 = s.cr2 := rfl
@[simp] theorem State.withMem_cr3 (s : State) (m : Memory) : (s.withMem m).cr3 = s.cr3 := rfl
@[simp] theorem State.withMem_cr4 (s : State) (m : Memory) : (s.withMem m).cr4 = s.cr4 := rfl
@[simp] theorem State.withMem_dr (s : State) (m : Memory) : (s.withMem m).dr = s.dr := rfl
@[simp] theorem State.withMem_gdtr (s : State) (m : Memory) : (s.withMem m).gdtr = s.gdtr := rfl
@[simp] theorem State.withMem_idtr (s : State) (m : Memory) : (s.withMem m).idtr = s.idtr := rfl
@[simp] theorem State.withMem_ldtr (s : State) (m : Memory) : (s.withMem m).ldtr = s.ldtr := rfl
@[simp] theorem State.withMem_tr (s : State) (m : Memory) : (s.withMem m).tr = s.tr := rfl
@[simp] theorem State.withMem_inhibitNext (s : State) (m : Memory) : (s.withMem m).inhibitNext = s.inhibitNext := rfl
@[simp] theorem State.withMem_halted (s : State) (m : Memory) : (s.withMem m).halted = s.halted := rfl
@[simp] theorem State.withMem_cycles (s : State) (m : Memory) : (s.withMem m).cycles = s.cycles := rfl
@[simp] theorem State.withMem_a20 (s : State) (m : Memory) : (s.withMem m).a20 = s.a20 := rfl
@[simp] theorem State.withMem_delivering (s : State) (m : Memory) : (s.withMem m).delivering = s.delivering := rfl
@[simp] theorem State.withMem_deliveringClass (s : State) (m : Memory) : (s.withMem m).deliveringClass = s.deliveringClass := rfl
@[simp] theorem State.withMem_shutdown (s : State) (m : Memory) : (s.withMem m).shutdown = s.shutdown := rfl
@[simp] theorem State.withMem_baseCs (s : State) (m : Memory) : (s.withMem m).baseCs = s.baseCs := rfl
@[simp] theorem State.withMem_baseEip (s : State) (m : Memory) : (s.withMem m).baseEip = s.baseEip := rfl
@[simp] theorem State.withMem_latch (s : State) (m : Memory) : (s.withMem m).latch = s.latch := rfl
@[simp] theorem State.withMem_mem (s : State) (m : Memory) : (s.withMem m).mem = m := rfl
@[simp] theorem State.withMem_params (s : State) (m : Memory) : (s.withMem m).params = s.params := rfl
@[simp] theorem State.withMem_irqs (s : State) (m : Memory) : (s.withMem m).irqs = s.irqs := rfl
@[simp] theorem State.withMem_commands (s : State) (m : Memory) : (s.withMem m).commands = s.commands := rfl
@[simp] theorem State.withMem_a20Writes (s : State) (m : Memory) : (s.withMem m).a20Writes = s.a20Writes := rfl
@[simp] theorem State.withMem_events (s : State) (m : Memory) : (s.withMem m).events = s.events := rfl
@[simp] theorem State.withMem_draws (s : State) (m : Memory) : (s.withMem m).draws = s.draws := rfl

/-! ## log -/

@[simp] theorem State.log_regs (s : State) (e : DevEvent) : (s.log e).regs = s.regs := rfl
@[simp] theorem State.log_eip (s : State) (e : DevEvent) : (s.log e).eip = s.eip := rfl
@[simp] theorem State.log_flags (s : State) (e : DevEvent) : (s.log e).flags = s.flags := rfl
@[simp] theorem State.log_es (s : State) (e : DevEvent) : (s.log e).es = s.es := rfl
@[simp] theorem State.log_cs (s : State) (e : DevEvent) : (s.log e).cs = s.cs := rfl
@[simp] theorem State.log_ss (s : State) (e : DevEvent) : (s.log e).ss = s.ss := rfl
@[simp] theorem State.log_ds (s : State) (e : DevEvent) : (s.log e).ds = s.ds := rfl
@[simp] theorem State.log_fs (s : State) (e : DevEvent) : (s.log e).fs = s.fs := rfl
@[simp] theorem State.log_gs (s : State) (e : DevEvent) : (s.log e).gs = s.gs := rfl
@[simp] theorem State.log_cr0 (s : State) (e : DevEvent) : (s.log e).cr0 = s.cr0 := rfl
@[simp] theorem State.log_cr2 (s : State) (e : DevEvent) : (s.log e).cr2 = s.cr2 := rfl
@[simp] theorem State.log_cr3 (s : State) (e : DevEvent) : (s.log e).cr3 = s.cr3 := rfl
@[simp] theorem State.log_cr4 (s : State) (e : DevEvent) : (s.log e).cr4 = s.cr4 := rfl
@[simp] theorem State.log_dr (s : State) (e : DevEvent) : (s.log e).dr = s.dr := rfl
@[simp] theorem State.log_gdtr (s : State) (e : DevEvent) : (s.log e).gdtr = s.gdtr := rfl
@[simp] theorem State.log_idtr (s : State) (e : DevEvent) : (s.log e).idtr = s.idtr := rfl
@[simp] theorem State.log_ldtr (s : State) (e : DevEvent) : (s.log e).ldtr = s.ldtr := rfl
@[simp] theorem State.log_tr (s : State) (e : DevEvent) : (s.log e).tr = s.tr := rfl
@[simp] theorem State.log_inhibitNext (s : State) (e : DevEvent) : (s.log e).inhibitNext = s.inhibitNext := rfl
@[simp] theorem State.log_halted (s : State) (e : DevEvent) : (s.log e).halted = s.halted := rfl
@[simp] theorem State.log_cycles (s : State) (e : DevEvent) : (s.log e).cycles = s.cycles := rfl
@[simp] theorem State.log_a20 (s : State) (e : DevEvent) : (s.log e).a20 = s.a20 := rfl
@[simp] theorem State.log_delivering (s : State) (e : DevEvent) : (s.log e).delivering = s.delivering := rfl
@[simp] theorem State.log_deliveringClass (s : State) (e : DevEvent) : (s.log e).deliveringClass = s.deliveringClass := rfl
@[simp] theorem State.log_shutdown (s : State) (e : DevEvent) : (s.log e).shutdown = s.shutdown := rfl
@[simp] theorem State.log_baseCs (s : State) (e : DevEvent) : (s.log e).baseCs = s.baseCs := rfl
@[simp] theorem State.log_baseEip (s : State) (e : DevEvent) : (s.log e).baseEip = s.baseEip := rfl
@[simp] theorem State.log_latch (s : State) (e : DevEvent) : (s.log e).latch = s.latch := rfl
@[simp] theorem State.log_mem (s : State) (e : DevEvent) : (s.log e).mem = s.mem := rfl
@[simp] theorem State.log_params (s : State) (e : DevEvent) : (s.log e).params = s.params := rfl
@[simp] theorem State.log_irqs (s : State) (e : DevEvent) : (s.log e).irqs = s.irqs := rfl
@[simp] theorem State.log_commands (s : State) (e : DevEvent) : (s.log e).commands = s.commands := rfl
@[simp] theorem State.log_a20Writes (s : State) (e : DevEvent) : (s.log e).a20Writes = s.a20Writes := rfl
@[simp] theorem State.log_events (s : State) (e : DevEvent) : (s.log e).events = e :: s.events := rfl
@[simp] theorem State.log_draws (s : State) (e : DevEvent) : (s.log e).draws = s.draws := rfl

/-! ## withLatch -/

@[simp] theorem State.withLatch_regs (s : State) (l : Latch) : (s.withLatch l).regs = s.regs := rfl
@[simp] theorem State.withLatch_eip (s : State) (l : Latch) : (s.withLatch l).eip = s.eip := rfl
@[simp] theorem State.withLatch_flags (s : State) (l : Latch) : (s.withLatch l).flags = s.flags := rfl
@[simp] theorem State.withLatch_es (s : State) (l : Latch) : (s.withLatch l).es = s.es := rfl
@[simp] theorem State.withLatch_cs (s : State) (l : Latch) : (s.withLatch l).cs = s.cs := rfl
@[simp] theorem State.withLatch_ss (s : State) (l : Latch) : (s.withLatch l).ss = s.ss := rfl
@[simp] theorem State.withLatch_ds (s : State) (l : Latch) : (s.withLatch l).ds = s.ds := rfl
@[simp] theorem State.withLatch_fs (s : State) (l : Latch) : (s.withLatch l).fs = s.fs := rfl
@[simp] theorem State.withLatch_gs (s : State) (l : Latch) : (s.withLatch l).gs = s.gs := rfl
@[simp] theorem State.withLatch_cr0 (s : State) (l : Latch) : (s.withLatch l).cr0 = s.cr0 := rfl
@[simp] theorem State.withLatch_cr2 (s : State) (l : Latch) : (s.withLatch l).cr2 = s.cr2 := rfl
@[simp] theorem State.withLatch_cr3 (s : State) (l : Latch) : (s.withLatch l).cr3 = s.cr3 := rfl
@[simp] theorem State.withLatch_cr4 (s : State) (l : Latch) : (s.withLatch l).cr4 = s.cr4 := rfl
@[simp] theorem State.withLatch_dr (s : State) (l : Latch) : (s.withLatch l).dr = s.dr := rfl
@[simp] theorem State.withLatch_gdtr (s : State) (l : Latch) : (s.withLatch l).gdtr = s.gdtr := rfl
@[simp] theorem State.withLatch_idtr (s : State) (l : Latch) : (s.withLatch l).idtr = s.idtr := rfl
@[simp] theorem State.withLatch_ldtr (s : State) (l : Latch) : (s.withLatch l).ldtr = s.ldtr := rfl
@[simp] theorem State.withLatch_tr (s : State) (l : Latch) : (s.withLatch l).tr = s.tr := rfl
@[simp] theorem State.withLatch_inhibitNext (s : State) (l : Latch) : (s.withLatch l).inhibitNext = s.inhibitNext := rfl
@[simp] theorem State.withLatch_halted (s : State) (l : Latch) : (s.withLatch l).halted = s.halted := rfl
@[simp] theorem State.withLatch_cycles (s : State) (l : Latch) : (s.withLatch l).cycles = s.cycles := rfl
@[simp] theorem State.withLatch_a20 (s : State) (l : Latch) : (s.withLatch l).a20 = s.a20 := rfl
@[simp] theorem State.withLatch_delivering (s : State) (l : Latch) : (s.withLatch l).delivering = s.delivering := rfl
@[simp] theorem State.withLatch_deliveringClass (s : State) (l : Latch) : (s.withLatch l).deliveringClass = s.deliveringClass := rfl
@[simp] theorem State.withLatch_shutdown (s : State) (l : Latch) : (s.withLatch l).shutdown = s.shutdown := rfl
@[simp] theorem State.withLatch_baseCs (s : State) (l : Latch) : (s.withLatch l).baseCs = s.baseCs := rfl
@[simp] theorem State.withLatch_baseEip (s : State) (l : Latch) : (s.withLatch l).baseEip = s.baseEip := rfl
@[simp] theorem State.withLatch_latch (s : State) (l : Latch) : (s.withLatch l).latch = l := rfl
@[simp] theorem State.withLatch_mem (s : State) (l : Latch) : (s.withLatch l).mem = s.mem := rfl
@[simp] theorem State.withLatch_params (s : State) (l : Latch) : (s.withLatch l).params = s.params := rfl
@[simp] theorem State.withLatch_irqs (s : State) (l : Latch) : (s.withLatch l).irqs = s.irqs := rfl
@[simp] theorem State.withLatch_commands (s : State) (l : Latch) : (s.withLatch l).commands = s.commands := rfl
@[simp] theorem State.withLatch_a20Writes (s : State) (l : Latch) : (s.withLatch l).a20Writes = s.a20Writes := rfl
@[simp] theorem State.withLatch_events (s : State) (l : Latch) : (s.withLatch l).events = s.events := rfl
@[simp] theorem State.withLatch_draws (s : State) (l : Latch) : (s.withLatch l).draws = s.draws := rfl

/-! ## count -/

@[simp] theorem State.count_regs (s : State) : (s.count).regs = s.regs := rfl
@[simp] theorem State.count_eip (s : State) : (s.count).eip = s.eip := rfl
@[simp] theorem State.count_flags (s : State) : (s.count).flags = s.flags := rfl
@[simp] theorem State.count_es (s : State) : (s.count).es = s.es := rfl
@[simp] theorem State.count_cs (s : State) : (s.count).cs = s.cs := rfl
@[simp] theorem State.count_ss (s : State) : (s.count).ss = s.ss := rfl
@[simp] theorem State.count_ds (s : State) : (s.count).ds = s.ds := rfl
@[simp] theorem State.count_fs (s : State) : (s.count).fs = s.fs := rfl
@[simp] theorem State.count_gs (s : State) : (s.count).gs = s.gs := rfl
@[simp] theorem State.count_cr0 (s : State) : (s.count).cr0 = s.cr0 := rfl
@[simp] theorem State.count_cr2 (s : State) : (s.count).cr2 = s.cr2 := rfl
@[simp] theorem State.count_cr3 (s : State) : (s.count).cr3 = s.cr3 := rfl
@[simp] theorem State.count_cr4 (s : State) : (s.count).cr4 = s.cr4 := rfl
@[simp] theorem State.count_dr (s : State) : (s.count).dr = s.dr := rfl
@[simp] theorem State.count_gdtr (s : State) : (s.count).gdtr = s.gdtr := rfl
@[simp] theorem State.count_idtr (s : State) : (s.count).idtr = s.idtr := rfl
@[simp] theorem State.count_ldtr (s : State) : (s.count).ldtr = s.ldtr := rfl
@[simp] theorem State.count_tr (s : State) : (s.count).tr = s.tr := rfl
@[simp] theorem State.count_inhibitNext (s : State) : (s.count).inhibitNext = s.inhibitNext := rfl
@[simp] theorem State.count_halted (s : State) : (s.count).halted = s.halted := rfl
@[simp] theorem State.count_cycles (s : State) : (s.count).cycles = s.cycles + 1 := rfl
@[simp] theorem State.count_a20 (s : State) : (s.count).a20 = s.a20 := rfl
@[simp] theorem State.count_delivering (s : State) : (s.count).delivering = s.delivering := rfl
@[simp] theorem State.count_deliveringClass (s : State) : (s.count).deliveringClass = s.deliveringClass := rfl
@[simp] theorem State.count_shutdown (s : State) : (s.count).shutdown = s.shutdown := rfl
@[simp] theorem State.count_baseCs (s : State) : (s.count).baseCs = s.baseCs := rfl
@[simp] theorem State.count_baseEip (s : State) : (s.count).baseEip = s.baseEip := rfl
@[simp] theorem State.count_latch (s : State) : (s.count).latch = s.latch := rfl
@[simp] theorem State.count_mem (s : State) : (s.count).mem = s.mem := rfl
@[simp] theorem State.count_params (s : State) : (s.count).params = s.params := rfl
@[simp] theorem State.count_irqs (s : State) : (s.count).irqs = s.irqs := rfl
@[simp] theorem State.count_commands (s : State) : (s.count).commands = s.commands := rfl
@[simp] theorem State.count_a20Writes (s : State) : (s.count).a20Writes = s.a20Writes := rfl
@[simp] theorem State.count_events (s : State) : (s.count).events = s.events := rfl
@[simp] theorem State.count_draws (s : State) : (s.count).draws = s.draws := rfl

/-! ## deliverOn -/

@[simp] theorem State.deliverOn_regs (s : State) (b : Bool) (c : EventClass) : (s.deliverOn b c).regs = s.regs := rfl
@[simp] theorem State.deliverOn_eip (s : State) (b : Bool) (c : EventClass) : (s.deliverOn b c).eip = s.eip := rfl
@[simp] theorem State.deliverOn_flags (s : State) (b : Bool) (c : EventClass) : (s.deliverOn b c).flags = s.flags := rfl
@[simp] theorem State.deliverOn_es (s : State) (b : Bool) (c : EventClass) : (s.deliverOn b c).es = s.es := rfl
@[simp] theorem State.deliverOn_cs (s : State) (b : Bool) (c : EventClass) : (s.deliverOn b c).cs = s.cs := rfl
@[simp] theorem State.deliverOn_ss (s : State) (b : Bool) (c : EventClass) : (s.deliverOn b c).ss = s.ss := rfl
@[simp] theorem State.deliverOn_ds (s : State) (b : Bool) (c : EventClass) : (s.deliverOn b c).ds = s.ds := rfl
@[simp] theorem State.deliverOn_fs (s : State) (b : Bool) (c : EventClass) : (s.deliverOn b c).fs = s.fs := rfl
@[simp] theorem State.deliverOn_gs (s : State) (b : Bool) (c : EventClass) : (s.deliverOn b c).gs = s.gs := rfl
@[simp] theorem State.deliverOn_cr0 (s : State) (b : Bool) (c : EventClass) : (s.deliverOn b c).cr0 = s.cr0 := rfl
@[simp] theorem State.deliverOn_cr2 (s : State) (b : Bool) (c : EventClass) : (s.deliverOn b c).cr2 = s.cr2 := rfl
@[simp] theorem State.deliverOn_cr3 (s : State) (b : Bool) (c : EventClass) : (s.deliverOn b c).cr3 = s.cr3 := rfl
@[simp] theorem State.deliverOn_cr4 (s : State) (b : Bool) (c : EventClass) : (s.deliverOn b c).cr4 = s.cr4 := rfl
@[simp] theorem State.deliverOn_dr (s : State) (b : Bool) (c : EventClass) : (s.deliverOn b c).dr = s.dr := rfl
@[simp] theorem State.deliverOn_gdtr (s : State) (b : Bool) (c : EventClass) : (s.deliverOn b c).gdtr = s.gdtr := rfl
@[simp] theorem State.deliverOn_idtr (s : State) (b : Bool) (c : EventClass) : (s.deliverOn b c).idtr = s.idtr := rfl
@[simp] theorem State.deliverOn_ldtr (s : State) (b : Bool) (c : EventClass) : (s.deliverOn b c).ldtr = s.ldtr := rfl
@[simp] theorem State.deliverOn_tr (s : State) (b : Bool) (c : EventClass) : (s.deliverOn b c).tr = s.tr := rfl
@[simp] theorem State.deliverOn_inhibitNext (s : State) (b : Bool) (c : EventClass) : (s.deliverOn b c).inhibitNext = s.inhibitNext := rfl
@[simp] theorem State.deliverOn_halted (s : State) (b : Bool) (c : EventClass) : (s.deliverOn b c).halted = s.halted := rfl
@[simp] theorem State.deliverOn_cycles (s : State) (b : Bool) (c : EventClass) : (s.deliverOn b c).cycles = s.cycles := rfl
@[simp] theorem State.deliverOn_a20 (s : State) (b : Bool) (c : EventClass) : (s.deliverOn b c).a20 = s.a20 := rfl
@[simp] theorem State.deliverOn_delivering (s : State) (b : Bool) (c : EventClass) : (s.deliverOn b c).delivering = b := rfl
@[simp] theorem State.deliverOn_deliveringClass (s : State) (b : Bool) (c : EventClass) : (s.deliverOn b c).deliveringClass = c := rfl
@[simp] theorem State.deliverOn_shutdown (s : State) (b : Bool) (c : EventClass) : (s.deliverOn b c).shutdown = s.shutdown := rfl
@[simp] theorem State.deliverOn_baseCs (s : State) (b : Bool) (c : EventClass) : (s.deliverOn b c).baseCs = s.baseCs := rfl
@[simp] theorem State.deliverOn_baseEip (s : State) (b : Bool) (c : EventClass) : (s.deliverOn b c).baseEip = s.baseEip := rfl
@[simp] theorem State.deliverOn_latch (s : State) (b : Bool) (c : EventClass) : (s.deliverOn b c).latch = s.latch := rfl
@[simp] theorem State.deliverOn_mem (s : State) (b : Bool) (c : EventClass) : (s.deliverOn b c).mem = s.mem := rfl
@[simp] theorem State.deliverOn_params (s : State) (b : Bool) (c : EventClass) : (s.deliverOn b c).params = s.params := rfl
@[simp] theorem State.deliverOn_irqs (s : State) (b : Bool) (c : EventClass) : (s.deliverOn b c).irqs = s.irqs := rfl
@[simp] theorem State.deliverOn_commands (s : State) (b : Bool) (c : EventClass) : (s.deliverOn b c).commands = s.commands := rfl
@[simp] theorem State.deliverOn_a20Writes (s : State) (b : Bool) (c : EventClass) : (s.deliverOn b c).a20Writes = s.a20Writes := rfl
@[simp] theorem State.deliverOn_events (s : State) (b : Bool) (c : EventClass) : (s.deliverOn b c).events = s.events := rfl
@[simp] theorem State.deliverOn_draws (s : State) (b : Bool) (c : EventClass) : (s.deliverOn b c).draws = s.draws := rfl

/-! ## shutDown -/

@[simp] theorem State.shutDown_regs (s : State) : (s.shutDown).regs = s.regs := rfl
@[simp] theorem State.shutDown_eip (s : State) : (s.shutDown).eip = s.eip := rfl
@[simp] theorem State.shutDown_flags (s : State) : (s.shutDown).flags = s.flags := rfl
@[simp] theorem State.shutDown_es (s : State) : (s.shutDown).es = s.es := rfl
@[simp] theorem State.shutDown_cs (s : State) : (s.shutDown).cs = s.cs := rfl
@[simp] theorem State.shutDown_ss (s : State) : (s.shutDown).ss = s.ss := rfl
@[simp] theorem State.shutDown_ds (s : State) : (s.shutDown).ds = s.ds := rfl
@[simp] theorem State.shutDown_fs (s : State) : (s.shutDown).fs = s.fs := rfl
@[simp] theorem State.shutDown_gs (s : State) : (s.shutDown).gs = s.gs := rfl
@[simp] theorem State.shutDown_cr0 (s : State) : (s.shutDown).cr0 = s.cr0 := rfl
@[simp] theorem State.shutDown_cr2 (s : State) : (s.shutDown).cr2 = s.cr2 := rfl
@[simp] theorem State.shutDown_cr3 (s : State) : (s.shutDown).cr3 = s.cr3 := rfl
@[simp] theorem State.shutDown_cr4 (s : State) : (s.shutDown).cr4 = s.cr4 := rfl
@[simp] theorem State.shutDown_dr (s : State) : (s.shutDown).dr = s.dr := rfl
@[simp] theorem State.shutDown_gdtr (s : State) : (s.shutDown).gdtr = s.gdtr := rfl
@[simp] theorem State.shutDown_idtr (s : State) : (s.shutDown).idtr = s.idtr := rfl
@[simp] theorem State.shutDown_ldtr (s : State) : (s.shutDown).ldtr = s.ldtr := rfl
@[simp] theorem State.shutDown_tr (s : State) : (s.shutDown).tr = s.tr := rfl
@[simp] theorem State.shutDown_inhibitNext (s : State) : (s.shutDown).inhibitNext = s.inhibitNext := rfl
@[simp] theorem State.shutDown_halted (s : State) : (s.shutDown).halted = s.halted := rfl
@[simp] theorem State.shutDown_cycles (s : State) : (s.shutDown).cycles = s.cycles := rfl
@[simp] theorem State.shutDown_a20 (s : State) : (s.shutDown).a20 = s.a20 := rfl
@[simp] theorem State.shutDown_delivering (s : State) : (s.shutDown).delivering = s.delivering := rfl
@[simp] theorem State.shutDown_deliveringClass (s : State) : (s.shutDown).deliveringClass = s.deliveringClass := rfl
@[simp] theorem State.shutDown_shutdown (s : State) : (s.shutDown).shutdown = true := rfl
@[simp] theorem State.shutDown_baseCs (s : State) : (s.shutDown).baseCs = s.baseCs := rfl
@[simp] theorem State.shutDown_baseEip (s : State) : (s.shutDown).baseEip = s.baseEip := rfl
@[simp] theorem State.shutDown_latch (s : State) : (s.shutDown).latch = s.latch := rfl
@[simp] theorem State.shutDown_mem (s : State) : (s.shutDown).mem = s.mem := rfl
@[simp] theorem State.shutDown_params (s : State) : (s.shutDown).params = s.params := rfl
@[simp] theorem State.shutDown_irqs (s : State) : (s.shutDown).irqs = s.irqs := rfl
@[simp] theorem State.shutDown_commands (s : State) : (s.shutDown).commands = s.commands := rfl
@[simp] theorem State.shutDown_a20Writes (s : State) : (s.shutDown).a20Writes = s.a20Writes := rfl
@[simp] theorem State.shutDown_events (s : State) : (s.shutDown).events = s.events := rfl
@[simp] theorem State.shutDown_draws (s : State) : (s.shutDown).draws = s.draws := rfl

/-! ## uninhibit -/

@[simp] theorem State.uninhibit_regs (s : State) : (s.uninhibit).regs = s.regs := rfl
@[simp] theorem State.uninhibit_eip (s : State) : (s.uninhibit).eip = s.eip := rfl
@[simp] theorem State.uninhibit_flags (s : State) : (s.uninhibit).flags = s.flags := rfl
@[simp] theorem State.uninhibit_es (s : State) : (s.uninhibit).es = s.es := rfl
@[simp] theorem State.uninhibit_cs (s : State) : (s.uninhibit).cs = s.cs := rfl
@[simp] theorem State.uninhibit_ss (s : State) : (s.uninhibit).ss = s.ss := rfl
@[simp] theorem State.uninhibit_ds (s : State) : (s.uninhibit).ds = s.ds := rfl
@[simp] theorem State.uninhibit_fs (s : State) : (s.uninhibit).fs = s.fs := rfl
@[simp] theorem State.uninhibit_gs (s : State) : (s.uninhibit).gs = s.gs := rfl
@[simp] theorem State.uninhibit_cr0 (s : State) : (s.uninhibit).cr0 = s.cr0 := rfl
@[simp] theorem State.uninhibit_cr2 (s : State) : (s.uninhibit).cr2 = s.cr2 := rfl
@[simp] theorem State.uninhibit_cr3 (s : State) : (s.uninhibit).cr3 = s.cr3 := rfl
@[simp] theorem State.uninhibit_cr4 (s : State) : (s.uninhibit).cr4 = s.cr4 := rfl
@[simp] theorem State.uninhibit_dr (s : State) : (s.uninhibit).dr = s.dr := rfl
@[simp] theorem State.uninhibit_gdtr (s : State) : (s.uninhibit).gdtr = s.gdtr := rfl
@[simp] theorem State.uninhibit_idtr (s : State) : (s.uninhibit).idtr = s.idtr := rfl
@[simp] theorem State.uninhibit_ldtr (s : State) : (s.uninhibit).ldtr = s.ldtr := rfl
@[simp] theorem State.uninhibit_tr (s : State) : (s.uninhibit).tr = s.tr := rfl
@[simp] theorem State.uninhibit_inhibitNext (s : State) : (s.uninhibit).inhibitNext = false := rfl
@[simp] theorem State.uninhibit_halted (s : State) : (s.uninhibit).halted = s.halted := rfl
@[simp] theorem State.uninhibit_cycles (s : State) : (s.uninhibit).cycles = s.cycles := rfl
@[simp] theorem State.uninhibit_a20 (s : State) : (s.uninhibit).a20 = s.a20 := rfl
@[simp] theorem State.uninhibit_delivering (s : State) : (s.uninhibit).delivering = s.delivering := rfl
@[simp] theorem State.uninhibit_deliveringClass (s : State) : (s.uninhibit).deliveringClass = s.deliveringClass := rfl
@[simp] theorem State.uninhibit_shutdown (s : State) : (s.uninhibit).shutdown = s.shutdown := rfl
@[simp] theorem State.uninhibit_baseCs (s : State) : (s.uninhibit).baseCs = s.baseCs := rfl
@[simp] theorem State.uninhibit_baseEip (s : State) : (s.uninhibit).baseEip = s.baseEip := rfl
@[simp] theorem State.uninhibit_latch (s : State) : (s.uninhibit).latch = s.latch := rfl
@[simp] theorem State.uninhibit_mem (s : State) : (s.uninhibit).mem = s.mem := rfl
@[simp] theorem State.uninhibit_params (s : State) : (s.uninhibit).params = s.params := rfl
@[simp] theorem State.uninhibit_irqs (s : State) : (s.uninhibit).irqs = s.irqs := rfl
@[simp] theorem State.uninhibit_commands (s : State) : (s.uninhibit).commands = s.commands := rfl
@[simp] theorem State.uninhibit_a20Writes (s : State) : (s.uninhibit).a20Writes = s.a20Writes := rfl
@[simp] theorem State.uninhibit_events (s : State) : (s.uninhibit).events = s.events := rfl
@[simp] theorem State.uninhibit_draws (s : State) : (s.uninhibit).draws = s.draws := rfl

/-! ## wake -/

@[simp] theorem State.wake_regs (s : State) : (s.wake).regs = s.regs := rfl
@[simp] theorem State.wake_eip (s : State) : (s.wake).eip = s.eip := rfl
@[simp] theorem State.wake_flags (s : State) : (s.wake).flags = s.flags := rfl
@[simp] theorem State.wake_es (s : State) : (s.wake).es = s.es := rfl
@[simp] theorem State.wake_cs (s : State) : (s.wake).cs = s.cs := rfl
@[simp] theorem State.wake_ss (s : State) : (s.wake).ss = s.ss := rfl
@[simp] theorem State.wake_ds (s : State) : (s.wake).ds = s.ds := rfl
@[simp] theorem State.wake_fs (s : State) : (s.wake).fs = s.fs := rfl
@[simp] theorem State.wake_gs (s : State) : (s.wake).gs = s.gs := rfl
@[simp] theorem State.wake_cr0 (s : State) : (s.wake).cr0 = s.cr0 := rfl
@[simp] theorem State.wake_cr2 (s : State) : (s.wake).cr2 = s.cr2 := rfl
@[simp] theorem State.wake_cr3 (s : State) : (s.wake).cr3 = s.cr3 := rfl
@[simp] theorem State.wake_cr4 (s : State) : (s.wake).cr4 = s.cr4 := rfl
@[simp] theorem State.wake_dr (s : State) : (s.wake).dr = s.dr := rfl
@[simp] theorem State.wake_gdtr (s : State) : (s.wake).gdtr = s.gdtr := rfl
@[simp] theorem State.wake_idtr (s : State) : (s.wake).idtr = s.idtr := rfl
@[simp] theorem State.wake_ldtr (s : State) : (s.wake).ldtr = s.ldtr := rfl
@[simp] theorem State.wake_tr (s : State) : (s.wake).tr = s.tr := rfl
@[simp] theorem State.wake_inhibitNext (s : State) : (s.wake).inhibitNext = s.inhibitNext := rfl
@[simp] theorem State.wake_halted (s : State) : (s.wake).halted = false := rfl
@[simp] theorem State.wake_cycles (s : State) : (s.wake).cycles = s.cycles := rfl
@[simp] theorem State.wake_a20 (s : State) : (s.wake).a20 = s.a20 := rfl
@[simp] theorem State.wake_delivering (s : State) : (s.wake).delivering = s.delivering := rfl
@[simp] theorem State.wake_deliveringClass (s : State) : (s.wake).deliveringClass = s.deliveringClass := rfl
@[simp] theorem State.wake_shutdown (s : State) : (s.wake).shutdown = s.shutdown := rfl
@[simp] theorem State.wake_baseCs (s : State) : (s.wake).baseCs = s.baseCs := rfl
@[simp] theorem State.wake_baseEip (s : State) : (s.wake).baseEip = s.baseEip := rfl
@[simp] theorem State.wake_latch (s : State) : (s.wake).latch = s.latch := rfl
@[simp] theorem State.wake_mem (s : State) : (s.wake).mem = s.mem := rfl
@[simp] theorem State.wake_params (s : State) : (s.wake).params = s.params := rfl
@[simp] theorem State.wake_irqs (s : State) : (s.wake).irqs = s.irqs := rfl
@[simp] theorem State.wake_commands (s : State) : (s.wake).commands = s.commands := rfl
@[simp] theorem State.wake_a20Writes (s : State) : (s.wake).a20Writes = s.a20Writes := rfl
@[simp] theorem State.wake_events (s : State) : (s.wake).events = s.events := rfl
@[simp] theorem State.wake_draws (s : State) : (s.wake).draws = s.draws := rfl

/-! ## popIrq -/

@[simp] theorem State.popIrq_regs (s : State) : (s.popIrq).regs = s.regs := rfl
@[simp] theorem State.popIrq_eip (s : State) : (s.popIrq).eip = s.eip := rfl
@[simp] theorem State.popIrq_flags (s : State) : (s.popIrq).flags = s.flags := rfl
@[simp] theorem State.popIrq_es (s : State) : (s.popIrq).es = s.es := rfl
@[simp] theorem State.popIrq_cs (s : State) : (s.popIrq).cs = s.cs := rfl
@[simp] theorem State.popIrq_ss (s : State) : (s.popIrq).ss = s.ss := rfl
@[simp] theorem State.popIrq_ds (s : State) : (s.popIrq).ds = s.ds := rfl
@[simp] theorem State.popIrq_fs (s : State) : (s.popIrq).fs = s.fs := rfl
@[simp] theorem State.popIrq_gs (s : State) : (s.popIrq).gs = s.gs := rfl
@[simp] theorem State.popIrq_cr0 (s : State) : (s.popIrq).cr0 = s.cr0 := rfl
@[simp] theorem State.popIrq_cr2 (s : State) : (s.popIrq).cr2 = s.cr2 := rfl
@[simp] theorem State.popIrq_cr3 (s : State) : (s.popIrq).cr3 = s.cr3 := rfl
@[simp] theorem State.popIrq_cr4 (s : State) : (s.popIrq).cr4 = s.cr4 := rfl
@[simp] theorem State.popIrq_dr (s : State) : (s.popIrq).dr = s.dr := rfl
@[simp] theorem State.popIrq_gdtr (s : State) : (s.popIrq).gdtr = s.gdtr := rfl
@[simp] theorem State.popIrq_idtr (s : State) : (s.popIrq).idtr = s.idtr := rfl
@[simp] theorem State.popIrq_ldtr (s : State) : (s.popIrq).ldtr = s.ldtr := rfl
@[simp] theorem State.popIrq_tr (s : State) : (s.popIrq).tr = s.tr := rfl
@[simp] theorem State.popIrq_inhibitNext (s : State) : (s.popIrq).inhibitNext = s.inhibitNext := rfl
@[simp] theorem State.popIrq_halted (s : State) : (s.popIrq).halted = s.halted := rfl
@[simp] theorem State.popIrq_cycles (s : State) : (s.popIrq).cycles = s.cycles := rfl
@[simp] theorem State.popIrq_a20 (s : State) : (s.popIrq).a20 = s.a20 := rfl
@[simp] theorem State.popIrq_delivering (s : State) : (s.popIrq).delivering = s.delivering := rfl
@[simp] theorem State.popIrq_deliveringClass (s : State) : (s.popIrq).deliveringClass = s.deliveringClass := rfl
@[simp] theorem State.popIrq_shutdown (s : State) : (s.popIrq).shutdown = s.shutdown := rfl
@[simp] theorem State.popIrq_baseCs (s : State) : (s.popIrq).baseCs = s.baseCs := rfl
@[simp] theorem State.popIrq_baseEip (s : State) : (s.popIrq).baseEip = s.baseEip := rfl
@[simp] theorem State.popIrq_latch (s : State) : (s.popIrq).latch = s.latch := rfl
@[simp] theorem State.popIrq_mem (s : State) : (s.popIrq).mem = s.mem := rfl
@[simp] theorem State.popIrq_params (s : State) : (s.popIrq).params = s.params := rfl
@[simp] theorem State.popIrq_irqs (s : State) : (s.popIrq).irqs = s.irqs.tail := rfl
@[simp] theorem State.popIrq_commands (s : State) : (s.popIrq).commands = s.commands := rfl
@[simp] theorem State.popIrq_a20Writes (s : State) : (s.popIrq).a20Writes = s.a20Writes := rfl
@[simp] theorem State.popIrq_events (s : State) : (s.popIrq).events = s.events := rfl
@[simp] theorem State.popIrq_draws (s : State) : (s.popIrq).draws = s.draws := rfl

/-! ## popCommand -/

@[simp] theorem State.popCommand_regs (s : State) : (s.popCommand).regs = s.regs := rfl
@[simp] theorem State.popCommand_eip (s : State) : (s.popCommand).eip = s.eip := rfl
@[simp] theorem State.popCommand_flags (s : State) : (s.popCommand).flags = s.flags := rfl
@[simp] theorem State.popCommand_es (s : State) : (s.popCommand).es = s.es := rfl
@[simp] theorem State.popCommand_cs (s : State) : (s.popCommand).cs = s.cs := rfl
@[simp] theorem State.popCommand_ss (s : State) : (s.popCommand).ss = s.ss := rfl
@[simp] theorem State.popCommand_ds (s : State) : (s.popCommand).ds = s.ds := rfl
@[simp] theorem State.popCommand_fs (s : State) : (s.popCommand).fs = s.fs := rfl
@[simp] theorem State.popCommand_gs (s : State) : (s.popCommand).gs = s.gs := rfl
@[simp] theorem State.popCommand_cr0 (s : State) : (s.popCommand).cr0 = s.cr0 := rfl
@[simp] theorem State.popCommand_cr2 (s : State) : (s.popCommand).cr2 = s.cr2 := rfl
@[simp] theorem State.popCommand_cr3 (s : State) : (s.popCommand).cr3 = s.cr3 := rfl
@[simp] theorem State.popCommand_cr4 (s : State) : (s.popCommand).cr4 = s.cr4 := rfl
@[simp] theorem State.popCommand_dr (s : State) : (s.popCommand).dr = s.dr := rfl
@[simp] theorem State.popCommand_gdtr (s : State) : (s.popCommand).gdtr = s.gdtr := rfl
@[simp] theorem State.popCommand_idtr (s : State) : (s.popCommand).idtr = s.idtr := rfl
@[simp] theorem State.popCommand_ldtr (s : State) : (s.popCommand).ldtr = s.ldtr := rfl
@[simp] theorem State.popCommand_tr (s : State) : (s.popCommand).tr = s.tr := rfl
@[simp] theorem State.popCommand_inhibitNext (s : State) : (s.popCommand).inhibitNext = s.inhibitNext := rfl
@[simp] theorem State.popCommand_halted (s : State) : (s.popCommand).halted = s.halted := rfl
@[simp] theorem State.popCommand_cycles (s : State) : (s.popCommand).cycles = s.cycles := rfl
@[simp] theorem State.popCommand_a20 (s : State) : (s.popCommand).a20 = s.a20 := rfl
@[simp] theorem State.popCommand_delivering (s : State) : (s.popCommand).delivering = s.delivering := rfl
@[simp] theorem State.popCommand_deliveringClass (s : State) : (s.popCommand).deliveringClass = s.deliveringClass := rfl
@[simp] theorem State.popCommand_shutdown (s : State) : (s.popCommand).shutdown = s.shutdown := rfl
@[simp] theorem State.popCommand_baseCs (s : State) : (s.popCommand).baseCs = s.baseCs := rfl
@[simp] theorem State.popCommand_baseEip (s : State) : (s.popCommand).baseEip = s.baseEip := rfl
@[simp] theorem State.popCommand_latch (s : State) : (s.popCommand).latch = s.latch := rfl
@[simp] theorem State.popCommand_mem (s : State) : (s.popCommand).mem = s.mem := rfl
@[simp] theorem State.popCommand_params (s : State) : (s.popCommand).params = s.params := rfl
@[simp] theorem State.popCommand_irqs (s : State) : (s.popCommand).irqs = s.irqs := rfl
@[simp] theorem State.popCommand_commands (s : State) : (s.popCommand).commands = s.commands.tail := rfl
@[simp] theorem State.popCommand_a20Writes (s : State) : (s.popCommand).a20Writes = s.a20Writes := rfl
@[simp] theorem State.popCommand_events (s : State) : (s.popCommand).events = s.events := rfl
@[simp] theorem State.popCommand_draws (s : State) : (s.popCommand).draws = s.draws := rfl

/-! ## Registers -/

@[simp] theorem State.putReg_eq (s : State) (sz : Size) (r : Reg) (v : Word) :
    s.putReg sz r v = s.withRegs (s.regs.put sz r v) := rfl

@[simp] theorem State.putReg8_eq (s : State) (r : Reg8) (v : Word) : s.putReg8 r v = s.withRegs (s.regs.set8 r v) := rfl

@[simp] theorem Regs.get_set_same (x : Regs) (r : Reg) (v : Word) : (x.set r v).get r = v := by cases r <;> rfl

theorem Regs.get_set_other (x : Regs) (r r' : Reg) (v : Word) (h : r' ≠ r) : (x.set r v).get r' = x.get r' := by
  cases r <;> cases r' <;> first | rfl | exact absurd rfl h

@[simp] theorem DebugRegs.get_set_same (x : DebugRegs) (n : DReg) (v : Word) : (x.set n v).get n = v := by cases n <;> rfl

theorem DebugRegs.get_set_other (x : DebugRegs) (n n' : DReg) (v : Word) (h : n' ≠ n) : (x.set n v).get n' = x.get n' := by
  cases n <;> cases n' <;> first | rfl | exact absurd rfl h

/-! ## Segment and control registers -/

@[simp] theorem State.seg_setSeg_same (s : State) (g : SReg) (v : SegReg) : (s.setSeg g v).seg g = v := by cases g <;> rfl

theorem State.seg_setSeg_other (s : State) (g g' : SReg) (v : SegReg) (h : g' ≠ g) : (s.setSeg g v).seg g' = s.seg g' := by
  cases g <;> cases g' <;> first | rfl | exact absurd rfl h

@[simp] theorem State.getCr_setCr_same (s : State) (n : CReg) (v : Word) : (s.setCr n v).getCr n = v := by cases n <;> rfl

theorem State.getCr_setCr_other (s : State) (n n' : CReg) (v : Word) (h : n' ≠ n) : (s.setCr n v).getCr n' = s.getCr n' := by
  cases n <;> cases n' <;> first | rfl | exact absurd rfl h

@[simp] theorem State.setSeg_regs (s : State) (g : SReg) (v : SegReg) : (s.setSeg g v).regs = s.regs := by cases g <;> rfl
@[simp] theorem State.setSeg_eip (s : State) (g : SReg) (v : SegReg) : (s.setSeg g v).eip = s.eip := by cases g <;> rfl
@[simp] theorem State.setSeg_flags (s : State) (g : SReg) (v : SegReg) : (s.setSeg g v).flags = s.flags := by cases g <;> rfl
@[simp] theorem State.setSeg_cr0 (s : State) (g : SReg) (v : SegReg) : (s.setSeg g v).cr0 = s.cr0 := by cases g <;> rfl
@[simp] theorem State.setSeg_cr2 (s : State) (g : SReg) (v : SegReg) : (s.setSeg g v).cr2 = s.cr2 := by cases g <;> rfl
@[simp] theorem State.setSeg_cr3 (s : State) (g : SReg) (v : SegReg) : (s.setSeg g v).cr3 = s.cr3 := by cases g <;> rfl
@[simp] theorem State.setSeg_cr4 (s : State) (g : SReg) (v : SegReg) : (s.setSeg g v).cr4 = s.cr4 := by cases g <;> rfl
@[simp] theorem State.setSeg_dr (s : State) (g : SReg) (v : SegReg) : (s.setSeg g v).dr = s.dr := by cases g <;> rfl
@[simp] theorem State.setSeg_gdtr (s : State) (g : SReg) (v : SegReg) : (s.setSeg g v).gdtr = s.gdtr := by cases g <;> rfl
@[simp] theorem State.setSeg_idtr (s : State) (g : SReg) (v : SegReg) : (s.setSeg g v).idtr = s.idtr := by cases g <;> rfl
@[simp] theorem State.setSeg_ldtr (s : State) (g : SReg) (v : SegReg) : (s.setSeg g v).ldtr = s.ldtr := by cases g <;> rfl
@[simp] theorem State.setSeg_tr (s : State) (g : SReg) (v : SegReg) : (s.setSeg g v).tr = s.tr := by cases g <;> rfl
@[simp] theorem State.setSeg_inhibitNext (s : State) (g : SReg) (v : SegReg) : (s.setSeg g v).inhibitNext = s.inhibitNext := by cases g <;> rfl
@[simp] theorem State.setSeg_halted (s : State) (g : SReg) (v : SegReg) : (s.setSeg g v).halted = s.halted := by cases g <;> rfl
@[simp] theorem State.setSeg_cycles (s : State) (g : SReg) (v : SegReg) : (s.setSeg g v).cycles = s.cycles := by cases g <;> rfl
@[simp] theorem State.setSeg_a20 (s : State) (g : SReg) (v : SegReg) : (s.setSeg g v).a20 = s.a20 := by cases g <;> rfl
@[simp] theorem State.setSeg_delivering (s : State) (g : SReg) (v : SegReg) : (s.setSeg g v).delivering = s.delivering := by cases g <;> rfl
@[simp] theorem State.setSeg_deliveringClass (s : State) (g : SReg) (v : SegReg) : (s.setSeg g v).deliveringClass = s.deliveringClass := by cases g <;> rfl
@[simp] theorem State.setSeg_shutdown (s : State) (g : SReg) (v : SegReg) : (s.setSeg g v).shutdown = s.shutdown := by cases g <;> rfl
@[simp] theorem State.setSeg_baseCs (s : State) (g : SReg) (v : SegReg) : (s.setSeg g v).baseCs = s.baseCs := by cases g <;> rfl
@[simp] theorem State.setSeg_baseEip (s : State) (g : SReg) (v : SegReg) : (s.setSeg g v).baseEip = s.baseEip := by cases g <;> rfl
@[simp] theorem State.setSeg_latch (s : State) (g : SReg) (v : SegReg) : (s.setSeg g v).latch = s.latch := by cases g <;> rfl
@[simp] theorem State.setSeg_mem (s : State) (g : SReg) (v : SegReg) : (s.setSeg g v).mem = s.mem := by cases g <;> rfl
@[simp] theorem State.setSeg_params (s : State) (g : SReg) (v : SegReg) : (s.setSeg g v).params = s.params := by cases g <;> rfl
@[simp] theorem State.setSeg_irqs (s : State) (g : SReg) (v : SegReg) : (s.setSeg g v).irqs = s.irqs := by cases g <;> rfl
@[simp] theorem State.setSeg_commands (s : State) (g : SReg) (v : SegReg) : (s.setSeg g v).commands = s.commands := by cases g <;> rfl
@[simp] theorem State.setSeg_a20Writes (s : State) (g : SReg) (v : SegReg) : (s.setSeg g v).a20Writes = s.a20Writes := by cases g <;> rfl
@[simp] theorem State.setSeg_events (s : State) (g : SReg) (v : SegReg) : (s.setSeg g v).events = s.events := by cases g <;> rfl
@[simp] theorem State.setSeg_draws (s : State) (g : SReg) (v : SegReg) : (s.setSeg g v).draws = s.draws := by cases g <;> rfl

@[simp] theorem State.setCr_regs (s : State) (n : CReg) (v : Word) : (s.setCr n v).regs = s.regs := by cases n <;> rfl
@[simp] theorem State.setCr_eip (s : State) (n : CReg) (v : Word) : (s.setCr n v).eip = s.eip := by cases n <;> rfl
@[simp] theorem State.setCr_flags (s : State) (n : CReg) (v : Word) : (s.setCr n v).flags = s.flags := by cases n <;> rfl
@[simp] theorem State.setCr_es (s : State) (n : CReg) (v : Word) : (s.setCr n v).es = s.es := by cases n <;> rfl
@[simp] theorem State.setCr_cs (s : State) (n : CReg) (v : Word) : (s.setCr n v).cs = s.cs := by cases n <;> rfl
@[simp] theorem State.setCr_ss (s : State) (n : CReg) (v : Word) : (s.setCr n v).ss = s.ss := by cases n <;> rfl
@[simp] theorem State.setCr_ds (s : State) (n : CReg) (v : Word) : (s.setCr n v).ds = s.ds := by cases n <;> rfl
@[simp] theorem State.setCr_fs (s : State) (n : CReg) (v : Word) : (s.setCr n v).fs = s.fs := by cases n <;> rfl
@[simp] theorem State.setCr_gs (s : State) (n : CReg) (v : Word) : (s.setCr n v).gs = s.gs := by cases n <;> rfl
@[simp] theorem State.setCr_dr (s : State) (n : CReg) (v : Word) : (s.setCr n v).dr = s.dr := by cases n <;> rfl
@[simp] theorem State.setCr_gdtr (s : State) (n : CReg) (v : Word) : (s.setCr n v).gdtr = s.gdtr := by cases n <;> rfl
@[simp] theorem State.setCr_idtr (s : State) (n : CReg) (v : Word) : (s.setCr n v).idtr = s.idtr := by cases n <;> rfl
@[simp] theorem State.setCr_ldtr (s : State) (n : CReg) (v : Word) : (s.setCr n v).ldtr = s.ldtr := by cases n <;> rfl
@[simp] theorem State.setCr_tr (s : State) (n : CReg) (v : Word) : (s.setCr n v).tr = s.tr := by cases n <;> rfl
@[simp] theorem State.setCr_inhibitNext (s : State) (n : CReg) (v : Word) : (s.setCr n v).inhibitNext = s.inhibitNext := by cases n <;> rfl
@[simp] theorem State.setCr_halted (s : State) (n : CReg) (v : Word) : (s.setCr n v).halted = s.halted := by cases n <;> rfl
@[simp] theorem State.setCr_cycles (s : State) (n : CReg) (v : Word) : (s.setCr n v).cycles = s.cycles := by cases n <;> rfl
@[simp] theorem State.setCr_a20 (s : State) (n : CReg) (v : Word) : (s.setCr n v).a20 = s.a20 := by cases n <;> rfl
@[simp] theorem State.setCr_delivering (s : State) (n : CReg) (v : Word) : (s.setCr n v).delivering = s.delivering := by cases n <;> rfl
@[simp] theorem State.setCr_deliveringClass (s : State) (n : CReg) (v : Word) : (s.setCr n v).deliveringClass = s.deliveringClass := by cases n <;> rfl
@[simp] theorem State.setCr_shutdown (s : State) (n : CReg) (v : Word) : (s.setCr n v).shutdown = s.shutdown := by cases n <;> rfl
@[simp] theorem State.setCr_baseCs (s : State) (n : CReg) (v : Word) : (s.setCr n v).baseCs = s.baseCs := by cases n <;> rfl
@[simp] theorem State.setCr_baseEip (s : State) (n : CReg) (v : Word) : (s.setCr n v).baseEip = s.baseEip := by cases n <;> rfl
@[simp] theorem State.setCr_latch (s : State) (n : CReg) (v : Word) : (s.setCr n v).latch = s.latch := by cases n <;> rfl
@[simp] theorem State.setCr_mem (s : State) (n : CReg) (v : Word) : (s.setCr n v).mem = s.mem := by cases n <;> rfl
@[simp] theorem State.setCr_params (s : State) (n : CReg) (v : Word) : (s.setCr n v).params = s.params := by cases n <;> rfl
@[simp] theorem State.setCr_irqs (s : State) (n : CReg) (v : Word) : (s.setCr n v).irqs = s.irqs := by cases n <;> rfl
@[simp] theorem State.setCr_commands (s : State) (n : CReg) (v : Word) : (s.setCr n v).commands = s.commands := by cases n <;> rfl
@[simp] theorem State.setCr_a20Writes (s : State) (n : CReg) (v : Word) : (s.setCr n v).a20Writes = s.a20Writes := by cases n <;> rfl
@[simp] theorem State.setCr_events (s : State) (n : CReg) (v : Word) : (s.setCr n v).events = s.events := by cases n <;> rfl
@[simp] theorem State.setCr_draws (s : State) (n : CReg) (v : Word) : (s.setCr n v).draws = s.draws := by cases n <;> rfl

end Sys2Proof.Machine
end

