-- ==== Sys2Proof/Tests/Slice0.lean ====
section
/-! SUPPORT. The model's own tests: ill-formed terms are refused; every row of spec/opcode_table.json decodes from bytes
written out from the table; vectors of spec/95_test_vectors.md, each one step on a small state; and for every statement with
hypotheses a named state that meets them. The tests are checked one after the other: each kernel evaluation in flight takes a
thread of its own. -/

namespace Sys2Proof.Tests

set_option Elab.async false

open Sys2Proof Sys2Proof.Machine

/-! ## Ill-formed terms -/

/-- A BP base without a displacement is the encoding of the offset alone (spec/30_encoding.md R148). -/
theorem test_bp_base_needs_displacement :
    (Instr.movRvRmv .o16 .eax (.mem { seg := none, addr := .base16 .bp .none })).wf = false ∧
      (Instr.movRm8Imm8 (.mem { seg := none, addr := .base16 .bp .none }) 0).wf = false ∧
      (Instr.movRvRmv .o16 .eax (.mem { seg := none, addr := .base16 .bp (.d8 0) })).wf = true := by decide

/-- An EBP base without a displacement is the encoding of no base (spec/30_encoding.md R149, R150). -/
theorem test_ebp_base_needs_displacement :
    (Instr.lea .o32 .eax { seg := none, addr := .base32 .ebp none .none }).wf = false ∧
      (Instr.lea .o32 .eax { seg := none, addr := .base32 .ebp (some (.esi, .x2)) .none }).wf = false ∧
      (Instr.lea .o32 .eax { seg := none, addr := .base32 .ebp none (.d8 0) }).wf = true := by decide

/-- CS is not loaded by MOV (spec/30_encoding.md R160). -/
theorem test_mov_to_cs_is_ill_formed :
    (Instr.movSregRm16 .cs (.reg .eax)).wf = false ∧ (Instr.movSregRm16 .ds (.reg .eax)).wf = true := by decide

/-! ## Decoding: bytes from the table's match, mask and operand columns -/

/-- 16-bit code in real mode. -/
def real16 : DecodeCtx := { db := false, pe := false, latch := Latch.empty }

/-- 16-bit code in protected mode. -/
def prot16 : DecodeCtx := { db := false, pe := true, latch := Latch.empty }

/-- 32-bit code in protected mode. -/
def prot32 : DecodeCtx := { db := true, pe := true, latch := Latch.empty }

/-- Each byte sequence decodes to its instruction, with nothing left. -/
def decodesTo (c : DecodeCtx) (rows : List (List Byte × Instr)) : Bool := rows.all fun r => decode c r.1 == .ok r.2 []

theorem test_decode_add_adc_sub_sbb_cmp_1 : decodesTo real16 [
    ([0x00, 0xE9], .addRm8R8 (.reg .cl) .ch),
    ([0x01, 0xE9], .addRmvRv .o16 (.reg .ecx) .ebp),
    ([0x02, 0xE9], .addR8Rm8 .ch (.reg .cl)),
    ([0x03, 0xE9], .addRvRmv .o16 .ebp (.reg .ecx)),
    ([0x04, 0x95], .addAlImm8 0x95),
    ([0x05, 0x34, 0x12], .addEaxImmv (.i16 0x1234)),
    ([0x80, 0xC1, 0x95], .addRm8Imm8 (.reg .cl) 0x95),
    ([0x81, 0xC1, 0x34, 0x12], .addRmvImmv (.reg .ecx) (.i16 0x1234)),
    ([0x83, 0xC1, 0x95], .addRmvSx8 .o16 (.reg .ecx) 0x95),
    ([0x10, 0xE9], .adcRm8R8 (.reg .cl) .ch),
    ([0x11, 0xE9], .adcRmvRv .o16 (.reg .ecx) .ebp),
    ([0x12, 0xE9], .adcR8Rm8 .ch (.reg .cl)),
    ([0x13, 0xE9], .adcRvRmv .o16 .ebp (.reg .ecx)),
    ([0x14, 0x95], .adcAlImm8 0x95),
    ([0x15, 0x34, 0x12], .adcEaxImmv (.i16 0x1234)),
    ([0x80, 0xD1, 0x95], .adcRm8Imm8 (.reg .cl) 0x95),
    ([0x81, 0xD1, 0x34, 0x12], .adcRmvImmv (.reg .ecx) (.i16 0x1234)),
    ([0x83, 0xD1, 0x95], .adcRmvSx8 .o16 (.reg .ecx) 0x95),
    ([0x18, 0xE9], .sbbRm8R8 (.reg .cl) .ch),
    ([0x19, 0xE9], .sbbRmvRv .o16 (.reg .ecx) .ebp),
    ([0x1A, 0xE9], .sbbR8Rm8 .ch (.reg .cl)),
    ([0x1B, 0xE9], .sbbRvRmv .o16 .ebp (.reg .ecx)),
    ([0x1C, 0x95], .sbbAlImm8 0x95),
    ([0x1D, 0x34, 0x12], .sbbEaxImmv (.i16 0x1234))] = true := by decide +kernel

theorem test_decode_add_adc_sub_sbb_cmp_2 : decodesTo real16 [
    ([0x80, 0xD9, 0x95], .sbbRm8Imm8 (.reg .cl) 0x95),
    ([0x81, 0xD9, 0x34, 0x12], .sbbRmvImmv (.reg .ecx) (.i16 0x1234)),
    ([0x83, 0xD9, 0x95], .sbbRmvSx8 .o16 (.reg .ecx) 0x95),
    ([0x28, 0xE9], .subRm8R8 (.reg .cl) .ch),
    ([0x29, 0xE9], .subRmvRv .o16 (.reg .ecx) .ebp),
    ([0x2A, 0xE9], .subR8Rm8 .ch (.reg .cl)),
    ([0x2B, 0xE9], .subRvRmv .o16 .ebp (.reg .ecx)),
    ([0x2C, 0x95], .subAlImm8 0x95),
    ([0x2D, 0x34, 0x12], .subEaxImmv (.i16 0x1234)),
    ([0x80, 0xE9, 0x95], .subRm8Imm8 (.reg .cl) 0x95),
    ([0x81, 0xE9, 0x34, 0x12], .subRmvImmv (.reg .ecx) (.i16 0x1234)),
    ([0x83, 0xE9, 0x95], .subRmvSx8 .o16 (.reg .ecx) 0x95),
    ([0x38, 0xE9], .cmpRm8R8 (.reg .cl) .ch),
    ([0x39, 0xE9], .cmpRmvRv .o16 (.reg .ecx) .ebp),
    ([0x3A, 0xE9], .cmpR8Rm8 .ch (.reg .cl)),
    ([0x3B, 0xE9], .cmpRvRmv .o16 .ebp (.reg .ecx)),
    ([0x3C, 0x95], .cmpAlImm8 0x95),
    ([0x3D, 0x34, 0x12], .cmpEaxImmv (.i16 0x1234)),
    ([0x80, 0xF9, 0x95], .cmpRm8Imm8 (.reg .cl) 0x95),
    ([0x81, 0xF9, 0x34, 0x12], .cmpRmvImmv (.reg .ecx) (.i16 0x1234)),
    ([0x83, 0xF9, 0x95], .cmpRmvSx8 .o16 (.reg .ecx) 0x95)] = true := by decide +kernel

theorem test_decode_and_or_xor_test_not_1 : decodesTo real16 [
    ([0x08, 0xE9], .orRm8R8 (.reg .cl) .ch),
    ([0x09, 0xE9], .orRmvRv .o16 (.reg .ecx) .ebp),
    ([0x0A, 0xE9], .orR8Rm8 .ch (.reg .cl)),
    ([0x0B, 0xE9], .orRvRmv .o16 .ebp (.reg .ecx)),
    ([0x0C, 0x95], .orAlImm8 0x95),
    ([0x0D, 0x34, 0x12], .orEaxImmv (.i16 0x1234)),
    ([0x80, 0xC9, 0x95], .orRm8Imm8 (.reg .cl) 0x95),
    ([0x81, 0xC9, 0x34, 0x12], .orRmvImmv (.reg .ecx) (.i16 0x1234)),
    ([0x83, 0xC9, 0x95], .orRmvSx8 .o16 (.reg .ecx) 0x95),
    ([0x20, 0xE9], .andRm8R8 (.reg .cl) .ch),
    ([0x21, 0xE9], .andRmvRv .o16 (.reg .ecx) .ebp),
    ([0x22, 0xE9], .andR8Rm8 .ch (.reg .cl)),
    ([0x23, 0xE9], .andRvRmv .o16 .ebp (.reg .ecx)),
    ([0x24, 0x95], .andAlImm8 0x95),
    ([0x25, 0x34, 0x12], .andEaxImmv (.i16 0x1234)),
    ([0x80, 0xE1, 0x95], .andRm8Imm8 (.reg .cl) 0x95),
    ([0x81, 0xE1, 0x34, 0x12], .andRmvImmv (.reg .ecx) (.i16 0x1234)),
    ([0x83, 0xE1, 0x95], .andRmvSx8 .o16 (.reg .ecx) 0x95),
    ([0x30, 0xE9], .xorRm8R8 (.reg .cl) .ch),
    ([0x31, 0xE9], .xorRmvRv .o16 (.reg .ecx) .ebp),
    ([0x32, 0xE9], .xorR8Rm8 .ch (.reg .cl)),
    ([0x33, 0xE9], .xorRvRmv .o16 .ebp (.reg .ecx)),
    ([0x34, 0x95], .xorAlImm8 0x95),
    ([0x35, 0x34, 0x12], .xorEaxImmv (.i16 0x1234))] = true := by decide +kernel

theorem test_decode_and_or_xor_test_not_2 : decodesTo real16 [
    ([0x80, 0xF1, 0x95], .xorRm8Imm8 (.reg .cl) 0x95),
    ([0x81, 0xF1, 0x34, 0x12], .xorRmvImmv (.reg .ecx) (.i16 0x1234)),
    ([0x83, 0xF1, 0x95], .xorRmvSx8 .o16 (.reg .ecx) 0x95),
    ([0xF6, 0xC1, 0x95], .testRm8Imm8 (.reg .cl) 0x95),
    ([0xF7, 0xC1, 0x34, 0x12], .testRmvImmv (.reg .ecx) (.i16 0x1234)),
    ([0xF6, 0xD1], .notRm8 (.reg .cl)),
    ([0xF7, 0xD1], .notRmv .o16 (.reg .ecx)),
    ([0x84, 0xE9], .testRm8R8 (.reg .cl) .ch),
    ([0x85, 0xE9], .testRmvRv .o16 (.reg .ecx) .ebp),
    ([0xA8, 0x95], .testAlImm8 0x95),
    ([0xA9, 0x34, 0x12], .testEaxImmv (.i16 0x1234))] = true := by decide +kernel

theorem test_decode_inc_dec_neg : decodesTo real16 [
    ([0x43], .incRv .o16 .ebx),
    ([0xFE, 0xC1], .incRm8 (.reg .cl)),
    ([0xFF, 0xC1], .incRmv .o16 (.reg .ecx)),
    ([0x4B], .decRv .o16 .ebx),
    ([0xFE, 0xC9], .decRm8 (.reg .cl)),
    ([0xFF, 0xC9], .decRmv .o16 (.reg .ecx)),
    ([0xF6, 0xD9], .negRm8 (.reg .cl)),
    ([0xF7, 0xD9], .negRmv .o16 (.reg .ecx))] = true := by decide +kernel

theorem test_decode_multiply_divide : decodesTo real16 [
    ([0xF6, 0xE1], .mulRm8 (.reg .cl)),
    ([0xF7, 0xE1], .mulRmv .o16 (.reg .ecx)),
    ([0xF6, 0xE9], .imulRm8 (.reg .cl)),
    ([0xF7, 0xE9], .imulRmv .o16 (.reg .ecx)),
    ([0xF6, 0xF1], .divRm8 (.reg .cl)),
    ([0xF7, 0xF1], .divRmv .o16 (.reg .ecx)),
    ([0xF6, 0xF9], .idivRm8 (.reg .cl)),
    ([0xF7, 0xF9], .idivRmv .o16 (.reg .ecx)),
    ([0x0F, 0xAF, 0xE9], .imulRvRmv .o16 .ebp (.reg .ecx)),
    ([0x69, 0xE9, 0x34, 0x12], .imulRvRmvImmv .ebp (.reg .ecx) (.i16 0x1234)),
    ([0x6B, 0xE9, 0x95], .imulRvRmvSx8 .o16 .ebp (.reg .ecx) 0x95),
    ([0x98], .cbwCwde .o16),
    ([0x99], .cwdCdq .o16)] = true := by decide +kernel

theorem test_decode_shifts_and_rotates_1 : decodesTo real16 [
    ([0xC0, 0xC1, 0x95], .rolRm8Imm8 (.reg .cl) 0x95),
    ([0xC1, 0xC1, 0x95], .rolRmvImm8 .o16 (.reg .ecx) 0x95),
    ([0xD0, 0xC1], .rolRm8One (.reg .cl)),
    ([0xD1, 0xC1], .rolRmvOne .o16 (.reg .ecx)),
    ([0xD2, 0xC1], .rolRm8Cl (.reg .cl)),
    ([0xD3, 0xC1], .rolRmvCl .o16 (.reg .ecx)),
    ([0xC0, 0xC9, 0x95], .rorRm8Imm8 (.reg .cl) 0x95),
    ([0xC1, 0xC9, 0x95], .rorRmvImm8 .o16 (.reg .ecx) 0x95),
    ([0xD0, 0xC9], .rorRm8One (.reg .cl)),
    ([0xD1, 0xC9], .rorRmvOne .o16 (.reg .ecx)),
    ([0xD2, 0xC9], .rorRm8Cl (.reg .cl)),
    ([0xD3, 0xC9], .rorRmvCl .o16 (.reg .ecx)),
    ([0xC0, 0xD1, 0x95], .rclRm8Imm8 (.reg .cl) 0x95),
    ([0xC1, 0xD1, 0x95], .rclRmvImm8 .o16 (.reg .ecx) 0x95),
    ([0xD0, 0xD1], .rclRm8One (.reg .cl)),
    ([0xD1, 0xD1], .rclRmvOne .o16 (.reg .ecx)),
    ([0xD2, 0xD1], .rclRm8Cl (.reg .cl)),
    ([0xD3, 0xD1], .rclRmvCl .o16 (.reg .ecx)),
    ([0xC0, 0xD9, 0x95], .rcrRm8Imm8 (.reg .cl) 0x95),
    ([0xC1, 0xD9, 0x95], .rcrRmvImm8 .o16 (.reg .ecx) 0x95),
    ([0xD0, 0xD9], .rcrRm8One (.reg .cl)),
    ([0xD1, 0xD9], .rcrRmvOne .o16 (.reg .ecx)),
    ([0xD2, 0xD9], .rcrRm8Cl (.reg .cl)),
    ([0xD3, 0xD9], .rcrRmvCl .o16 (.reg .ecx))] = true := by decide +kernel

theorem test_decode_shifts_and_rotates_2 : decodesTo real16 [
    ([0xC0, 0xE1, 0x95], .shlRm8Imm8 (.reg .cl) 0x95),
    ([0xC1, 0xE1, 0x95], .shlRmvImm8 .o16 (.reg .ecx) 0x95),
    ([0xD0, 0xE1], .shlRm8One (.reg .cl)),
    ([0xD1, 0xE1], .shlRmvOne .o16 (.reg .ecx)),
    ([0xD2, 0xE1], .shlRm8Cl (.reg .cl)),
    ([0xD3, 0xE1], .shlRmvCl .o16 (.reg .ecx)),
    ([0xC0, 0xE9, 0x95], .shrRm8Imm8 (.reg .cl) 0x95),
    ([0xC1, 0xE9, 0x95], .shrRmvImm8 .o16 (.reg .ecx) 0x95),
    ([0xD0, 0xE9], .shrRm8One (.reg .cl)),
    ([0xD1, 0xE9], .shrRmvOne .o16 (.reg .ecx)),
    ([0xD2, 0xE9], .shrRm8Cl (.reg .cl)),
    ([0xD3, 0xE9], .shrRmvCl .o16 (.reg .ecx)),
    ([0xC0, 0xF9, 0x95], .sarRm8Imm8 (.reg .cl) 0x95),
    ([0xC1, 0xF9, 0x95], .sarRmvImm8 .o16 (.reg .ecx) 0x95),
    ([0xD0, 0xF9], .sarRm8One (.reg .cl)),
    ([0xD1, 0xF9], .sarRmvOne .o16 (.reg .ecx)),
    ([0xD2, 0xF9], .sarRm8Cl (.reg .cl)),
    ([0xD3, 0xF9], .sarRmvCl .o16 (.reg .ecx))] = true := by decide +kernel

theorem test_decode_decimal : decodesTo real16 [
    ([0x27], .daa),
    ([0x2F], .das),
    ([0x37], .aaa),
    ([0x3F], .aas),
    ([0xD4, 0x95], .aam 0x95),
    ([0xD5, 0x95], .aad 0x95)] = true := by decide +kernel

theorem test_decode_moves : decodesTo real16 [
    ([0x88, 0xE9], .movRm8R8 (.reg .cl) .ch),
    ([0x89, 0xE9], .movRmvRv .o16 (.reg .ecx) .ebp),
    ([0x8A, 0xE9], .movR8Rm8 .ch (.reg .cl)),
    ([0x8B, 0xE9], .movRvRmv .o16 .ebp (.reg .ecx)),
    ([0xB3, 0x95], .movR8Imm8 .bl 0x95),
    ([0xBB, 0x34, 0x12], .movRvImmv .ebx (.i16 0x1234)),
    ([0xC6, 0xC1, 0x95], .movRm8Imm8 (.reg .cl) 0x95),
    ([0xC7, 0xC1, 0x34, 0x12], .movRmvImmv (.reg .ecx) (.i16 0x1234)),
    ([0xA0, 0x34, 0x12], .movAlMoffs none (.a16 0x1234)),
    ([0xA1, 0x34, 0x12], .movEaxMoffs .o16 none (.a16 0x1234)),
    ([0xA2, 0x34, 0x12], .movMoffsAl none (.a16 0x1234)),
    ([0xA3, 0x34, 0x12], .movMoffsEax .o16 none (.a16 0x1234)),
    ([0x8C, 0xE9], .movRm16Sreg .o16 (.reg .ecx) .gs),
    ([0x8E, 0xE9], .movSregRm16 .gs (.reg .ecx)),
    ([0x8D, 0x6E, 0x12], .lea .o16 .ebp { seg := none, addr := .base16 .bp (.d8 0x12) }),
    ([0x90], .nop)] = true := by decide +kernel

theorem test_decode_pushes_and_pops : decodesTo real16 [
    ([0x53], .pushRv .o16 .ebx),
    ([0x5B], .popRv .o16 .ebx),
    ([0x68, 0x34, 0x12], .pushImmv (.i16 0x1234)),
    ([0x6A, 0x95], .pushSx8 .o16 0x95),
    ([0x06], .pushEs .o16),
    ([0x0E], .pushCs .o16),
    ([0x16], .pushSs .o16),
    ([0x1E], .pushDs .o16),
    ([0x0F, 0xA0], .pushFs .o16),
    ([0x0F, 0xA8], .pushGs .o16),
    ([0x07], .popEs .o16),
    ([0x17], .popSs .o16),
    ([0x1F], .popDs .o16),
    ([0x0F, 0xA1], .popFs .o16),
    ([0x0F, 0xA9], .popGs .o16),
    ([0x60], .pusha .o16),
    ([0x61], .popa .o16),
    ([0x9C], .pushf .o16),
    ([0x9D], .popf .o16)] = true := by decide +kernel

theorem test_decode_flag_operations : decodesTo real16 [
    ([0x9F], .lahf),
    ([0x9E], .sahf),
    ([0xF8], .clc),
    ([0xF9], .stc),
    ([0xF5], .cmc),
    ([0xFC], .cld),
    ([0xFD], .std),
    ([0xFA], .cli),
    ([0xFB], .sti)] = true := by decide +kernel

theorem test_decode_jumps_1 : decodesTo real16 [
    ([0xEB, 0x95], .jmpRel8 .o16 0x95),
    ([0xE9, 0x34, 0x12], .jmpRelv (.i16 0x1234)),
    ([0xFF, 0xE1], .jmpRmv .o16 (.reg .ecx)),
    ([0x70, 0x95], .joRel8 .o16 0x95),
    ([0x71, 0x95], .jnoRel8 .o16 0x95),
    ([0x72, 0x95], .jbRel8 .o16 0x95),
    ([0x73, 0x95], .jaeRel8 .o16 0x95),
    ([0x74, 0x95], .jeRel8 .o16 0x95),
    ([0x75, 0x95], .jneRel8 .o16 0x95),
    ([0x76, 0x95], .jbeRel8 .o16 0x95),
    ([0x77, 0x95], .jaRel8 .o16 0x95),
    ([0x78, 0x95], .jsRel8 .o16 0x95),
    ([0x79, 0x95], .jnsRel8 .o16 0x95),
    ([0x7A, 0x95], .jpRel8 .o16 0x95),
    ([0x7B, 0x95], .jnpRel8 .o16 0x95),
    ([0x7C, 0x95], .jlRel8 .o16 0x95),
    ([0x7D, 0x95], .jgeRel8 .o16 0x95),
    ([0x7E, 0x95], .jleRel8 .o16 0x95),
    ([0x7F, 0x95], .jgRel8 .o16 0x95),
    ([0x0F, 0x80, 0x34, 0x12], .joRelv (.i16 0x1234)),
    ([0x0F, 0x81, 0x34, 0x12], .jnoRelv (.i16 0x1234)),
    ([0x0F, 0x82, 0x34, 0x12], .jbRelv (.i16 0x1234)),
    ([0x0F, 0x83, 0x34, 0x12], .jaeRelv (.i16 0x1234)),
    ([0x0F, 0x84, 0x34, 0x12], .jeRelv (.i16 0x1234))] = true := by decide +kernel

theorem test_decode_jumps_2 : decodesTo real16 [
    ([0x0F, 0x85, 0x34, 0x12], .jneRelv (.i16 0x1234)),
    ([0x0F, 0x86, 0x34, 0x12], .jbeRelv (.i16 0x1234)),
    ([0x0F, 0x87, 0x34, 0x12], .jaRelv (.i16 0x1234)),
    ([0x0F, 0x88, 0x34, 0x12], .jsRelv (.i16 0x1234)),
    ([0x0F, 0x89, 0x34, 0x12], .jnsRelv (.i16 0x1234)),
    ([0x0F, 0x8A, 0x34, 0x12], .jpRelv (.i16 0x1234)),
    ([0x0F, 0x8B, 0x34, 0x12], .jnpRelv (.i16 0x1234)),
    ([0x0F, 0x8C, 0x34, 0x12], .jlRelv (.i16 0x1234)),
    ([0x0F, 0x8D, 0x34, 0x12], .jgeRelv (.i16 0x1234)),
    ([0x0F, 0x8E, 0x34, 0x12], .jleRelv (.i16 0x1234)),
    ([0x0F, 0x8F, 0x34, 0x12], .jgRelv (.i16 0x1234)),
    ([0xEA, 0x34, 0x12, 0x78, 0x56], .jmpFar (.i16 0x1234) 0x5678)] = true := by decide +kernel

theorem test_decode_calls_and_returns : decodesTo real16 [
    ([0xE8, 0x34, 0x12], .callRelv (.i16 0x1234)),
    ([0xFF, 0xD1], .callRmv .o16 (.reg .ecx)),
    ([0x9A, 0x34, 0x12, 0x78, 0x56], .callFar (.i16 0x1234) 0x5678),
    ([0xC3], .ret .o16),
    ([0xC2, 0x34, 0x12], .retImm16 .o16 0x1234),
    ([0xCB], .retf .o16),
    ([0xCA, 0x34, 0x12], .retfImm16 .o16 0x1234)] = true := by decide +kernel

theorem test_decode_interrupts : decodesTo real16 [
    ([0xCF], .iret .o16),
    ([0xCD, 0x95], .int 0x95),
    ([0xCC], .int3),
    ([0xCE], .into)] = true := by decide +kernel

theorem test_decode_system : decodesTo real16 [
    ([0xF4], .hlt),
    ([0x0F, 0x01, 0x56, 0x12], .lgdt .o16 { seg := none, addr := .base16 .bp (.d8 0x12) }),
    ([0x0F, 0x01, 0x5E, 0x12], .lidt .o16 { seg := none, addr := .base16 .bp (.d8 0x12) }),
    ([0x0F, 0x20, 0xD1], .movR32Cr .ecx .cr2),
    ([0x0F, 0x22, 0xD1], .movCrR32 .cr2 .ecx),
    ([0x0F, 0x21, 0xD1], .movR32Dr .ecx .dr2),
    ([0x0F, 0x23, 0xD1], .movDrR32 .dr2 .ecx),
    ([0x0F, 0x06], .clts)] = true := by decide +kernel

theorem test_decode_ports_and_bound : decodesTo real16 [
    ([0xE4, 0x95], .inAlImm8 0x95),
    ([0xE5, 0x95], .inEaxImm8 .o16 0x95),
    ([0xEC], .inAlDx),
    ([0xED], .inEaxDx .o16),
    ([0xE6, 0x95], .outImm8Al 0x95),
    ([0xE7, 0x95], .outImm8Eax .o16 0x95),
    ([0xEE], .outDxAl),
    ([0xEF], .outDxEax .o16),
    ([0x62, 0x6E, 0x12], .bound .o16 .ebp { seg := none, addr := .base16 .bp (.d8 0x12) })] = true := by decide +kernel

theorem test_decode_protected_mode_only : decodesTo prot16 [
    ([0x0F, 0x00, 0xD1], .lldt (.reg .ecx)),
    ([0x0F, 0x00, 0xD9], .ltr (.reg .ecx))] = true := by decide +kernel

/-- The eleven prefix bytes (spec/30_encoding.md R141). -/
theorem test_decode_prefixes :
    ([(0x26, .prefixEs), (0x2E, .prefixCs), (0x36, .prefixSs), (0x3E, .prefixDs), (0x64, .prefixFs), (0x65, .prefixGs),
        (0x66, .prefixOpsize), (0x67, .prefixAddrsize), (0xF0, .prefixLock), (0xF2, .prefixRepne), (0xF3, .prefixRep)]
          : List (Byte × Instr)).all (fun r => (decodeOne real16).run [r.1] == .ok r.2 []) = true := by decide +kernel

/-- spec/95_test_vectors.md section 2.1, 16-bit code: sizes, 16-bit addresses, overrides. -/
theorem test_decode_addresses_16 : decodesTo real16 [
    ([0x66, 0xB8, 0x78, 0x56, 0x34, 0x12], .movRvImmv .eax (.i32 0x12345678)),
    ([0x8B, 0x46, 0xFE], .movRvRmv .o16 .eax (.mem { seg := none, addr := .base16 .bp (.d8 0xFE) })),
    ([0x8B, 0x06, 0x34, 0x12], .movRvRmv .o16 .eax (.mem { seg := none, addr := .abs16 0x1234 })),
    ([0x8B, 0x84, 0x00, 0x01], .movRvRmv .o16 .eax (.mem { seg := none, addr := .base16 .si (.d16 0x0100) })),
    ([0x26, 0x8B, 0x07], .movRvRmv .o16 .eax (.mem { seg := some .es, addr := .base16 .bx .none })),
    ([0x67, 0x8B, 0x04, 0x24], .movRvRmv .o16 .eax (.mem { seg := none, addr := .base32 .esp none .none })),
    ([0xF0, 0xF3, 0x01, 0xC8], .addRmvRv .o16 (.reg .eax) .ecx),
    (List.replicate 14 0x26 ++ [0x90], .nop)] = true := by decide +kernel

/-- spec/95_test_vectors.md section 2.1, 32-bit code. -/
theorem test_decode_addresses_32 : decodesTo prot32 [
    ([0x66, 0xB8, 0x34, 0x12], .movRvImmv .eax (.i16 0x1234)),
    ([0x8B, 0x05, 0x78, 0x56, 0x34, 0x12], .movRvRmv .o32 .eax (.mem { seg := none, addr := .abs32 none 0x12345678 })),
    ([0x8B, 0x04, 0x8D, 0x00, 0x10, 0x00, 0x00],
      .movRvRmv .o32 .eax (.mem { seg := none, addr := .abs32 (some (.ecx, .x4)) 0x1000 })),
    ([0x8B, 0x44, 0x24, 0x04], .movRvRmv .o32 .eax (.mem { seg := none, addr := .base32 .esp none (.d8 4) })),
    ([0x8B, 0x45, 0x08], .movRvRmv .o32 .eax (.mem { seg := none, addr := .base32 .ebp none (.d8 8) }))]
      = true := by decide +kernel

/-- spec/95_test_vectors.md section 2.1: the encodings that are invalid, too long, or refused. -/
theorem test_decode_rejects :
    decode real16 [0x8E, 0xC8] = .invalid ∧ decode real16 [0x0F, 0x20, 0xC8] = .invalid ∧
      decode real16 [0x0F, 0x01, 0xD0] = .invalid ∧ decode real16 [0x0F, 0x00, 0xD0] = .invalid ∧
      decode real16 [0xD8, 0xC0] = .refused .opcodeNotAdmitted ∧
      decode real16 [0x82, 0xC0, 0x01] = .refused .opcodeNotAdmitted ∧
      decode real16 [0xA4] = .refused .opcodeNotAdmitted ∧
      decode real16 (List.replicate 15 0x26 ++ [0x90]) = .tooLong := by decide +kernel

/-! ## The states the tests start from -/

/-- Real mode at 0000:0100 with the stack pointer 0x1000. -/
def real : State :=
  let s := State.resetWith { Params.default with entryPoint := some (0, 0x0100) }
  { s with regs := { s.regs with esp := 0x1000 } }

/-- s with bytes placed at a physical address. -/
def put (s : State) (a : Nat) : List Byte → State
  | [] => s
  | b :: bs => put (s.withMem (s.mem.write a b)) (a + 1) bs

/-- s with the accumulator, EBX and CF set. -/
def withAB (s : State) (a b : Word) (c : Bool) : State :=
  { s with regs := { s.regs with eax := a, ebx := b }, flags := { s.flags with cf := c } }

/-- The next state, if there is one. -/
def next? : Host.Outcome State Fault Refusal → Option State
  | .next s => some s
  | .fault _ => none
  | .refused _ => none

/-- The next state of one step at CS:EIP = 0000:EIP with the bytes placed there. -/
def stepOn (s : State) (bs : List Byte) : Option State := next? (step (put s s.eip.toNat bs))

/-- CF PF AF ZF SF OF as expected, 2 standing for a free value (the vectors' D). -/
def flagsAre (f : Flags) (expected : List Nat) : Bool :=
  (List.zip expected f.status).all fun p => p.1 == 2 || (p.1 == 1) == p.2

/-- The 32-bit little-endian value at a physical address. -/
def dword (s : State) (a : Nat) : Word := s.half (a + 2) ++ s.half a

/-! ## Vectors of spec/95_test_vectors.md sections 2.3 to 2.7

A row: width, first operand (accumulator), second operand, CF before, result, flags after. -/

/-- The row of vectors of one operation. -/
abbrev Row := Size × Word × Word × Bool × Word × List Nat

/-- A two-register instruction of each width. -/
def twoRegs (op8 : Rm8 → Reg8 → Instr) (opv : OSize → Rm → Reg → Instr) : Size → Word → Instr
  | .b, _ => op8 (.reg .al) .bl
  | .w, _ => opv .o16 (.reg .eax) .ebx
  | .d, _ => opv .o32 (.reg .eax) .ebx

/-- A one-register instruction of each width. -/
def oneReg (op8 : Rm8 → Instr) (opv : OSize → Rm → Instr) : Size → Word → Instr
  | .b, _ => op8 (.reg .al)
  | .w, _ => opv .o16 (.reg .eax)
  | .d, _ => opv .o32 (.reg .eax)

/-- A shift or rotate by an immediate count of each width. -/
def byCount (op8 : Rm8 → Byte → Instr) (opv : OSize → Rm → Byte → Instr) : Size → Word → Instr
  | .b, n => op8 (.reg .al) (n.setWidth 8)
  | .w, n => opv .o16 (.reg .eax) (n.setWidth 8)
  | .d, n => opv .o32 (.reg .eax) (n.setWidth 8)

/-- Every row of a table holds of the instruction it names. -/
def holds (i : Size → Word → Instr) (rows : List Row) : Bool :=
  rows.all fun (sz, a, b, c, r, f) =>
    (next? (exec (i sz b) (withAB real a b c))).any fun t => t.regs.eax == r && flagsAre t.flags f

theorem test_add_vectors : holds (twoRegs .addRm8R8 .addRmvRv) [
    (.b, 0xFF, 0x01, false, 0x00, [1, 1, 1, 1, 0, 0]),
    (.b, 0x7F, 0x01, false, 0x80, [0, 0, 1, 0, 1, 1]),
    (.b, 0x80, 0x80, false, 0x00, [1, 1, 0, 1, 0, 1]),
    (.b, 0x0F, 0x01, false, 0x10, [0, 0, 1, 0, 0, 0]),
    (.b, 0x00, 0x00, false, 0x00, [0, 1, 0, 1, 0, 0]),
    (.w, 0x7FFF, 0x0001, false, 0x8000, [0, 1, 1, 0, 1, 1]),
    (.w, 0xFFFF, 0xFFFF, false, 0xFFFE, [1, 0, 1, 0, 1, 0]),
    (.d, 0xFFFFFFFF, 0x00000001, false, 0x00000000, [1, 1, 1, 1, 0, 0]),
    (.d, 0x7FFFFFFF, 0x7FFFFFFF, false, 0xFFFFFFFE, [0, 0, 1, 0, 1, 1])] = true := by decide +kernel

theorem test_adc_vectors : holds (twoRegs .adcRm8R8 .adcRmvRv) [
    (.b, 0xFF, 0xFF, true, 0xFF, [1, 1, 1, 0, 1, 0]),
    (.b, 0xFF, 0x00, true, 0x00, [1, 1, 1, 1, 0, 0]),
    (.b, 0x7F, 0x00, true, 0x80, [0, 0, 1, 0, 1, 1]),
    (.b, 0x00, 0x00, true, 0x01, [0, 0, 0, 0, 0, 0]),
    (.w, 0xFFFF, 0xFFFF, true, 0xFFFF, [1, 1, 1, 0, 1, 0]),
    (.d, 0x12345678, 0x87654321, true, 0x9999999A, [0, 1, 0, 0, 1, 0])] = true := by decide +kernel

theorem test_sub_vectors : holds (twoRegs .subRm8R8 .subRmvRv) [
    (.b, 0x00, 0x01, false, 0xFF, [1, 1, 1, 0, 1, 0]),
    (.b, 0x80, 0x01, false, 0x7F, [0, 0, 1, 0, 0, 1]),
    (.b, 0x05, 0x05, false, 0x00, [0, 1, 0, 1, 0, 0]),
    (.b, 0x10, 0x01, false, 0x0F, [0, 1, 1, 0, 0, 0]),
    (.b, 0x7F, 0xFF, false, 0x80, [1, 0, 0, 0, 1, 1]),
    (.w, 0x8000, 0x0001, false, 0x7FFF, [0, 1, 1, 0, 0, 1]),
    (.d, 0x00000000, 0xFFFFFFFF, false, 0x00000001, [1, 0, 1, 0, 0, 0])] = true := by decide +kernel

theorem test_sbb_vectors : holds (twoRegs .sbbRm8R8 .sbbRmvRv) [
    (.b, 0x05, 0x05, true, 0xFF, [1, 1, 1, 0, 1, 0]),
    (.b, 0x00, 0xFF, true, 0x00, [1, 1, 1, 1, 0, 0]),
    (.b, 0x80, 0x00, true, 0x7F, [0, 0, 1, 0, 0, 1]),
    (.b, 0x10, 0x0F, true, 0x00, [0, 1, 1, 1, 0, 0]),
    (.w, 0x0000, 0x0000, true, 0xFFFF, [1, 1, 1, 0, 1, 0])] = true := by decide +kernel

theorem test_cmp_vectors : holds (twoRegs .cmpRm8R8 .cmpRmvRv) [
    (.w, 0x0005, 0x0007, false, 0x0005, [1, 0, 1, 0, 1, 0]),
    (.b, 0x80, 0x7F, false, 0x80, [0, 0, 1, 0, 0, 1]),
    (.d, 0x7FFFFFFF, 0xFFFFFFFF, false, 0x7FFFFFFF, [1, 1, 0, 0, 1, 1])] = true := by decide +kernel

theorem test_and_vectors : holds (twoRegs .andRm8R8 .andRmvRv) [
    (.b, 0xF0, 0x0F, true, 0x00, [0, 1, 2, 1, 0, 0]),
    (.w, 0xFFFF, 0x8001, true, 0x8001, [0, 0, 2, 0, 1, 0])] = true := by decide +kernel

theorem test_or_vectors : holds (twoRegs .orRm8R8 .orRmvRv) [
    (.b, 0x80, 0x01, true, 0x81, [0, 1, 2, 0, 1, 0]),
    (.d, 0x00000000, 0x00000001, true, 0x00000001, [0, 0, 2, 0, 0, 0])] = true := by decide +kernel

theorem test_xor_vectors : holds (twoRegs .xorRm8R8 .xorRmvRv) [
    (.w, 0xFFFF, 0xFFFF, true, 0x0000, [0, 1, 2, 1, 0, 0]),
    (.b, 0xAA, 0x55, true, 0xFF, [0, 1, 2, 0, 1, 0])] = true := by decide +kernel

theorem test_test_vectors : holds (twoRegs .testRm8R8 .testRmvRv) [
    (.d, 0x80000000, 0x80000000, true, 0x80000000, [0, 1, 2, 0, 1, 0]),
    (.b, 0x01, 0x02, true, 0x01, [0, 1, 2, 1, 0, 0])] = true := by decide +kernel

theorem test_inc_vectors : holds (oneReg .incRm8 .incRmv) [
    (.b, 0xFF, 0, false, 0x00, [0, 1, 1, 1, 0, 0]),
    (.b, 0x7F, 0, true, 0x80, [1, 0, 1, 0, 1, 1]),
    (.b, 0x0F, 0, false, 0x10, [0, 0, 1, 0, 0, 0]),
    (.w, 0xFFFF, 0, true, 0x0000, [1, 1, 1, 1, 0, 0]),
    (.d, 0x7FFFFFFF, 0, false, 0x80000000, [0, 1, 1, 0, 1, 1])] = true := by decide +kernel

theorem test_dec_vectors : holds (oneReg .decRm8 .decRmv) [
    (.b, 0x00, 0, false, 0xFF, [0, 1, 1, 0, 1, 0]),
    (.b, 0x80, 0, true, 0x7F, [1, 0, 1, 0, 0, 1]),
    (.b, 0x10, 0, false, 0x0F, [0, 1, 1, 0, 0, 0]),
    (.w, 0x0001, 0, false, 0x0000, [0, 1, 0, 1, 0, 0]),
    (.d, 0x00000000, 0, true, 0xFFFFFFFF, [1, 1, 1, 0, 1, 0])] = true := by decide +kernel

theorem test_neg_vectors : holds (oneReg .negRm8 .negRmv) [
    (.b, 0x00, 0, true, 0x00, [0, 1, 0, 1, 0, 0]),
    (.b, 0x80, 0, false, 0x80, [1, 0, 0, 0, 1, 1]),
    (.b, 0x01, 0, false, 0xFF, [1, 1, 1, 0, 1, 0]),
    (.b, 0x10, 0, false, 0xF0, [1, 1, 0, 0, 1, 0]),
    (.w, 0x8000, 0, false, 0x8000, [1, 1, 0, 0, 1, 1]),
    (.d, 0x00000001, 0, false, 0xFFFFFFFF, [1, 1, 1, 0, 1, 0])] = true := by decide +kernel

theorem test_not_vectors : holds (oneReg .notRm8 .notRmv) [
    (.b, 0x5A, 0, true, 0xA5, [1, 0, 0, 0, 0, 0]),
    (.d, 0x00000000, 0, true, 0xFFFFFFFF, [1, 0, 0, 0, 0, 0])] = true := by decide +kernel

theorem test_shl_vectors : holds (byCount .shlRm8Imm8 .shlRmvImm8) [
    (.b, 0x81, 1, false, 0x02, [1, 0, 2, 0, 0, 1]),
    (.b, 0x40, 1, false, 0x80, [0, 0, 2, 0, 1, 1]),
    (.b, 0x01, 7, false, 0x80, [0, 0, 2, 0, 1, 2]),
    (.b, 0x01, 8, false, 0x00, [1, 1, 2, 1, 0, 2]),
    (.b, 0xFF, 9, true, 0x00, [0, 1, 2, 1, 0, 2]),
    (.w, 0x1234, 0, true, 0x1234, [1, 0, 0, 0, 0, 0]),
    (.w, 0x8001, 16, false, 0x0000, [1, 1, 2, 1, 0, 2]),
    (.w, 0x8001, 17, false, 0x0000, [0, 1, 2, 1, 0, 2]),
    (.d, 0x00000001, 31, false, 0x80000000, [0, 1, 2, 0, 1, 2]),
    (.d, 0x00000001, 32, true, 0x00000001, [1, 0, 0, 0, 0, 0])] = true := by decide +kernel

theorem test_shr_vectors : holds (byCount .shrRm8Imm8 .shrRmvImm8) [
    (.b, 0x81, 1, false, 0x40, [1, 0, 2, 0, 0, 1]),
    (.b, 0x80, 7, false, 0x01, [0, 0, 2, 0, 0, 2]),
    (.b, 0x80, 8, false, 0x00, [1, 1, 2, 1, 0, 2]),
    (.w, 0xFFFF, 15, false, 0x0001, [1, 0, 2, 0, 0, 2]),
    (.d, 0x80000000, 31, false, 0x00000001, [0, 0, 2, 0, 0, 2])] = true := by decide +kernel

theorem test_sar_vectors : holds (byCount .sarRm8Imm8 .sarRmvImm8) [
    (.b, 0x81, 1, false, 0xC0, [1, 1, 2, 0, 1, 0]),
    (.b, 0x80, 7, false, 0xFF, [0, 1, 2, 0, 1, 2]),
    (.b, 0x80, 8, false, 0xFF, [1, 1, 2, 0, 1, 2]),
    (.b, 0x80, 31, false, 0xFF, [1, 1, 2, 0, 1, 2]),
    (.b, 0x7F, 8, true, 0x00, [0, 1, 2, 1, 0, 2]),
    (.w, 0x8000, 4, false, 0xF800, [0, 1, 2, 0, 1, 2])] = true := by decide +kernel

theorem test_rol_vectors : holds (byCount .rolRm8Imm8 .rolRmvImm8) [
    (.b, 0x81, 1, false, 0x03, [1, 0, 0, 0, 0, 1]),
    (.b, 0x81, 8, false, 0x81, [1, 0, 0, 0, 0, 2]),
    (.b, 0x81, 9, false, 0x03, [1, 0, 0, 0, 0, 2]),
    (.w, 0x8000, 1, false, 0x0001, [1, 0, 0, 0, 0, 1]),
    (.d, 0x12345678, 4, false, 0x23456781, [1, 0, 0, 0, 0, 2])] = true := by decide +kernel

theorem test_ror_vectors : holds (byCount .rorRm8Imm8 .rorRmvImm8) [
    (.b, 0x81, 1, false, 0xC0, [1, 0, 0, 0, 0, 0]),
    (.b, 0x01, 1, false, 0x80, [1, 0, 0, 0, 0, 1]),
    (.b, 0x81, 8, false, 0x81, [1, 0, 0, 0, 0, 2]),
    (.w, 0x0001, 1, false, 0x8000, [1, 0, 0, 0, 0, 1])] = true := by decide +kernel

theorem test_rcl_vectors : holds (byCount .rclRm8Imm8 .rclRmvImm8) [
    (.b, 0x81, 1, false, 0x02, [1, 0, 0, 0, 0, 1]),
    (.b, 0x81, 1, true, 0x03, [1, 0, 0, 0, 0, 1]),
    (.b, 0x80, 9, false, 0x80, [0, 0, 0, 0, 0, 2]),
    (.b, 0x01, 9, true, 0x01, [1, 0, 0, 0, 0, 2]),
    (.w, 0x8000, 17, false, 0x8000, [0, 0, 0, 0, 0, 2])] = true := by decide +kernel

theorem test_rcr_vectors : holds (byCount .rcrRm8Imm8 .rcrRmvImm8) [
    (.b, 0x81, 1, false, 0x40, [1, 0, 0, 0, 0, 1]),
    (.b, 0x01, 1, true, 0x80, [1, 0, 0, 0, 0, 1]),
    (.b, 0x01, 9, false, 0x01, [0, 0, 0, 0, 0, 2]),
    (.w, 0x0001, 17, true, 0x0001, [1, 0, 0, 0, 0, 2])] = true := by decide +kernel

/-- The product of a vector, in AX, DX:AX or EDX:EAX; CF = OF. -/
def multiplies (op8 : Rm8 → Instr) (opv : OSize → Rm → Instr) (rows : List (Size × Word × Word × Quad × Bool)) : Bool :=
  rows.all fun (sz, a, b, p, c) =>
    let i := match sz with | .b => op8 (.reg .bl) | .w => opv .o16 (.reg .ebx) | .d => opv .o32 (.reg .ebx)
    (next? (exec i (withAB real a b false))).any fun t =>
      (match sz with
        | .b => t.regs.eax.setWidth 64 == p
        | .w => (t.regs.eax.setWidth 64 ||| (t.regs.edx.setWidth 64 <<< 16)) == p
        | .d => (t.regs.eax.setWidth 64 ||| (t.regs.edx.setWidth 64 <<< 32)) == p) && t.flags.cf == c && t.flags.of == c

/-- Quotient and remainder of a vector; `none` is #DE, taken through IVT[0] = 0000:0200 with the registers kept. -/
def divides (op8 : Rm8 → Instr) (opv : OSize → Rm → Instr) (rows : List (Size × Quad × Word × Option (Word × Word))) :
    Bool :=
  rows.all fun (sz, n, d, qr) =>
    let i := match sz with | .b => op8 (.reg .bl) | .w => opv .o16 (.reg .ebx) | .d => opv .o32 (.reg .ebx)
    let x : Regs :=
      match sz with
      | .b => { real.regs with eax := n.setWidth 32, ebx := d }
      | .w => { real.regs with eax := n.setWidth 32 &&& 0xFFFF, edx := (n >>> 16).setWidth 32, ebx := d }
      | .d => { real.regs with eax := n.setWidth 32, edx := (n >>> 32).setWidth 32, ebx := d }
    (next? (exec i (put { real with regs := x } 0 [0x00, 0x02]))).any fun t =>
      match qr, sz with
      | none, _ => t.eip == 0x0200 && t.regs.eax == x.eax && t.regs.edx == x.edx
      | some (q, r), .b => t.regs.eax == (q ||| (r <<< 8))
      | some (q, r), .w => t.regs.eax == q && t.regs.edx == r
      | some (q, r), .d => t.regs.eax == q && t.regs.edx == r

/-- A decimal adjustment of a vector: accumulator, CF, AF before; accumulator and flags after. -/
def adjusts (i : Instr) (rows : List (Word × Nat × Nat × List Word × List Nat)) : Bool :=
  rows.all fun (a, c, x, r, f) =>
    let s := withAB real a 0 (c == 1)
    (next? (exec i { s with flags := { s.flags with af := x == 1 } })).any fun t =>
      [t.regs.eax] == r && flagsAre t.flags f

/-- AAM or AAD of a vector: base, accumulator; accumulator and flags after. -/
def adjustsBy (i : Byte → Instr) (rows : List (Byte × Word × Word × List Nat)) : Bool :=
  rows.all fun (base, a, r, f) =>
    (next? (exec (i base) (withAB real a 0 false))).any fun t => t.regs.eax == r && flagsAre t.flags f

theorem test_mul_vectors : multiplies .mulRm8 .mulRmv [
    (.b, 0x80, 0x02, 0x0100, true),
    (.b, 0xFF, 0xFF, 0xFE01, true),
    (.b, 0x10, 0x0F, 0x00F0, false),
    (.w, 0xFFFF, 0xFFFF, 0xFFFE0001, true),
    (.w, 0x0100, 0x0100, 0x00010000, true),
    (.d, 0xFFFFFFFF, 0x00000002, 0x00000001FFFFFFFE, true)] = true := by decide +kernel

theorem test_imul_vectors : multiplies .imulRm8 .imulRmv [
    (.b, 0x80, 0xFF, 0x0080, true),
    (.b, 0xFF, 0x01, 0xFFFF, false),
    (.b, 0x7F, 0x02, 0x00FE, true),
    (.b, 0xC0, 0x02, 0xFF80, false),
    (.w, 0x8000, 0x8000, 0x40000000, true),
    (.w, 0xFFFF, 0xFFFF, 0x00000001, false),
    (.d, 0x40000000, 0x00000002, 0x0000000080000000, true),
    (.d, 0xFFFFFFFF, 0x80000000, 0x0000000080000000, true)] = true := by decide +kernel

theorem test_imul_register_vectors : ([
    (.w, 0x7FFF, 0x0002, 0xFFFE, true),
    (.w, 0xFFFF, 0xFFFF, 0x0001, false),
    (.w, 0x4000, 0x0002, 0x8000, true),
    (.d, 0x00010000, 0x00010000, 0x00000000, true)] : List (Size × Word × Word × Word × Bool)).all
    (fun (sz, a, b, r, c) =>
      (next? (exec (.imulRvRmv (match sz with | .d => .o32 | _ => .o16) .eax (.reg .ebx)) (withAB real a b false))).any
        fun t => t.regs.eax == r && t.flags.cf == c && t.flags.of == c) = true := by decide +kernel

theorem test_div_vectors : divides .divRm8 .divRmv [
    (.b, 0x00FF, 0x10, some (0x0F, 0x0F)),
    (.b, 0x0100, 0x00, none),
    (.b, 0xFFFF, 0xFF, none),
    (.b, 0xFEFF, 0xFF, some (0xFF, 0xFE)),
    (.w, 0x0001FFFF, 0x0002, some (0xFFFF, 0x0001)),
    (.w, 0x00020000, 0x0002, none),
    (.d, 0xFFFFFFFFFFFFFFFF, 0xFFFFFFFF, none),
    (.d, 0x0000000100000000, 0x00000001, none)] = true := by decide +kernel

theorem test_idiv_vectors : divides .idivRm8 .idivRmv [
    (.b, 0xFFF9, 0x02, some (0xFD, 0xFF)),
    (.b, 0x0007, 0xFE, some (0xFD, 0x01)),
    (.b, 0xFFF9, 0xFE, some (0x03, 0xFF)),
    (.b, 0xFF80, 0xFF, none),
    (.b, 0x0080, 0xFF, some (0x80, 0)),
    (.b, 0xFF80, 0x01, some (0x80, 0)),
    (.b, 0x0080, 0x01, none),
    (.b, 0x0000, 0x00, none),
    (.w, 0xFFFF8000, 0xFFFF, none),
    (.w, 0x80000000, 0xFFFF, none),
    (.d, 0xFFFFFFFF80000000, 0xFFFFFFFF, none)] = true := by decide +kernel

theorem test_daa_vectors : adjusts .daa [
    (0x9A, 0, 0, [0x00], [1, 1, 1, 1, 0, 2]),
    (0x0F, 0, 0, [0x15], [0, 0, 1, 0, 0, 2]),
    (0x99, 0, 0, [0x99], [0, 1, 0, 0, 1, 2]),
    (0x00, 1, 0, [0x60], [1, 1, 0, 0, 0, 2]),
    (0x00, 0, 1, [0x06], [0, 1, 1, 0, 0, 2]),
    (0xFF, 0, 0, [0x65], [1, 1, 1, 0, 0, 2])] = true := by decide +kernel

theorem test_das_vectors : adjusts .das [
    (0x9A, 0, 0, [0x34], [1, 0, 1, 0, 0, 2]),
    (0x0F, 0, 0, [0x09], [0, 1, 1, 0, 0, 2]),
    (0x00, 0, 1, [0xFA], [1, 1, 1, 0, 1, 2]),
    (0x00, 1, 0, [0xA0], [1, 1, 0, 0, 1, 2]),
    (0x66, 0, 0, [0x66], [0, 1, 0, 0, 0, 2])] = true := by decide +kernel

theorem test_aaa_vectors : adjusts .aaa [
    (0x000F, 0, 0, [0x0105], [1, 2, 1, 2, 2, 2]),
    (0x0009, 0, 0, [0x0009], [0, 2, 0, 2, 2, 2]),
    (0x0005, 0, 1, [0x010B], [1, 2, 1, 2, 2, 2])] = true := by decide +kernel

theorem test_aas_vectors : adjusts .aas [
    (0x020F, 0, 0, [0x0109], [1, 2, 1, 2, 2, 2]),
    (0x0209, 0, 0, [0x0209], [0, 2, 0, 2, 2, 2]),
    (0x0007, 0, 1, [0xFF01], [1, 2, 1, 2, 2, 2])] = true := by decide +kernel

theorem test_aam_vectors : adjustsBy .aam [
    (0x0A, 0x4F, 0x0709, [2, 1, 2, 0, 0, 2]),
    (0x0A, 0xFF, 0x1905, [2, 1, 2, 0, 0, 2]),
    (0x10, 0x4F, 0x040F, [2, 1, 2, 0, 0, 2])] = true := by decide +kernel

theorem test_aad_vectors : adjustsBy .aad [
    (0x0A, 0x0709, 0x004F, [2, 0, 2, 0, 0, 2]),
    (0x0A, 0x0909, 0x0063, [2, 1, 2, 0, 0, 2]),
    (0x0A, 0xFFFF, 0x00F5, [2, 1, 2, 0, 1, 2]),
    (0x10, 0x0102, 0x0012, [2, 1, 2, 0, 0, 2])] = true := by decide +kernel


/-! ## Vectors of spec/95_test_vectors.md sections 1 and 2.8 to 2.11: one step from bytes -/

/-- real with registers set. -/
def realWith (f : Regs → Regs) : State := { real with regs := f real.regs }

/-- Scenario 1 of section 1.1. -/
theorem test_mov_immediate : (stepOn real [0xB8, 0x34, 0x12]).any (fun t =>
    t.regs.eax == 0x1234 && t.eip == 0x0103 && t.flags == real.flags && t.cycles == 1) = true := by decide +kernel

/-- The last step of scenario 2 (section 1.2): EFLAGS is 0x00003257. -/
theorem test_add_immediate_flags : (stepOn (withAB real 0xFF 0 false) [0x04, 0x01]).any (fun t =>
    t.regs.eax == 0 && t.flags.image == 0x00003257) = true := by decide +kernel

/-- Scenario 3 (section 1.3). -/
theorem test_real_mode_int : (stepOn (put real 0x84 [0x34, 0x12, 0x00, 0xF0]) [0xCD, 0x21]).any (fun t =>
    t.half 0x0FFE == 0x3202 && t.half 0x0FFC == 0 && t.half 0x0FFA == 0x0102 && t.regs.esp == 0x0FFA &&
      t.cs == SegReg.realOf .cs 0xF000 && t.eip == 0x1234 && t.flags.image == 0x00003002) = true := by decide +kernel

/-- Scenario 6 (section 1.6), the source's order of slots as the conflict file resolves it. -/
theorem test_pusha : (stepOn (realWith fun x => { x with eax := 1, ecx := 2, edx := 3, ebx := 4, ebp := 6, esi := 7, edi := 8 })
    [0x60]).any (fun t =>
      [t.half 0x0FFE, t.half 0x0FFC, t.half 0x0FFA, t.half 0x0FF8, t.half 0x0FF6, t.half 0x0FF4, t.half 0x0FF2, t.half 0x0FF0]
        == [1, 2, 3, 4, 0x1000, 6, 7, 8] && t.regs.esp == 0x0FF0) = true := by decide +kernel

/-- The fixed bits of EFLAGS (section 1.8): POPF of 0xFFFF; TF set, so #DB follows at the boundary. -/
theorem test_popf_fixed_bits : (next? (exec (.popf .o16) (put real 0x1000 [0xFF, 0xFF]))).any (fun t =>
    t.flags.image == 0x00007FD7 && t.regs.esp == 0x1002) = true := by decide +kernel

theorem test_mov_to_ds : (stepOn (withAB real 0x1234 0 false) [0x8E, 0xD8]).any (fun t =>
    t.ds.selector == 0x1234 && t.ds.cache.base == 0x00012340 && t.ds.cache.limit == 0xFFFF) = true := by decide +kernel

theorem test_push_register : (stepOn (withAB real 0xBEEF 0 false) [0x50]).any (fun t =>
    t.regs.esp == 0x0FFE && t.half 0x0FFE == 0xBEEF) = true := by decide +kernel

theorem test_push_wraps_at_reset : (stepOn { real with regs := { real.regs with esp := 0 } } [0x50]).any (fun t =>
    t.regs.esp == 0xFFFE) = true := by decide +kernel

theorem test_push_sp_pushes_the_old_value : (stepOn real [0x54]).any (fun t =>
    t.half 0x0FFE == 0x1000 && t.regs.esp == 0x0FFE) = true := by decide +kernel

theorem test_pop_sp : (stepOn (put { real with regs := { real.regs with esp := 0x0FFE } } 0x0FFE [0x22, 0x22]) [0x5C]).any
    (fun t => t.regs.esp == 0x2222) = true := by decide +kernel

theorem test_pop_ds : (stepOn (put real 0x1000 [0x00, 0x20]) [0x1F]).any (fun t =>
    t.ds.selector == 0x2000 && t.ds.cache.base == 0x00020000 && t.regs.esp == 0x1002) = true := by decide +kernel

theorem test_pushf_after_reset : (stepOn real [0x9C]).any (fun t => t.half 0x0FFE == 0x3202) = true := by decide +kernel

theorem test_lahf : (stepOn { real with flags := { real.flags with cf := true, af := true, zfE := true, pfE := true } }
    [0x9F]).any (fun t => t.regs.eax == 0x5700) = true := by decide +kernel

theorem test_sahf : (stepOn (withAB real 0x0100 0 false) [0x9E]).any (fun t =>
    flagsAre t.flags [1, 0, 0, 0, 0, 0]) = true := by decide +kernel

theorem test_lea : (next? (exec (.lea .o32 .eax { seg := none, addr := .base32 .ebx (some (.esi, .x1)) (.d8 8) })
    (realWith fun x => { x with ebx := 0x1000, esi := 0x20 }))).any (fun t => t.regs.eax == 0x1028) = true := by decide +kernel

/-- STI with an IRQ pending: none is taken at the boundary after it (section 2.8). -/
theorem test_sti_shadow : (stepOn { real with flags := { real.flags with ifl := false }, irqs := [some 8] } [0xFB]).any
    (fun t => t.eip == 0x0101 && t.flags.ifl && t.irqs == [some 8]) = true := by decide +kernel

theorem test_jmp_wraps_at_16_bits : (stepOn real [0xE9, 0x00, 0xFF]).any (fun t => t.eip == 0x0003) = true := by decide +kernel

theorem test_jmp_rel8 : (stepOn real [0xEB, 0xFE]).any (fun t => t.eip == 0x0100) = true := by decide +kernel

theorem test_call_near : (stepOn real [0xE8, 0xFD, 0x00]).any (fun t =>
    t.half 0x0FFE == 0x0103 && t.regs.esp == 0x0FFE && t.eip == 0x0200) = true := by decide +kernel

theorem test_ret_imm16 :
    (stepOn (put { real with eip := 0x0200, regs := { real.regs with esp := 0x0FFE } } 0x0FFE [0x03, 0x01]) [0xC2, 4, 0]).any
      (fun t => t.eip == 0x0103 && t.regs.esp == 0x1004) = true := by decide +kernel

theorem test_call_far : (stepOn real [0x9A, 0x00, 0x01, 0x00, 0x20]).any (fun t =>
    t.half 0x0FFE == 0 && t.half 0x0FFC == 0x0105 && t.cs.selector == 0x2000 && t.eip == 0x0100) = true := by decide +kernel

theorem test_retf :
    (stepOn (put { real with regs := { real.regs with esp := 0x0FFC } } 0x0FFC [0x05, 0x01, 0x00, 0x20]) [0xCB]).any
      (fun t => t.cs.selector == 0x2000 && t.eip == 0x0105 && t.regs.esp == 0x1000) = true := by decide +kernel

/-- The sixteen conditions after CMP AX, 7 with AX = 5 (section 2.9). -/
theorem test_conditions :
    let f : Flags := { real.flags with cf := true, sfE := true }
    (List.range 16).map (fun n => f.cond (BitVec.ofNat 4 n)) =
      [false, true, true, false, false, true, true, false, true, false, false, true, true, false, true, false] := by
  decide +kernel

theorem test_into_without_overflow : (stepOn real [0xCE]).any (fun t => t.eip == 0x0101 && t.regs == real.regs) = true := by
  decide +kernel

theorem test_lgdt_24_bits : (stepOn (put real 0x0500 [0x17, 0x00, 0x78, 0x56, 0x34, 0x12]) [0x0F, 0x01, 0x16, 0x00, 0x05]).any
    (fun t => t.gdtr == { base := 0x00345678, limit := 0x0017 }) = true := by decide +kernel

theorem test_lgdt_32_bits :
    (stepOn (put real 0x0500 [0x17, 0x00, 0x78, 0x56, 0x34, 0x12]) [0x66, 0x0F, 0x01, 0x16, 0x00, 0x05]).any
      (fun t => t.gdtr == { base := 0x12345678, limit := 0x0017 }) = true := by decide +kernel

/-- MOV CR0 with PG and not PE is #GP(0), here through IVT[13] = 0000:0300. -/
theorem test_paging_without_protection : (stepOn (put (withAB real 0x80000000 0 false) 52 [0x00, 0x03]) [0x0F, 0x22, 0xC0]).any
    (fun t => t.eip == 0x0300 && t.cr0 == 0) = true := by decide +kernel

theorem test_mov_dr : (stepOn (withAB real 0x12345678 0 false) [0x0F, 0x23, 0xC0]).any
    (fun t => t.dr.dr0 == 0x12345678) = true := by decide +kernel

theorem test_in_without_device : (stepOn real [0xE5, 0x80]).any (fun t => t.regs.eax == 0xFFFF) = true := by decide +kernel

/-- BOUND of 5 within 0 and 10, and of −1 outside, through IVT[5] = 0000:0300 (section 2.10). -/
theorem test_bound :
    let s := put (put real 0x0600 [0x00, 0x00, 0x0A, 0x00]) 20 [0x00, 0x03]
    (stepOn (withAB s 5 0 false) [0x62, 0x06, 0x00, 0x06]).any (fun t => t.eip == 0x0104 && t.regs == (withAB s 5 0 false).regs)
        = true ∧
      (stepOn (withAB s 0xFFFF 0 false) [0x62, 0x06, 0x00, 0x06]).any (fun t => t.eip == 0x0300 && t.half 0x0FFA == 0x0100)
        = true := by decide +kernel

/-- M1, M2 and M3' of section 2.2. -/
theorem test_real_mode_addresses :
    (next? (exec (.movAlMoffs none (.a16 0x10)) (put { real with ds := SegReg.realOf .ds 0x1234 } 0x12350 [0x5A]))).any
        (fun t => t.regs.eax == 0x5A) = true ∧
      (next? (exec (.movAlMoffs none (.a16 0x10)) (put { real with ds := SegReg.realOf .ds 0xFFFF, a20 := false } 0 [0x5A]))).any
        (fun t => t.regs.eax == 0x5A) = true ∧
      (next? (exec (.pushRv .o16 .eax) (put { real with regs := { real.regs with esp := 1 }, ss := SegReg.realOf .ss 0x100 } 0
        []))).any (fun t => t.shutdown) = true := by decide +kernel

/-- E7 of section 2.11: an IRQ at the boundary after a NOP, through IVT[8] = 0000:0400. -/
theorem test_irq_after_nop : (stepOn { put real 0x20 [0x00, 0x04] with irqs := [some 8] } [0x90]).any (fun t =>
    t.half 0x0FFE == 0x3202 && t.half 0x0FFC == 0 && t.half 0x0FFA == 0x0101 && t.eip == 0x0400 && t.flags.ifl == false)
      = true := by decide +kernel

/-- R326 and R320: a far JMP with a 32-bit offset beyond the new limit 0xFFFF is #GP(0). -/
theorem test_far_jump_beyond_limit : (stepOn (put real 0x34 [0x00, 0x05]) [0x66, 0xEA, 0x00, 0x00, 0x01, 0x00, 0x00, 0x20]).any
    (fun t => t.eip == 0x0500 && t.cs.selector == 0 && t.half 0x0FFA == 0x0100) = true := by decide +kernel

/-- R71 and R74: with A20 off, RAM is read byte by byte, each byte at its own masked address: 0xFFFFE, 0xFFFFF, 0x200000 and
0x200001. -/
theorem test_a20_masks_each_byte :
    (({ put (put real 0x000FFFFE [0x11, 0x22]) 0x00200000 [0x33, 0x44] with a20 := false } : State).physRead 0x001FFFFE 4).1 =
      0x44332211 := by decide +kernel

/-! ### Protected mode: the common setup PM-base of section 2.11 -/

/-- The memory of PM-base: IDT entries 13, 14, 0x21 (E2) and 0x80 (E3) at 0x0868, 0x0870, 0x0908 and 0x0C00; the GDT at 0x1000,
with the call gate of E10 at 0x38; SS0:ESP0 = 0x10:0x9000 in TSS A. -/
def protMem : Memory :=
  [(0x0869, 0x31), (0x086A, 0x08), (0x086D, 0x8E), (0x0871, 0x32), (0x0872, 0x08), (0x0875, 0x8E), (0x0909, 0x30)] ++
    [(0x090A, 0x08), (0x090D, 0x8E), (0x0C01, 0x30), (0x0C02, 0x08), (0x0C05, 0xEE), (0x1008, 0xFF), (0x1009, 0xFF)] ++
    [(0x100D, 0x9A), (0x100E, 0xCF), (0x1010, 0xFF), (0x1011, 0xFF), (0x1015, 0x92), (0x1016, 0xCF), (0x1018, 0xFF)] ++
    [(0x1019, 0xFF), (0x101D, 0xFA), (0x101E, 0xCF), (0x1020, 0xFF), (0x1021, 0xFF), (0x1025, 0xF2), (0x1026, 0xCF)] ++
    [(0x1028, 0x67), (0x102B, 0x30), (0x102D, 0x8B), (0x1030, 0x67), (0x1033, 0x31), (0x1035, 0x89), (0x1039, 0x30)] ++
    [(0x103A, 0x08), (0x103D, 0xEC), (0x3005, 0x90), (0x3008, 0x10)]

/-- A flat segment register: a descriptor of PM-base at a privilege level. -/
def flatSeg (sel : Half) (d : Quad) (inSS : Bool) (rpl : BitVec 2) : SegReg :=
  { selector := sel, cache := cacheOf d inSS rpl }

/-- PM-base with 32-bit code at CPL 0, ESP = 0x2000, EIP = 0x4000, IOPL 0 (the vectors' 0x00000202); the memory as
above. -/
def prot : State :=
  { real with
    mem := protMem, cr0 := 1, gdtr := { base := 0x1000, limit := 0x3F }, idtr := { base := 0x0800, limit := 0x07FF }
    tr := { selector := 0x28, base := 0x3000, limit := 0x67, is32 := true }
    cs := flatSeg 0x08 0x00CF9A000000FFFF false 0, ss := flatSeg 0x10 0x00CF92000000FFFF true 0
    ds := flatSeg 0x10 0x00CF92000000FFFF false 0, es := flatSeg 0x10 0x00CF92000000FFFF false 0
    fs := SegReg.nullOf 0 false, gs := SegReg.nullOf 0 false
    flags := { real.flags with iopl := 0 }, regs := { real.regs with esp := 0x2000 }, eip := 0x4000, baseEip := 0x4000 }

/-- PM-base at CPL 3 with ESP = 0x5000. -/
def user : State :=
  { prot with
    cs := flatSeg 0x1B 0x00CFFA000000FFFF false 3, ss := flatSeg 0x23 0x00CFF2000000FFFF true 3
    ds := flatSeg 0x23 0x00CFF2000000FFFF false 3, regs := { prot.regs with esp := 0x5000 } }

/-- E2: INT 0x21 at the same privilege (what a 32-bit push of a
selector stores is open, so a test can evaluate the registers only; the slots: test_inner_level_interrupt_16). -/
theorem test_same_level_interrupt : (stepOn prot [0xCD, 0x21]).any (fun t =>
    t.regs.esp == 0x1FF4 &&
      t.cs.selector == 0x08 && t.eip == 0x3000 && t.flags.ifl == false) = true := by decide +kernel

/-- E3: INT 0x80 from CPL 3 to CPL 0. -/
theorem test_inner_level_interrupt : (stepOn user [0xCD, 0x80]).any (fun t =>
    t.regs.esp == 0x8FEC && t.ss.selector == 0x10 && t.cs.selector == 0x08 && t.cpl == 0 &&
      t.eip == 0x3000 && t.flags.ifl == false) = true := by decide +kernel

/-- The slots of R423 through a 16-bit gate (type 6): SS, SP, FLAGS, CS, IP from SS0:ESP0 = 0x10:0x9000 down. -/
theorem test_inner_level_interrupt_16 : (stepOn (put user 0x0C05 [0xE6]) [0xCD, 0x80]).any (fun t =>
    [t.half 0x8FFE, t.half 0x8FFC, t.half 0x8FFA, t.half 0x8FF8, t.half 0x8FF6] == [0x23, 0x5000, 0x0202, 0x1B, 0x4002] &&
      t.regs.esp == 0x8FF6) = true := by decide +kernel

/-- E4: INT 0x21 from CPL 3 through a gate of DPL 0 is #GP(0x010A). -/
theorem test_gate_privilege : (stepOn user [0xCD, 0x21]).any (fun t =>
    t.regs.esp == 0x8FE8 && t.eip == 0x3100) = true := by decide +kernel

/-- E5: an empty IDT leads to a triple fault. -/
theorem test_triple_fault : (stepOn { prot with idtr := { base := 0, limit := 0 } } [0xCD, 0x21]).any (fun t =>
    t.shutdown && t.regs == prot.regs && t.eip == prot.eip) = true := by decide +kernel

/-- E10: a far CALL through a call gate to CPL 0 pushes four values. -/
theorem test_call_gate : (stepOn user [0x9A, 0, 0, 0, 0, 0x3B, 0]).any (fun t =>
    t.regs.esp == 0x8FF0 && t.ss.selector == 0x10 && t.cs.selector == 0x08 && t.cpl == 0 && t.eip == 0x3000) = true := by
  decide +kernel

/-- s with the task of TSS B filled in, as in T1. -/
def taskB (s : State) : State :=
  let s := put (put (put s 0x3120 [0x00, 0x50]) 0x3124 [0x02]) 0x3138 [0x00, 0x60]
  put (put (put (put s 0x3148 [0x10]) 0x314C [0x08]) 0x3150 [0x10]) 0x3154 [0x10]

/-- T1: a far JMP to TSS B. -/
theorem test_task_switch :
    (stepOn (taskB prot) [0xEA, 0, 0, 0, 0, 0x30, 0]).any (fun t =>
      dword t 0x3020 == 0x4007 && t.mem.read 0x102D == 0x89 && t.mem.read 0x1035 == 0x8B && t.half 0x3100 == 0 &&
        t.tr == { selector := 0x30, base := 0x3100, limit := 0x67, is32 := true } && t.cr0 == 9 && t.eip == 0x5000 &&
        t.flags.image == 0x00000002 && t.regs == { prot.regs with esp := 0x6000 } && t.cs.selector == 0x08 &&
        t.fs.cache.null && t.ldtr.null) = true := by decide +kernel

/-- A far CALL to the task of a 16-bit TSS, whose fields stand at the offsets of R441: its link and NT say where it came from,
FS is null, and the upper half of ESP stays. -/
theorem test_task_switch_16 :
    let s := put (put (put (put prot 0x1035 [0x81]) 0x310E [0x00, 0x50, 0x02]) 0x311A [0x00, 0x60]) 0x3122 [0x10, 0, 8, 0, 0x10, 0, 0x10]
    (stepOn { s with regs := { s.regs with esp := 0x12002000 } } [0x9A, 0, 0, 0, 0, 0x30, 0]).any (fun t =>
      t.half 0x3100 == 0x28 && t.flags.nt && t.tr.selector == 0x30 && !t.tr.is32 && t.eip == 0x5000 && t.regs.esp == 0x12006000 &&
        t.cs.selector == 0x08 && t.ds.selector == 0x10 && t.fs.cache.null && t.cr3 == 0) = true := by decide +kernel

/-- R412: a #DF raised while an IRQ is delivered (its gate is absent, and so is that of the #GP this raises) returns to the base
EIP, with error code 0. -/
theorem test_double_fault_at_boundary :
    let s := put (put prot 0x086D [0x0E]) 0x0840 [0x00, 0x33, 0x08, 0x00, 0x00, 0x86]
    (stepOn { s with irqs := [some 0x20] } [0x90]).any (fun t =>
      t.eip == 0x3300 && [t.half 0x1FFE, t.half 0x1FFC, t.half 0x1FFA, t.half 0x1FF8] == [0x0202, 0x08, 0x4000, 0]) = true := by
  decide +kernel

/-- R329: a far CALL to an inner 16-bit stack writes all of ESP; R423: a delivery there writes its low half. -/
theorem test_inner_16_bit_stack :
    let s := put (put user 0x1016 [0x8F]) 0x3006 [0x01]
    (stepOn s [0x9A, 0, 0, 0, 0, 0x3B, 0]).any (fun t => t.regs.esp == 0x00018FF0) = true ∧
      (stepOn s [0xCD, 0x80]).any (fun t => t.regs.esp == 0x00008FEC) = true := by decide +kernel

/-- R114: a clear bit of the I/O permission bitmap lets IN read a port (no device: ones), a set bit is #GP. -/
theorem test_port_bitmap :
    (stepOn user [0xE4, 0x60]).any (fun t => t.regs.eax == 0xFF) = true ∧
      (stepOn (put user 0x300C [0x01]) [0xE4, 0x60]).any (fun t => t.eip == 0x3100) = true := by decide +kernel

/-- M6 and M7 of section 2.2: a null selector loads, and a selector of RPL 3 for a segment of DPL 0 is #GP(0x0010). -/
theorem test_selector_loads :
    (stepOn prot [0x8E, 0xD8]).any (fun t => t.ds.cache.null) = true ∧
      (stepOn (withAB prot 0x13 0 false) [0x8E, 0xD8]).any (fun t => t.eip == 0x3100) = true := by
  decide +kernel

/-- PM-base with paging: page directory at 0x200000, the first 20 KiB mapped one to one, and scenario 5 of section 1.5: linear
0x00400000 mapped to 0x00100000. -/
def paged : State :=
  { prot with
    mem := protMem ++
    [(0x100000, 0xBE), (0x100001, 0xBA), (0x100002, 0xFE), (0x100003, 0xCA), (0x200000, 0x07), (0x200002, 0x21), (0x200004, 0x07)] ++
    [(0x200005, 0x30), (0x200006, 0x20), (0x203000, 0x07), (0x203002, 0x10), (0x210000, 0x07), (0x210004, 0x07), (0x210005, 0x10)] ++
    [(0x210008, 0x07), (0x210009, 0x20), (0x21000C, 0x07), (0x21000D, 0x30), (0x210010, 0x07), (0x210011, 0x40)]
    cr0 := 0x80000001, cr3 := 0x200000 }

theorem test_page_walk : (stepOn paged [0xA1, 0x00, 0x00, 0x40, 0x00]).any (fun t =>
    t.regs.eax == 0xCAFEBABE && dword t 0x200004 == 0x00203027 && dword t 0x203000 == 0x00100027) = true := by decide +kernel

/-- M9: the third byte of a dword read lies in an unmapped page; M10 to M10''': what the page's bits allow. -/
theorem test_page_faults :
    let code (s : State) (l : Word) (n : Nat) (a : Acc) : Option (Option Half × Word) :=
      match linRead l n a s with
      | .error (.exc e) t => some (e.err, t.cr2)
      | .error (.stop _) _ => none
      | .ok _ _ => none
    let readOnly := put paged 0x203000 [0x05]
    let kernel := put paged 0x203000 [0x03]
    code paged 0x00400FFE 4 (accAt .read 0) = some (some 0, 0x00401000) ∧
      code paged 0x00400FFE 2 (accAt .read 0) = none ∧ code readOnly 0x00400000 1 (accAt .write 3) = some (some 7, 0x00400000) ∧
      code readOnly 0x00400000 1 (accAt .write 0) = none ∧
      code { readOnly with cr0 := 0x80010001 } 0x00400000 1 (accAt .write 0) = some (some 3, 0x00400000) ∧
      code kernel 0x00400000 1 (accAt .read 3) = some (some 5, 0x00400000) ∧
      code paged 0x00401000 1 (accAt .fetch 0) = some (some 0x10, 0x00401000) := by decide +kernel

/-! ## Witnesses: states and operands that meet the hypotheses of the statements, clause by clause

Where a hypothesis says that an operation completes, `completes` says so of the operation's result, and the later hypotheses
stand in its last argument. -/

/-- The operation completed, and its value and state are as asked. -/
def completes {α : Type} (r : EStateM.Result Abort State α) (p : α → State → Bool) : Bool :=
  match r with
  | .ok v t => p v t
  | .error _ _ => false

/-- The operation raised an exception as asked. -/
def raises {α : Type} (r : EStateM.Result Abort State α) (p : Exc → State → Bool) : Bool :=
  match r with
  | .ok _ _ => false
  | .error (.exc e) t => p e t
  | .error (.stop _) _ => false

/-- A memory operand at a 16-bit offset. -/
def at16 (off : Half) : MemOp := { seg := none, addr := .abs16 off }

/-- The accessed bit of d, where it is to be set, can be written: State.Marked has a state. -/
def marks (s : State) (sel : Half) (d : Quad) : Bool :=
  !(s.params.setDescAccessed && !d.getLsbD 40) ||
    completes
      (sysWrite ((if selTI sel then s.ldtr.base else s.gdtr.base) + BitVec.ofNat 32 (selIndex sel * 8) + 5) 1
        ((descAccess d ||| 1).setWidth 64) s) fun _ _ => true

theorem marked_of_marks {s : State} {sel : Half} {d : Quad} (h : marks s sel d = true) : ∃ t, s.Marked sel d t := by
  unfold State.Marked
  by_cases hc : s.params.setDescAccessed = true ∧ d.getLsbD 40 = false
  · simp only [if_pos hc]
    simp only [marks, hc, Bool.not_false, Bool.and_self, Bool.not_true, Bool.false_or, completes] at h
    split at h
    · exact ⟨_, ‹_›⟩
    · cases h
  · simp only [if_neg hc]
    exact ⟨s, rfl⟩

/-- The gate of vector v opens (State.GateOpens), and the gate, the code segment and the state are as asked. -/
def opens (s : State) (v : Byte) (src : Src) (q : Quad → Quad → State → Bool) : Bool :=
  s.pe && decide (v.toNat * 8 + 7 ≤ s.idtr.limit.toNat) &&
    completes (sysRead (s.idtr.base + BitVec.ofNat 32 (v.toNat * 8)) 8 (s.deliverOn true (classOf v src))) fun g s1 =>
      completes (descRead (gateSelector g) 13 s1) fun d t =>
        decide
          ((descS g = false ∧ descType g ∈ [6, 7, 14, 15]) ∧ (src = .software → s.cpl.toNat ≤ (descDPL g).toNat) ∧
            (descP g = true ∧ descP d = true) ∧ selIndex (gateSelector g) ≠ 0 ∧
            (descS d = true ∧ descCode d = true ∧ (descDPL d).toNat ≤ s.cpl.toNat) ∧
            (gateOffset g).toNat ≤ (descLimit d).toNat) && q g d t

theorem gate_of_opens {s : State} {v : Byte} {src : Src} {q : Quad → Quad → State → Bool} (h : opens s v src q = true) :
    ∃ g d t, s.GateOpens v src g d t ∧ q g d t = true := by
  simp only [opens, completes, Bool.and_eq_true, decide_eq_true_eq] at h
  obtain ⟨⟨hpe, hl⟩, h⟩ := h
  split at h
  · split at h
    · simp only [Bool.and_eq_true, decide_eq_true_eq] at h
      obtain ⟨⟨hk, hp, hP, hi, hc, ho⟩, hq⟩ := h
      exact ⟨_, _, _, ⟨hpe, hl, ⟨_, ‹_›, ‹_›⟩, hk, hp, hP, hi, hc, ho⟩, hq⟩
    · cases h
  · cases h

/-- s with SET_DESC_ACCESSED. -/
def marking (s : State) : State := { s with params := { s.params with setDescAccessed := true } }

/-- Paging with SET_DESC_ACCESSED, and the page of the GDT read-only for every level: CR0.WP = 1. -/
def locked : State := marking (put { paged with cr0 := 0x80010001 } 0x210004 [0x05])

/-- The accessed bit of d is to be set and cannot be written: State.MarkRaises has an exception and a state. -/
def markRaises (s : State) (sel : Half) (d : Quad) : Bool :=
  s.params.setDescAccessed && !d.getLsbD 40 &&
    raises
      (sysWrite ((if selTI sel then s.ldtr.base else s.gdtr.base) + BitVec.ofNat 32 (selIndex sel * 8) + 5) 1
        ((descAccess d ||| 1).setWidth 64) s) fun _ _ => true

/-- R103: a #PF of the write of the accessed bit leaves the register as it was, also where nothing is rolled back. -/
theorem test_unmarked_register_is_unchanged :
    raises (loadSeg .gs 0x10 locked) (fun e t => e.vector == 14 && t.gs == locked.gs) = true ∧
      raises (loadData 10 .gs 0x10 locked) (fun e t => e.vector == 14 && t.gs == locked.gs) = true := by decide +kernel

/-! ### Encoding and fetch -/

theorem witness_DecodeOfEncodeIsInstruction :
    (Instr.lldt (.reg .eax)).wf = true ∧ needsProtection (.lldt (.reg .eax)) = true ∧
      Latch.empty.after (.lldt (.reg .eax)) = none ∧ Instr.prefixEs.wf = true ∧ Latch.empty.after .prefixEs ≠ none := by decide

/-- One byte, and the fifteen an instruction may have. -/
theorem witness_DecodedInstructionIsWellFormed :
    decode real16 [0x90] = .ok .nop [] ∧ decode real16 (List.replicate 14 0x26 ++ [0x90]) = .ok .nop [] := by decide +kernel

theorem witness_InvalidAndUnadmittedEncodings :
    regField 0xC8 = 1 ∧ regField 0xF0 = 6 ∧ regField 0xF8 = 7 ∧ modField 0xC0 = 3 ∧ regField 0xD0 = 2 ∧ regField 0xD8 = 3 ∧
      regField 0xE8 = 5 ∧ regField 0xC0 = 0 ∧ regField 0xE0 = 4 ∧ modField 0xD0 = 3 ∧ real16.pe = false := by decide

theorem witness_SixteenthByteIsGeneralProtection :
    let s := put real 0x0100 (List.replicate 15 0x26)
    completes (fetchBytes 15 s.begin) (fun bs _ => decode s.begin.decodeCtx bs == .truncated) = true := by decide +kernel

theorem witness_InvalidInstructionTakesInvalidOpcode :
    let s := put real 0x0100 [0x8E, 0xC8]
    let r := put real 0x0100 [0xA4]
    completes (fetchBytes 2 s.begin) (fun bs _ =>
        bs == [0x8E, 0xC8] && decode s.begin.decodeCtx bs.dropLast == .truncated && decode s.begin.decodeCtx bs == .invalid)
        = true ∧
      completes (fetchBytes 1 r.begin) (fun bs _ =>
        bs == [0xA4] && decode r.begin.decodeCtx bs.dropLast == .truncated &&
          decode r.begin.decodeCtx bs == .refused .opcodeNotAdmitted) = true := by decide +kernel

/-- A state that runs NOP next. -/
def nopNext : State := put real 0x0100 [0x90]

theorem witness_StepRunsDecodedInstruction :
    nopNext.noReboot ∧ nopNext.shutdown = false ∧ nopNext.halted = false ∧
      completes (fetchBytes 1 nopNext.started.begin) (fun bs _ => decode nopNext.started.begin.decodeCtx bs == .ok .nop [])
        = true := by
  refine ⟨by unfold State.noReboot; decide, by decide, by decide, by decide +kernel⟩

/-! ### The machine as a whole -/

theorem witness_InvariantKeptByStep : nopNext.Inv ∧ (next? (step nopNext)).isSome = true :=
  ⟨⟨by decide, by decide, by decide, by decide, by decide, by decide, by decide⟩, by decide +kernel⟩

theorem witness_CodeSegmentStaysCode : nopNext.CodeInv ∧ (next? (step nopNext)).isSome = true :=
  ⟨.inr (by decide), by decide +kernel⟩

theorem witness_HardRebootAndShutdown :
    let r := { real with commands := [some Command.hardReboot] }
    let s := { real with shutdown := true, commands := [some Command.enterDebugger] }
    r.commands.head? = some (some .hardReboot) ∧ s.noReboot ∧ s.shutdown = true := by
  refine ⟨by decide, by unfold State.noReboot; decide, by decide⟩

theorem witness_HaltedCoreSleeps :
    let s := { real with halted := true }
    s.noReboot ∧ s.shutdown = false ∧ s.halted = true ∧ s.irqs.head?.join = none ∧ s.flags.ifl = true ∧
      { s with flags := { s.flags with ifl := false } }.flags.ifl = false ∧
      { s with irqs := [some 8] }.irqs.head? = some (some 8) := by
  refine ⟨by unfold State.noReboot; decide, by decide, by decide, by decide, by decide, by decide, by decide⟩

theorem witness_BoundaryOrder :
    { real with shutdown := true }.shutdown = true ∧ { real with halted := true }.halted = true ∧
      { real with inhibitNext := true }.inhibitNext = true ∧ real.shutdown = false ∧ real.halted = false ∧
      real.inhibitNext = false ∧ real.flags.tf = false ∧ real.flags.ifl = true ∧ real.irqs.head?.join = none ∧
      { real with irqs := [some 8] }.irqs.head? = some (some 8) ∧
      { real with flags := { real.flags with tf := true } }.flags.tf = true := by decide

/-- An instruction that completes, and one that enters CPL 0. -/
theorem witness_UserModeKeepsSystemRegisters :
    user.pe = true ∧ user.cpl ≠ 0 ∧ (next? (exec .nop user)).isSome = true ∧ (next? (exec (.int 0x80) user)).isSome = true := by
  decide +kernel

/-! ### Exceptions and interrupts -/

theorem real_ready : real.RealReady :=
  ⟨by decide, by decide, ⟨by decide, by decide, by decide, by decide, by decide⟩,
    ⟨by decide, by decide, by decide, by decide, by decide⟩, by decide, by decide⟩

/-- The real-mode state with OF set. -/
def overflowed : State := { real with flags := { real.flags with of := true } }

theorem overflowed_ready : overflowed.RealReady :=
  ⟨by decide, by decide, ⟨by decide, by decide, by decide, by decide, by decide⟩,
    ⟨by decide, by decide, by decide, by decide, by decide⟩, by decide, by decide⟩

/-- A fault of real's instruction: b is real with EIP at the base EIP. -/
theorem witness_RealModeExceptionEntry :
    Exc.de.newTask = false ∧
      State.RealReady
        { real with
          eip := real.baseEip, mem := real.mem, cr2 := real.cr2, events := real.events, draws := real.draws, delivering := false,
          deliveringClass := real.deliveringClass } :=
  ⟨by decide, ⟨by decide, by decide, ⟨by decide, by decide, by decide, by decide, by decide⟩,
      ⟨by decide, by decide, by decide, by decide, by decide⟩, by decide, by decide⟩⟩

/-- An empty IDT: #GP during a software interrupt, during #GP, and during #DF; an IDT in an unmapped page: #PF during #GP and
during #PF. Each cell of the table of R412 that a delivery can meet. -/
theorem witness_NestedExceptionEscalates :
    let s := { prot with idtr := { base := 0, limit := 0 } }
    let p := { paged with idtr := { base := 0x00500000, limit := 0x07FF } }
    raises (deliver 0x21 .software none 0 s) (fun e _ =>
        !e.newTask && escalate (classOf 0x21 .software) (classOf e.vector .exception) == .deliver) = true ∧
      raises (deliver 13 .exception (some 0) 0 s) (fun e _ =>
        !e.newTask && escalate (classOf 13 .exception) (classOf e.vector .exception) == .doubleFault) = true ∧
      raises (deliver 8 .exception (some 0) 0 s) (fun e _ =>
        !e.newTask && escalate (classOf 8 .exception) (classOf e.vector .exception) == .tripleFault) = true ∧
      raises (deliver 13 .exception (some 0) 0 p) (fun e _ => !e.newTask && e.vector == 14) = true ∧
      raises (deliver 14 .exception (some 0) 0 p) (fun e _ =>
        !e.newTask && e.vector == 14 && escalate (classOf 14 .exception) (classOf e.vector .exception) == .doubleFault)
        = true := by decide +kernel

/-- An IDT one byte too short; an IDT in an unmapped page; a gate of a type no IDT holds, one of DPL 0 used from CPL 3, one that
is not present; a null target, one beyond the GDT, one that is no code segment, one not present, and one too short for the
offset; a task gate to a task that loads, with and without an error code, and to one that does not. -/
theorem witness_InterruptGateChecks :
    let read (s : State) (v : Byte) (src : Src) (q : Quad → State → Bool) :=
      s.pe && decide (v.toNat * 8 + 7 ≤ s.idtr.limit.toNat) &&
        completes (sysRead (s.idtr.base + BitVec.ofNat 32 (v.toNat * 8)) 8 (s.deliverOn true (classOf v src))) q
    let tests (s : State) (src : Src) (g : Quad) : List (Bool × Exc) :=
      [(descS g || decide (descType g ∉ [5, 6, 7, 14, 15]), Exc.gp 0x010A),
       (decide (src = .software) && decide ((descDPL g).toNat < s.cpl.toNat), Exc.gp 0x010A), (!descP g, Exc.np 0x010A)]
    let fails (s : State) := read s 0x21 .software fun g s1 => raises (checked (tests s .software g) () s1) fun _ _ => true
    let target (s : State) (q : Quad → State → Bool) := read s 0x21 .software fun g s1 =>
      completes (checked (tests s .software g) () s1) fun _ _ => descType g != 5 && q g s1
    let code (s : State) := target s fun g s1 => selIndex (gateSelector g) != 0 &&
      completes (descRead (gateSelector g) 13 s1) fun d s2 =>
        raises
          (checked
            [(!descS d || !descCode d || decide (s.cpl.toNat < (descDPL d).toNat), Exc.gp 8), (!descP d, Exc.np 8),
             (decide ((descLimit d).toNat < (gateOffset g).toNat), Exc.gp 0)] () s2) fun _ _ => true
    let task (s : State) (v : Byte) (src : Src) (q : Quad → State → Bool) := read s v src fun g s1 =>
      completes (checked (tests s src g) () s1) fun _ _ => descType g == 5 && q g s1
    let gate := put prot 0x090A [0x30, 0, 0, 0x85]
    prot.pe = true ∧ (0x010E : Half).toNat < (0x21 : Byte).toNat * 8 + 7 ∧
      raises (sysRead (0x00500000 + BitVec.ofNat 32 ((0x21 : Byte).toNat * 8)) 8
        (({ paged with idtr := { base := 0x00500000, limit := 0x010F } } : State).deliverOn true .benign)) (fun _ _ => true) = true ∧
      fails (put prot 0x090D [0x8C]) = true ∧ fails { user with idtr := { user.idtr with limit := 0x010F } } = true ∧
      fails (put prot 0x090D [0x0E]) = true ∧
      target (put prot 0x090A [0x03]) (fun g _ => selIndex (gateSelector g) == 0) = true ∧
      target (put prot 0x090A [0x40]) (fun g s1 => selIndex (gateSelector g) != 0 &&
        raises (descRead (gateSelector g) 13 s1) fun _ _ => true) = true ∧
      code (put prot 0x090A [0x10]) = true ∧ code (put prot 0x100D [0x1A]) = true ∧
      code (put (put prot 0x090E [0x01]) 0x100E [0x40]) = true ∧
      task gate 0x21 .software (fun g s1 => raises (taskSwitch (gateSelector g) .int 0x4002 s1) fun _ _ => true) = true ∧
      task (taskB gate) 0x21 .software (fun g s1 => completes (taskSwitch (gateSelector g) .int 0x4002 s1) fun _ _ => true) = true ∧
      task (taskB (put prot 0x086A [0x30, 0, 0, 0x85])) 13 .exception (fun g s1 =>
        completes (taskSwitch (gateSelector g) .int 0x4000 s1) fun _ s2 =>
          completes (memWrite .ss (s2.spBelow 4) 4 0 s2) fun _ _ => s2.tr.is32) = true := by decide +kernel

/-- Without and with an error code, at both sizes, for a software interrupt, an exception and an external interrupt; at 16 bits
the slots reach the bottom of the segment; without and with the accessed bit to be set. -/
theorem witness_SameLevelDelivery :
    let enters (s : State) (v : Byte) (src : Src) (err : Option Half) (o : OSize) :=
      opens s v src fun g d s1 => (descConforming d || descDPL d == s.cpl) && gateSize g == o &&
        completes (selectorAt o s.cs.selector s1) fun w s2 =>
          completes (stage o 0 ([s.flags.image, w, 0x4002] ++ errWords err) s2) fun _ s3 => marks s3 (gateSelector g) d
    let low := put { prot with regs := { prot.regs with esp := 8 } } 0x086D [0x86]
    enters prot 0x21 .software none .o32 = true ∧ enters (marking low) 13 .exception (some 0x010A) .o16 = true ∧
      enters (marking prot) 0x21 .external none .o32 = true := by decide +kernel

/-- A TSS that ends one byte before the stack of level 0, and one that ends with it; a TSS in an unmapped page, and one whose
next page is; a null SS0, one beyond the GDT; a slot that its segment allows, and one it does not, to a mapped page and to an
unmapped one; the deliveries from CPL 3, without and with an error code, whose new stack raises in a read, a test and a push,
of every source; and those that complete. -/
theorem witness_InnerLevelDelivery :
    let inner (s : State) (v : Byte) (src : Src) (q : Quad → Quad → State → Bool) :=
      opens s v src fun g d s1 => !descConforming d && decide ((descDPL d).toNat < s.cpl.toNat) && q g d s1
    let pushes (s : State) (v : Byte) (src : Src) (err : Option Half)
        (q : EStateM.Result Abort State Unit → Half × Word × Quad → Quad → Quad → Bool) :=
      inner s v src fun g d s1 =>
        completes (innerStack (descDPL d) s1) fun st s2 =>
          completes (selectorAt (gateSize g) s.ss.selector s2) fun ss s3 =>
            completes (selectorAt (gateSize g) s.cs.selector s3) fun cs s4 =>
              q (stageVia (Exc.ss (st.1 &&& 0xFFFC)) (cacheOf st.2.2 true (descDPL d)) (descDPL d) st.2.1 (gateSize g) 0
                ([ss, s.regs.esp, s.flags.image, cs, 0x4002] ++ errWords err) s4) st g d
    let enters (s : State) (v : Byte) (src : Src) (err : Option Half) := pushes s v src err fun r st g d =>
      completes r fun _ s5 => marks s5 st.1 st.2.2 && marks s5 (gateSelector g) d
    let short (s : State) := put (put s 0x1011 [0x0F]) 0x1016 [0x40]
    let reads (s : State) (q : Half → State → Bool) :=
      completes (sysRead (s.tr.base + BitVec.ofNat 32 4) 4 s) fun _ s1 =>
        completes (sysRead (s.tr.base + BitVec.ofNat 32 (4 + 4)) 2 s1) fun ss s2 => q (ss.setWidth 16) s2
    let tssAt (b : Word) := { paged with tr := { paged.tr with base := b } }
    let ss0 := prot.ss.cache
    let slot (s : State) (off : Word) (q : EStateM.Result Abort State Unit → Bool) :=
      q (linWrite (segLinear ss0 off.toNat) 4 0 (accAt .write 0) s)
    (8 : Word).toNat < 4 + 4 + 1 ∧ 4 + 4 + 1 ≤ (9 : Word).toNat ∧ user.tr.is32 = true ∧
      raises (sysRead ((tssAt 0x00401000).tr.base + BitVec.ofNat 32 4) 4 (tssAt 0x00401000)) (fun _ _ => true) = true ∧
      completes (sysRead ((tssAt 0x00400FF8).tr.base + BitVec.ofNat 32 4) 4 (tssAt 0x00400FF8)) (fun _ s1 =>
        raises (sysRead ((tssAt 0x00400FF8).tr.base + BitVec.ofNat 32 (4 + 4)) 2 s1) fun _ _ => true) = true ∧
      reads (put user 0x3008 [0x00]) (fun ss _ => selIndex ss == 0) = true ∧
      reads (put user 0x3008 [0x40]) (fun ss s2 => selIndex ss != 0 && raises (descRead ss 10 s2) fun _ _ => true) = true ∧
      reads user (fun ss s2 => selIndex ss != 0 && completes (descRead ss 10 s2) fun _ _ => true) = true ∧
      segAllows ss0 false true 0xFFFFFFFC 4 .write = true ∧ segAllows ss0 false true 0xFFFFFFFE 4 .write = false ∧
      slot paged 0x2000 (fun r => completes r fun _ _ => true) = true ∧
      slot paged 0x00401000 (fun r => raises r fun _ _ => true) = true ∧
      inner { user with tr := { user.tr with limit := 8 } } 0x80 .external (fun _ d s1 =>
        raises (innerStack (descDPL d) s1) fun e _ => e.vector == 10) = true ∧
      inner (put user 0x3008 [0x08]) 13 .exception (fun _ d s1 =>
        raises (innerStack (descDPL d) s1) fun e _ => e.vector == 10) = true ∧
      inner (put user 0x3008 [0x00]) 0x80 .software (fun _ d s1 =>
        raises (innerStack (descDPL d) s1) fun e _ => e.vector == 10) = true ∧
      pushes (short user) 0x80 .external none (fun r _ _ _ => raises r fun e _ => e.vector == 12) = true ∧
      pushes (short user) 13 .exception (some 0x010A) (fun r _ _ _ => raises r fun e _ => e.vector == 12) = true ∧
      enters user 0x80 .software none = true ∧ enters (marking user) 13 .exception (some 0x010A) = true ∧
      enters user 0x80 .external none = true := by decide +kernel

theorem witness_SoftwareInterruptsInRealMode : overflowed.RealReady ∧ overflowed.flags.of = true ∧ real.flags.of = false :=
  ⟨overflowed_ready, by decide, by decide⟩

/-- An offset within 0xFFFF, and the first one beyond. -/
theorem witness_InterruptReturnInRealMode :
    let p (o : OSize) (s : State) (q : Word → Bool) :=
      completes (peek o 0 s) fun off s1 =>
        completes (peek o o.bytes s1) fun _ s2 => completes (peek o (2 * o.bytes) s2) fun _ _ => q (cut o.size off)
    real.pe = false ∧ p .o16 (put real 0x1000 [0xFF, 0xFF]) (fun t => t.toNat == 0xFFFF) = true ∧
      p .o32 (put real 0x1000 [0x00, 0x00, 0x01]) (fun t => t.toNat == 0x10000) = true := by decide +kernel

theorem witness_ReturnAfterInterruptRestores : real.RealReady ∧ real.eip.toNat ≤ 0xFFFF :=
  ⟨real_ready, by decide⟩

/-! ### Memory -/

/-- The last word of a segment passes, the next offset does not; with paging, accesses within a page that complete and one that
faults, and accesses across a page boundary that complete and one whose third byte faults. -/
theorem witness_OperandAccess :
    let crosses (s : State) (l : Word) (q : EStateM.Result Abort State (List Word) → Bool) :=
      s.pg && decide (4096 < l.toNat % 4096 + 4) && q (translateBytes l (accAt .write 0) 4 s)
    real.pg = false ∧ real.pe = false ∧ real.allows .w .read (.mem .ds 0xFFFE) = true ∧
      real.allows .w .write (.mem .ss 0xFFFF) = false ∧ paged.pg = true ∧
      completes (readLoc .d (.mem .ds 0x00400000) paged) (fun _ _ => true) = true ∧
      completes (openLoc .d (.mem .ds 0x00400000) paged) (fun _ _ => true) = true ∧
      completes (writeLoc .d 1 (.mem .ds 0x00400000) paged) (fun _ _ => true) = true ∧
      (0x00400FFC : Word).toNat % 4096 + 4 ≤ 4096 ∧
      completes (Machine.translate 0x00400FFC (accAt .read 0) paged) (fun _ t =>
        completes (linReadBytes (0x00400FFC + 1) (accAt .read 0) 3 t) fun _ _ =>
          completes (translateBytes (0x00400FFC + 1) (accAt .read 0) 3 t) fun _ _ => true) = true ∧
      raises (Machine.translate 0x00401000 (accAt .read 0) paged) (fun _ _ => true) = true ∧
      completes (Machine.translate 0x00400FFF (accAt .read 0) paged) (fun _ t =>
        raises (linReadBytes (0x00400FFF + 1) (accAt .read 0) 3 t) fun _ _ =>
          raises (translateBytes (0x00400FFF + 1) (accAt .read 0) 3 t) fun _ _ => true) = true ∧
      paged.params.straddle = .bytewise ∧ crosses paged 0x00000FFE (fun r => completes r fun ps _ => ps.length == 4) = true ∧
      crosses { paged with params := { paged.params with straddle := .allOrNothing } } 0x00400FFE
        (fun r => raises r fun e t => e.vector == 14 && t.cr2 == 0x00401000) = true := by decide +kernel

/-- The last eight bytes of RAM; with A20 off, four bytes whose addresses lie below 1 MiB and at 2 MiB; bytes beside each; the
first address above RAM, and the last physical address of all. -/
theorem witness_StoreThenLoad :
    let off := { real with a20 := false }
    let phys (s : State) (p : Word) (i : Nat) := (s.maskA20 (BitVec.ofNat 32 (p.toNat + i))).toNat
    real.mem.wf = true ∧ (0x00FFFFF8 : Word).toNat + 8 ≤ 2 ^ 32 ∧
      (∀ i, i < 8 → real.provider (phys real 0x00FFFFF8 i) = none ∧ phys real 0x00FFFFF8 i < real.params.ramSize) ∧
      (∀ i, i < 4 → off.provider (phys off 0x001FFFFE i) = none ∧ phys off 0x001FFFFE i < off.params.ramSize) ∧
      phys off 0x001FFFFE 1 = 0x000FFFFF ∧ phys off 0x001FFFFE 2 = 0x00200000 ∧
      (∀ i, i < 8 → (0x00FFFFF7 : Nat) ≠ real.byteAt 0x00FFFFF8 i) ∧
      (∀ i, i < 4 → (0x00100000 : Nat) ≠ off.byteAt 0x001FFFFE i) ∧
      (∀ i, i < 4 → (0x01000000 : Word).toNat + i < 2 ^ 32 →
        real.params.ramSize ≤ real.byteAt 0x01000000 i ∧ 0x100000 ≤ real.byteAt 0x01000000 i) ∧
      (∀ i, i < 8 → (0xFFFFFFFC : Word).toNat + i < 2 ^ 32 →
        real.params.ramSize ≤ real.byteAt 0xFFFFFFFC i ∧ 0x100000 ≤ real.byteAt 0xFFFFFFFC i) := by
  refine ⟨by decide, by decide, by decide, by decide, by decide, by decide, by decide, by decide, by decide, by decide⟩

/-- The two entries of a walk, as PageWalk reads them: not present in the directory; not present in the table; denied; and
allowed. -/
theorem witness_PageWalk :
    let entries (s : State) (l : Word) : Word × Word :=
      let pde : Word := (s.physRead ((s.cr3 &&& 0xFFFFF000) ||| (l >>> 22) * 4) 4).1.setWidth 32
      (pde, (s.physRead ((pde &&& 0xFFFFF000) ||| ((l >>> 12) &&& 0x3FF) * 4) 4).1.setWidth 32)
    let present (e : Word × Word) : Bool × Bool := (e.1.getLsbD 0, e.2.getLsbD 0)
    let readOnly := put paged 0x203000 [0x05]
    real.pg = false ∧ paged.pg = true ∧ (present (entries paged 0x00800000)).1 = false ∧
      present (entries paged 0x00401000) = (true, false) ∧ present (entries readOnly 0x00400000) = (true, true) ∧
      (entries readOnly 0x00400000).2.getLsbD 1 = false ∧ present (entries paged 0x00400000) = (true, true) ∧
      (entries paged 0x00400000).2.getLsbD 1 = true := by decide +kernel

/-- Any window up to the stack pointer of a real-mode state. -/
theorem real_stack_window (k : Nat) (h : k ≤ 0x1000) : real.StackWindow k where
  noPaging := by decide
  noWrap := h
  ram := ⟨by decide, by decide, by decide, by decide, by decide⟩
  allowed := by
    intro off n _ h2 _
    have h3 : off + n ≤ 0x1000 := h2
    have e : ∀ w, segAllows real.ss.cache false real.pe off n w = !decide (0xFFFF < off + n - 1) := fun _ => rfl
    rw [e, e]
    simp
    omega

theorem witness_PushThenPopCopies : real.StackWindow OSize.o32.bytes ∧ Reg.eax ≠ .esp :=
  ⟨real_stack_window 4 (by decide), by decide⟩

/-- The tests of the descriptor of sel, once it is read in protected mode. -/
def testing (s : State) (g : SReg) (sel : Half)
    (q : EStateM.Result Abort State Unit → Quad → State → Bool) : Bool :=
  s.pe && selIndex sel != 0 && completes (descRead sel 13 s) fun d s2 => q (checked (segTests g sel s.cpl d) () s2) d s2

/-- What the tests passed leave before the accessed bit is set. -/
def loadedSeg (s : State) (g : SReg) (sel : Half) (d : Quad) : State :=
  s.setSeg g { selector := sel, cache := cacheOf d (decide (g = .ss)) (selRPL sel) }

/-- Real mode; a null selector; a selector beyond the GDT; each register's tests failed and passed, without and with the accessed
bit to be set, and with its write faulting. -/
theorem witness_SegmentLoads :
    let named (s : State) (v : Word) (q : Half → State → Bool) :=
      completes (readLoc .w (rmv (.reg .eax) (withAB s v 0 false)) (withAB s v 0 false)) fun v s1 => q (v.setWidth 16) s1
    let found (s : State) (g : SReg) (v : Word) (q : EStateM.Result Abort State Unit → Half → Quad → State → Bool) :=
      named s v fun sel s1 => testing s1 g sel fun r d s2 => q r sel d s2
    let fails (s : State) (g : SReg) (v : Word) := found s g v fun r _ _ _ => raises r fun _ _ => true
    let loads (s : State) (g : SReg) (v : Word) := found s g v fun r sel d s2 => completes r fun _ _ =>
      marks (loadedSeg s2 g sel d) sel d
    named real 0x10 (fun _ s1 => !s1.pe) = true ∧ named prot 0x0003 (fun sel s1 => s1.pe && selIndex sel == 0) = true ∧
      named prot 0x40 (fun sel s1 => s1.pe && selIndex sel != 0 && raises (descRead sel 13 s1) fun _ _ => true) = true ∧
      fails prot .ss 0x13 = true ∧ fails prot .ss 0x08 = true ∧ fails prot .ss 0x20 = true ∧
      fails (put prot 0x1015 [0x12]) .ss 0x10 = true ∧ fails prot .ds 0x28 = true ∧ fails (put prot 0x100D [0x98]) .ds 0x08 = true ∧
      fails prot .ds 0x13 = true ∧ fails (put prot 0x1015 [0x12]) .ds 0x10 = true ∧ loads prot .ss 0x10 = true ∧
      loads (marking prot) .ds 0x10 = true ∧ loads (put prot 0x100D [0x9E]) .gs 0x0B = true ∧
      found locked .ss 0x10 (fun r sel d s2 => completes r fun _ _ => markRaises (loadedSeg s2 .ss sel d) sel d) = true := by
  decide +kernel

/-! ### Arithmetic and flags -/

/-- The largest operands and results of each width, and a borrow. -/
theorem witness_SumAndDifferenceFlags :
    (0xFF : Word).toNat < 2 ^ Size.b.bits ∧ (0xFFFF : Word).toNat < 2 ^ Size.w.bits ∧
      (0xFFFFFFFF : Word).toNat < 2 ^ Size.d.bits ∧ (0x80 : Word).toNat < 2 ^ Size.b.bits ∧
      (0x01 : Word).toNat < 2 ^ Size.b.bits := by decide

/-- Operands whose sum is inside the signed range, and operands whose sum is outside it. -/
theorem witness_OverflowIsSignedRange :
    (0x7F : Word).toNat < 2 ^ Size.b.bits ∧ signed .b 0x7F + signed .b 0x80 = -1 ∧
      signed .b 0x7F + signed .b 0x01 = 128 := by decide

theorem witness_ArithmeticAndShiftLaws :
    (0xABCD : Word).toNat < 2 ^ 16 ∧ (0xFF : Word).toNat < 2 ^ Size.b.bits ∧ (1 ≤ 15 ∧ 15 ≤ 15) ∧ (16 ≤ 16 ∧ 31 ≤ 31) ∧
      Reg.eax ≠ .ebx ∧ Reg8.al ≠ .ah := by decide

theorem witness_DecimalAdjustForms : (0x0A : Byte) ≠ 0 := by decide

/-- A bit of each clause: a status flag, IOPL, a fixed bit and the last reserved one. -/
theorem witness_EflagsWriteThenImage :
    11 ∈ [0, 2, 4, 6, 7, 8, 9, 10, 11, 14, 16, 17, 18, 19, 20, 21] ∧ 13 ∈ [12, 13] ∧ 1 < 32 ∧ 31 < 32 := by decide

theorem witness_RegisterViews : Reg.esi ≠ .edi ∧ Reg8.al ≠ .ah ∧ Reg.ecx ≠ reg8Cell .ah ∧ Size.w.bits ≤ 16 := by decide

theorem witness_ResetValues : SReg.ss ≠ .cs := by decide

/-- A destination in memory at the end of its segment; a register destination with a memory source; a comparison. -/
theorem witness_BinaryForms :
    let p (i : Instr) (f : BinForm → Bool) (w : Bool) := (binForm i).any fun f' => f f' && f'.op.writes == w
    p (.addRmvRv .o16 (.mem (at16 0xFFFE)) .ebx) (fun f =>
        completes (openLoc f.size (f.dst real) real) fun _ s1 => completes (readSrc f.size (f.src real) s1) fun _ _ => true) true
        = true ∧
      p (.andR8Rm8 .ah (.mem (at16 0xFFFF))) (fun f =>
        completes (openLoc f.size (f.dst real) real) fun _ s1 => completes (readSrc f.size (f.src real) s1) fun _ _ => true) true
        = true ∧
      p (.cmpRm8Imm8 (.mem (at16 0xFFFF)) 7) (fun f =>
        completes (readLoc f.size (f.dst real) real) fun _ s1 => completes (readSrc f.size (f.src real) s1) fun _ _ => true)
        false = true := by decide +kernel

theorem witness_UnaryForms :
    (unForm (.incRmv .o32 (.mem (at16 0xFFFC)))).any (fun (_, sz, dst) => completes (openLoc sz (dst real) real) fun _ _ => true)
      = true := by decide +kernel

/-- Counts 0 (32 masked), 1 and above. -/
theorem witness_ShiftForms :
    let p (i : Instr) (n : Nat) :=
      (shiftForm i).any fun (_, sz, dst, count) =>
        completes (openLoc sz (dst real) real) fun _ _ => (count real &&& 0x1F).toNat == n
    p (.shlRm8Imm8 (.mem (at16 0xFFFF)) 32) 0 = true ∧ p (.rolRmvOne .o16 (.reg .eax)) 1 = true ∧
      p (.sarRmvImm8 .o32 (.mem (at16 0xFFFC)) 31) 31 = true ∧ p (.rcrRm8Cl (.reg .ah)) 0 = true := by decide +kernel

theorem witness_MultiplyForms :
    (mulForm (.imulRmv .o16 (.mem (at16 0xFFFE)))).any (fun (_, sz, src) => completes (readLoc sz (src real) real) fun _ _ => true)
        = true ∧
      (mulIntoForm (.imulRvRmvImmv .eax (.mem (at16 0xFFFC)) (.i32 3))).any (fun (sz, _, src, _) =>
        completes (readLoc sz (src real) real) fun _ _ => true) = true := by decide +kernel

/-- A quotient at the end of its range, one beyond it, and a zero divisor; signed and unsigned. -/
theorem witness_DivideForms :
    let s := withAB real 0x0080 0xFF false
    let u := withAB real 0xFEFF 0xFF false
    let big := withAB real 0xFFFF 0xFF false
    (divForm (.idivRm8 (.reg .bl))).any (fun (sgn, sz, src) => completes (readLoc sz (src s) s) fun d _ =>
        sgn && decide (signedDividend sz (dividend sz s.regs) = -128 * signed sz d + 0)) = true ∧
      (divForm (.divRm8 (.reg .bl))).any (fun (sgn, sz, src) => completes (readLoc sz (src u) u) fun d _ =>
        !sgn && decide ((dividend sz u.regs).toNat = 255 * d.toNat + 254 ∧ 254 < d.toNat)) = true ∧
      (divForm (.divRm8 (.reg .bl))).any (fun (_, sz, src) => completes (readLoc sz (src big) big) fun d _ =>
        decide ((dividend sz big.regs).toNat = 257 * d.toNat + 0)) = true ∧
      (divForm (.divRm8 (.reg .bl))).any (fun (_, sz, src) => completes (readLoc sz (src real) real) fun d _ => d == 0)
        = true := by decide +kernel

/-! ### Data, flags and stack -/

/-- Both register forms of 8C, and a store at the end of a segment. -/
theorem witness_RegisterMoves :
    real.sregFormSize .o16 = .o16 ∧ prot.sregFormSize .o32 = .o32 ∧
      completes (writeLoc .w ((real.seg .ds).selector.setWidth 32) (rmv (.mem (at16 0xFFFE)) real) real) (fun _ _ => true) =
        true := by decide +kernel

/-- R282 at the code segment's own operand size: in 16-bit code `8C D8` writes AX alone, and in 32-bit code it draws the upper
half of EAX. -/
theorem test_selector_to_register :
    (stepOn (withAB real 0x12345678 0 false) [0x8C, 0xD8]).any (fun t => t.regs.eax == 0x12340000) = true ∧
      (stepOn (withAB prot 0x12345678 0 false) [0x8C, 0xD8]).any (fun t => t.draws == prot.draws + 1) = true := by
  decide +kernel

/-- A register destination, a byte register, and a memory one at the end of its segment. -/
theorem witness_MoveForms :
    let p (i : Instr) (d : Loc) :=
      (moveForm i).any fun (sz, dst, src) => dst real == d && completes (readSrc sz (src real) real) fun v s1 =>
        completes (writeLoc sz v d s1) fun _ _ => s1.allows sz .write d && !real.pg
    p (.movRvRmv .o16 .eax (.mem (at16 0xFFFE))) (.reg .eax) = true ∧
      p (.movR8Imm8 .bh 5) (.reg8 .bh) = true ∧
      p (.movMoffsEax .o32 (some .es) (.a16 0xFFFC)) (.mem .es 0xFFFC) = true := by decide +kernel

/-- A push whose slot ends at the top of the stack segment, and one of a segment register. -/
theorem witness_PushForms :
    let s := { real with regs := { real.regs with esp := 0 } }
    (pushForm (.pushRv .o16 .eax)).any (fun (o, val) =>
        completes (memWrite .ss (s.spBelow o.bytes) o.bytes ((val s).setWidth 64) s) fun _ _ => s.spBelow o.bytes == 0xFFFE)
        = true ∧
      (pushSegForm (.pushGs .o32)).any (fun (o, _) =>
        completes (memWrite .ss (real.spBelow o.bytes) o.bytes 0 real) fun _ _ => true) = true := by decide +kernel

/-- A pop in real mode, and in protected mode pops of a null selector, of one beyond the GDT, of one whose descriptor fails its
tests, of one that loads, without and with the accessed bit to be set, and of one whose accessed bit cannot be written. -/
theorem witness_PopForms :
    let pops (s : State) (sel : Byte) (q : Half → State → Bool) :=
      completes (peek .o32 0 (put s 0x2000 [sel])) fun v s1 => s1.pe && q (v.setWidth 16) s1
    completes (peek .o16 0 real) (fun _ _ => !real.pe) = true ∧ popSegForm (.popDs .o32) = some (.o32, .ds) ∧
      popSegForm (.popSs .o32) = some (.o32, .ss) ∧ pops prot 0x03 (fun sel _ => selIndex sel == 0) = true ∧
      pops prot 0x40 (fun sel s1 => selIndex sel != 0 && raises (descRead sel 13 s1) fun _ _ => true) = true ∧
      pops prot 0x08 (fun sel s1 => raises (loadSeg .ss sel s1) fun _ _ => true) = true ∧
      pops prot 0x08 (fun sel s1 => testing s1 .ss sel fun r _ _ => raises r fun _ _ => true) = true ∧
      pops prot 0x10 (fun sel s1 => completes (loadSeg .ds sel s1) fun _ _ => true) = true ∧
      pops (marking prot) 0x10 (fun sel s1 => testing s1 .ss sel fun r d s2 => completes r fun _ _ =>
        marks (loadedSeg s2 .ss sel d) sel d) = true ∧
      pops locked 0x10 (fun sel s1 => testing s1 .ds sel fun r d s2 => completes r fun _ _ =>
        markRaises (loadedSeg s2 .ds sel d) sel d) = true := by decide +kernel

theorem witness_PushAllPopAll :
    completes (stage .o32 0 [real.regs.eax, real.regs.ecx, real.regs.edx, real.regs.ebx, real.sp, real.regs.ebp, real.regs.esi,
        real.regs.edi] real) (fun _ _ => true) = true ∧
      completes (peekAll .o16 [0, 2, 4, 6, 8, 10, 12, 14] real) (fun vs _ => vs.length == 8) = true ∧
      real.StackWindow (8 * OSize.o32.bytes) :=
  ⟨by decide +kernel, by decide +kernel, real_stack_window 32 (by decide)⟩

/-- CPL at IOPL, and above it. -/
theorem witness_FlagInstructions :
    let s := { user with flags := { user.flags with iopl := 3 } }
    s.cpl.toNat ≤ s.flags.iopl.toNat ∧ user.pe = true ∧ user.flags.iopl.toNat < user.cpl.toNat := by decide +kernel

/-! ### Control transfer -/

/-- A condition that holds and one that does not; a target at the limit of CS and one beyond it. -/
theorem witness_NearJumps :
    let p (s : State) (o : OSize) (rel : Word) := (cut o.size (s.eip + rel)).toNat
    let small := { prot with cs := { prot.cs with cache := { prot.cs.cache with limit := 0x4FFF } } }
    jccForm (.jnoRel8 .o16 0x10) = some (1, .o16, 0x10) ∧ real.flags.cond 1 = true ∧ real.flags.cond 0 = false ∧
      p real .o16 0xFEFF ≤ real.cs.cache.limit.toNat ∧ p small .o32 0x0FFF ≤ small.cs.cache.limit.toNat ∧
      small.cs.cache.limit.toNat < p small .o32 0x1000 ∧ jmpForm (.jmpRel8 .o32 0x10) = some (.o32, 0x10) ∧
      completes (readLoc .w (rmv (.mem (at16 0xFFFE)) real) real) (fun t _ =>
        decide ((cut .w t).toNat ≤ real.cs.cache.limit.toNat)) = true ∧
      completes (readLoc .d (rmv (.reg .eax) (withAB small 0x5000 0 false)) (withAB small 0x5000 0 false)) (fun t _ =>
        decide (small.cs.cache.limit.toNat < (cut .d t).toNat)) = true := by decide +kernel

theorem witness_NearCallsAndReturns :
    let small := { prot with cs := { prot.cs with cache := { prot.cs.cache with limit := 0x4FFF } } }
    let far := withAB small 0x5000 0 false
    (cut .w (real.eip + immSext (.i16 0xFEFF))).toNat ≤ real.cs.cache.limit.toNat ∧
      completes (memWrite .ss (real.spBelow 2) 2 (real.eip.setWidth 64) real) (fun _ _ => true) = true ∧
      small.cs.cache.limit.toNat < (cut .d (small.eip + immSext (.i32 0x1000))).toNat ∧
      completes (readLoc .w (rmv (.mem (at16 0xFFFE)) real) real) (fun t s1 =>
        completes (memWrite .ss (real.spBelow 2) 2 (real.eip.setWidth 64) s1) fun _ _ =>
          decide ((cut .w t).toNat ≤ real.cs.cache.limit.toNat)) = true ∧
      completes (readLoc .d (rmv (.reg .eax) far) far) (fun t _ => decide (far.cs.cache.limit.toNat < (cut .d t).toNat)) = true ∧
      completes (peek .o16 0 real) (fun t _ => decide ((cut .w t).toNat ≤ real.cs.cache.limit.toNat)) = true ∧
      completes (peek .o32 0 (put small 0x2000 [0x00, 0x50])) (fun t _ =>
        decide (small.cs.cache.limit.toNat < (cut .d t).toNat)) = true := by decide +kernel

theorem witness_CallThenReturnRestores :
    real.StackWindow 2 ∧ (cut .w (real.eip + immSext (.i16 0xFEFF))).toNat ≤ real.cs.cache.limit.toNat ∧
      cut .w real.eip = real.eip ∧ real.eip.toNat ≤ real.cs.cache.limit.toNat :=
  ⟨real_stack_window 2 (by decide), by decide, by decide, by decide⟩

/-- The first offset beyond 0xFFFF, and the last within it. -/
theorem witness_FarTransfersInRealMode :
    real.pe = false ∧ 0xFFFF < (immVal (.i32 0x10000)).toNat ∧ (immVal (.i32 0xFFFF)).toNat ≤ 0xFFFF ∧
      completes (stage .o32 0 [0, real.eip] { real with draws := 1 }) (fun _ _ => true) = true ∧
      completes (peek .o16 0 real) (fun off s1 => completes (peek .o16 2 s1) fun _ _ => decide ((cut .w off).toNat ≤ 0xFFFF))
        = true ∧
      completes (peek .o32 0 (put real 0x1000 [0, 0, 1])) (fun off s1 =>
        completes (peek .o32 4 s1) fun _ _ => decide (0xFFFF < (cut .d off).toNat)) = true := by decide +kernel

/-- Returns in PM-base: a null CS, one beyond the GDT, one that fails its tests; to CPL 0 and to CPL 3, by RETF, RETF imm16 and
IRET; an outer SS that is null, beyond the GDT, of a wrong DPL; to virtual-8086 mode; and to a task that loads, and one that does
not. -/
theorem witness_ReturnsInProtectedMode :
    let frame (s : State) (k : Nat) (off sel : Byte) := put s (0x2000 + k) [0x00, off, 0, 0, sel]
    let same := put (frame prot 0 0x50 0x08) 0x2008 [0x02, 0x02]
    let outer (ss : Byte) := frame (put (frame prot 0 0x50 0x1B) 0x2008 [0x02, 0x02]) 0x0C 0x50 ss
    let popped (s : State) (q : Word → Half → State → Bool) :=
      s.pe && completes (peek .o32 0 s) fun off s1 => completes (peek .o32 4 s1) fun sel s2 => q (cut .d off) (sel.setWidth 16) s2
    let returns (s : State) (q : Word → Half → Quad → State → Bool) :=
      popped s fun off sel s2 => !s.flags.nt && completes (peek .o32 8 s2) fun fl s3 =>
        !fl.getLsbD 17 && completes (checkReturnCs sel off s3) fun d s4 => q off sel d s4
    let stack (s : State) (k : Nat) (q : EStateM.Result Abort State Unit → Half → Quad → State → Bool) :=
      popped s fun off sel s2 => completes (checkReturnCs sel off s2) fun _ s3 => selRPL sel != s.cpl &&
        completes (peek .o32 k s3) fun _ s4 => completes (peek .o32 (k + 4) s4) fun nssW s5 =>
          let nss : Half := nssW.setWidth 16
          selIndex nss != 0 && completes (descRead nss 13 s5) fun ds s6 =>
            q (checked
              [(decide (selRPL nss ≠ selRPL sel) || !descS ds || descCode ds || !descWritable ds || decide (descDPL ds ≠ selRPL sel),
                Exc.gp nss), (!descP ds, Exc.ss nss)] () s6) nss ds s6
    let link := { put prot 0x3000 [0x30] with flags := { prot.flags with nt := true } }
    selIndex 0x0003 = 0 ∧ raises (descRead 0x40 13 prot) (fun _ _ => selIndex 0x40 != 0) = true ∧
      completes (descRead 0x10 13 prot) (fun _ s1 => raises (checkReturnCs 0x10 0 s1) fun _ _ => true) = true ∧
      popped (frame prot 0 0x50 0x28) (fun off sel s2 => raises (checkReturnCs sel off s2) fun _ _ => true) = true ∧
      returns same (fun _ sel d s4 => selRPL sel == same.cpl && marks s4 sel d) = true ∧
      returns (marking (outer 0x23)) (fun _ sel d s4 => selRPL sel != prot.cpl && marks s4 sel d) = true ∧
      stack (outer 0x23) 12 (fun r nss ds s6 => completes r fun _ _ => marks s6 nss ds) = true ∧
      stack (frame (frame prot 0 0x50 0x1B) 0x08 0x50 0x23) 8 (fun r nss ds s6 => completes r fun _ _ => marks s6 nss ds) = true ∧
      stack (outer 0x13) 12 (fun r _ _ _ => raises r fun _ _ => true) = true ∧
      completes (peek .o32 16 (outer 0x03)) (fun nss _ => selIndex (nss.setWidth 16) == 0) = true ∧
      completes (peek .o32 16 (outer 0x43)) (fun nss s5 => selIndex (nss.setWidth 16) != 0 &&
        raises (descRead (nss.setWidth 16) 13 s5) fun _ _ => true) = true ∧
      completes (peek .o32 8 (put prot 0x200A [0x02])) (fun fl _ => fl.getLsbD 17 && prot.cpl == 0) = true ∧
      link.pe = true ∧ link.flags.nt = true ∧
      completes (sysRead link.tr.base 2 link) (fun l s1 => raises (taskSwitch (l.setWidth 16) .iret 0x4001 s1) fun _ _ => true)
        = true ∧
      completes (sysRead link.tr.base 2 (taskB link)) (fun l s1 =>
        completes (taskSwitch (l.setWidth 16) .iret 0x4001 s1) fun _ _ => true) = true := by decide +kernel

/-- A null selector, one beyond the GDT; a code segment that fails its tests, and one that passes, for JMP and CALL; a TSS and a
task gate, to a task that loads and to one that does not, and a TSS that is not present; a busy TSS and a data segment. -/
theorem witness_FarTransfersInProtectedMode :
    let found (s : State) (sel : Half) (q : Quad → State → Bool) :=
      s.pe && selIndex sel != 0 && completes (descRead sel 13 s) fun d s1 => q d s1
    let task (s : State) (sel : Half) (q : EStateM.Result Abort State Unit → Half → State → Bool) := found s sel fun d s1 =>
      !descS d && decide (descType d ∈ [1, 5, 9]) &&
        q (checked [(decide ((descDPL d).toNat < s.cpl.toNat) || decide ((descDPL d).toNat < (selRPL sel).toNat), Exc.gp sel),
          (!descP d, Exc.np sel)] () s1) (if descType d = 5 then gateSelector d else sel) s1
    let gate := put prot 0x103A [0x30, 0, 0, 0x85]
    prot.pe = true ∧ selIndex 0x0003 = 0 ∧ raises (descRead 0x40 13 prot) (fun _ _ => selIndex 0x40 != 0) = true ∧
      found user 0x08 (fun d s1 => descS d && descCode d && raises (checkDirectCs 0x08 0 s1) fun _ _ => true) = true ∧
      found (marking prot) 0x08 (fun d s1 => descS d && descCode d && completes (checkDirectCs 0x08 0xFFFFFFFF s1) fun d2 s2 =>
        marks s2 0x08 d2 && completes (stage .o32 0 [0x08, prot.eip] { s2 with draws := 1 }) fun _ s3 => marks s3 0x08 d2) = true ∧
      task (put prot 0x1035 [0x09]) 0x30 (fun r _ _ => raises r fun _ _ => true) = true ∧
      task (taskB prot) 0x30 (fun r sel s1 => completes r fun _ _ => completes (taskSwitch sel .jmp 0x4007 s1) fun _ _ => true) = true ∧
      task (taskB gate) 0x38 (fun r sel s1 => completes r fun _ _ => completes (taskSwitch sel .call 0x4007 s1) fun _ _ => true)
        = true ∧
      task prot 0x30 (fun r sel s1 => completes r fun _ _ => raises (taskSwitch sel .call 0x4007 s1) fun _ _ => true) = true ∧
      found prot 0x28 (fun d _ => !descS d && decide (descType d ∉ [1, 4, 5, 9, 12])) = true ∧
      found prot 0x10 (fun d _ => descS d && !descCode d) = true := by decide +kernel

/-- Through the gate of E10: the gate and its target failing their tests; a target beyond the GDT; JMP and CALL to the same
privilege; and CALL to CPL 0: with parameters, with a TSS too short, with a stack too short, and completing. -/
theorem witness_CallGateTransfers :
    let gates (s : State) (sel : Half) (q : EStateM.Result Abort State Unit → Quad → State → Bool) :=
      s.pe && selIndex sel != 0 && completes (descRead sel 13 s) fun g s1 => !descS g && decide (descType g ∈ [4, 12]) &&
        q (checked [(decide ((descDPL g).toNat < s.cpl.toNat) || decide ((descDPL g).toNat < (selRPL sel).toNat), Exc.gp sel),
          (!descP g, Exc.np sel), (decide (selIndex (gateSelector g) = 0), Exc.gp 0)] () s1) g s1
    let targets (call : Bool) (s : State) (sel : Half) (q : EStateM.Result Abort State Unit → Quad → Quad → State → Bool) :=
      gates s sel fun r g s1 => completes r fun _ _ => completes (descRead (gateSelector g) 13 s1) fun d s2 =>
        q (checked [(!descS d || !descCode d || decide (s.cpl.toNat < (descDPL d).toNat), Exc.gp 8),
          (!call && !descConforming d && decide (descDPL d ≠ s.cpl), Exc.gp 8), (!descP d, Exc.np 8),
          (decide ((descLimit d).toNat < (gateOffset g).toNat), Exc.gp 0)] () s2) g d s2
    let inner (s : State) (q : Quad → Quad → State → Bool) := targets true s 0x3B fun r g d s2 => completes r fun _ _ =>
      !descConforming d && decide ((descDPL d).toNat < s.cpl.toNat) && q g d s2
    let newStack (s : State) (q : EStateM.Result Abort State Unit → Half → Quad → Quad → State → Bool) := inner s fun g d s2 =>
      gateCount g == 0 && completes (innerStack (descDPL d) s2) fun st s3 =>
        q (stageVia (Exc.ss 0) (cacheOf st.2.2 true (descDPL d)) (descDPL d) st.2.1 (gateSize g) 0 [0x23, s.regs.esp, 0x1B, s.eip]
          { s3 with draws := 2 }) st.1 st.2.2 d s3
    gates (put user 0x103D [0x8C]) 0x3B (fun r _ _ => raises r fun _ _ => true) = true ∧
      gates (put user 0x103D [0x6C]) 0x3B (fun r _ _ => raises r fun _ _ => true) = true ∧
      gates (put user 0x103A [0x03]) 0x3B (fun r _ _ => raises r fun _ _ => true) = true ∧
      gates (put user 0x103A [0x40]) 0x3B (fun r g s1 => completes r fun _ _ => raises (descRead (gateSelector g) 13 s1)
        fun _ _ => true) = true ∧
      targets false user 0x3B (fun r _ _ _ => raises r fun _ _ => true) = true ∧
      targets true (put user 0x103A [0x10]) 0x3B (fun r _ _ _ => raises r fun _ _ => true) = true ∧
      targets false prot 0x38 (fun r _ d s2 => completes r fun _ _ => marks s2 0x08 d) = true ∧
      targets true (marking prot) 0x38 (fun r g d s2 => completes r fun _ _ => descDPL d == prot.cpl &&
        completes (stage (gateSize g) 0 [0x08, prot.eip] { s2 with draws := 1 }) fun _ s3 => marks s3 0x08 d) = true ∧
      inner (put user 0x103C [0x01]) (fun g _ _ => gateCount g != 0) = true ∧
      inner { user with tr := { user.tr with limit := 8 } } (fun g d s2 => gateCount g == 0 &&
        raises (innerStack (descDPL d) s2) fun _ _ => true) = true ∧
      newStack (put user 0x1016 [0x40]) (fun r _ _ _ _ => completes r fun _ _ => true) = true ∧
      newStack (put (put user 0x1011 [0x0F]) 0x1016 [0x40]) (fun r _ _ _ _ => raises r fun _ _ => true) = true ∧
      newStack (marking user) (fun r ss ds d s3 => completes r fun _ _ => marks s3 ss ds && marks s3 0x08 d) = true := by decide +kernel

/-- A selector of the LDT and a null one; a TSS that fails its tests; the fields of a 32-bit and of a 16-bit TSS read; a task in
virtual-8086 mode; a switch whose saves and busy bits can be written, by JMP and by INT, to a task that loads and to one that does
not; and for LDTR and each segment register a null selector, one beyond the GDT, tests failed and tests passed; and accessed
bits that cannot be written. -/
theorem witness_TaskSwitch :
    let found (s : State) (sel : Half) (q : Quad → State → Bool) :=
      !selTI sel && selIndex sel != 0 && completes (descRead sel 13 s) fun d s1 => q d s1
    let passes (d : Quad) (s1 : State) := checked
      [(descS d || decide (descType d ∉ [1, 3, 9, 11]), Exc.gp 0x30), (decide (descType d ∈ [3, 11]), Exc.gp 0x30),
       (!descP d, Exc.np 0x30), (decide ((descLimit d).toNat < if isTss32 d then 0x67 else 0x2B), Exc.ts 0x30)] () s1
    let fields (s : State) (n : Nat) (q : Quad → TssImage → State → Bool) := found s 0x30 fun d s1 =>
      completes (passes d s1) fun _ _ => completes (readFields (descBase d) (tssFields (isTss32 d)) s1) fun vs s2 =>
        vs.length == n && q d (tssImage (isTss32 d) vs) s2
    let switches (s : State) (kind : TaskKind) (q : EStateM.Result Abort State Unit → Bool) := fields s 26 fun d t s2 =>
      !t.eflags.getLsbD 17 && completes (writeFields s.tr.base (savedFields s 0x4007 s.flags.image) s2) fun _ s3 =>
        completes (moveBusy 0x30 d kind s3) fun _ s7 => q (loadTaskSegments t (s7.commitTask 0x30 d kind t))
    let b16 := put (taskB prot) 0x1035 [0x81]
    let found10 (s : State) (sel : Half) (q : Quad → State → Bool) := selIndex sel != 0 && completes (descRead sel 10 s) fun d s1 =>
      q d s1
    let loads := found10 prot
    let ldt (s : State) (q : EStateM.Result Abort State Unit → Bool) := found s 0x30 fun d s1 =>
      q (checked [(descS d || decide (descType d ≠ 2), Exc.ts 0x30), (!descP d, Exc.ts 0x30)] () s1)
    selTI 0x2C = true ∧ selIndex 0x0003 = 0 ∧ raises (descRead 0x40 10 prot) (fun _ _ => true) = true ∧
      found prot 0x28 (fun d s1 => raises (passes d s1) fun _ _ => true) = true ∧
      fields (taskB prot) 26 (fun _ t _ => !t.eflags.getLsbD 17) = true ∧ fields b16 22 (fun d _ _ => !isTss32 d) = true ∧
      fields (put (taskB prot) 0x3126 [0x02]) 26 (fun _ t _ => t.eflags.getLsbD 17) = true ∧
      switches (taskB prot) .jmp (fun r => completes r fun _ _ => true) = true ∧
      switches (taskB prot) .int (fun r => completes r fun _ _ => true) = true ∧
      switches prot .call (fun r => raises r fun _ _ => true) = true ∧
      ldt (put prot 0x1035 [0x82]) (fun r => completes r fun _ _ => true) = true ∧
      ldt prot (fun r => raises r fun _ _ => true) = true ∧
      loads 0x08 (fun d s1 => descCode d && marks s1 0x08 d) = true ∧ loads 0x10 (fun d s1 => descWritable d && marks s1 0x10 d) = true ∧
      loads 0x28 (fun d _ => !descS d) = true ∧
      found10 locked 0x08 (fun d s1 => descCode d && markRaises (loadedSeg s1 .cs 0x08 d) 0x08 d) = true ∧
      found10 locked 0x10 (fun d s1 => descWritable d && markRaises (loadedSeg s1 .gs 0x10 d) 0x10 d) = true := by decide +kernel

/-! ### System instructions -/

theorem witness_PrivilegedInstructionsNeedCplZero :
    needsCpl0 .hlt = true ∧ user.pe = true ∧ user.cpl ≠ 0 ∧ needsProtection (.ltr (.reg .eax)) = true ∧ real.pe = false := by
  decide +kernel

theorem witness_SystemRegisterMoves :
    real.cpl = 0 ∧ ((withAB real 0x80000001 0 false).regs.get .eax).getLsbD 31 = true ∧
      ((withAB real 0x80000001 0 false).regs.get .eax).getLsbD 0 = true ∧
      ((withAB real 0x80000000 0 false).regs.get .eax).getLsbD 31 = true ∧
      ((withAB real 0x80000000 0 false).regs.get .eax).getLsbD 0 = false := by decide

/-- A table image at the end of a segment; a null selector, one of the LDT, one beyond the GDT, a descriptor of neither type, an
LDT and a TSS not present, an LDT descriptor, an available TSS, and one whose busy bit cannot be written. -/
theorem witness_TableRegisterLoads :
    let ldt := put prot 0x1035 [0x82]
    let tss := put prot 0x1035 [0x89]
    let lockedTss := put locked 0x1035 [0x89]
    let sel (s : State) (q : Half → State → Bool) :=
      completes (readLoc .w (rmv (.reg .eax) s) s) fun v s1 => s.pe && s.cpl == 0 && q (v.setWidth 16) s1
    let found (s : State) (n : Word) (q : Half → Quad → State → Bool) := sel (withAB s n 0 false) fun v s1 =>
      selIndex v != 0 && !selTI v && completes (descRead v 13 s1) fun d s2 => q v d s2
    let fails (v : Half) (types : List Nat) (d : Quad) (s2 : State) :=
      raises (checked [(descS d || decide (descType d ∉ types), Exc.gp v), (!descP d, Exc.np v)] () s2) fun _ _ => true
    let busy (s : State) (v : Half) (d : Quad) (s2 : State) :=
      sysWrite (s.gdtr.base + BitVec.ofNat 32 (selIndex v * 8) + 5) 1 ((descAccess d ||| 2).setWidth 64) s2
    completes (memRead .ds 0xFFFA 2 real) (fun _ s1 => completes (memRead .ds 0xFFFC 4 s1) fun _ _ => real.cpl == 0) = true ∧
      sel prot (fun v _ => selIndex v == 0) = true ∧
      sel (withAB prot 0x0C 0 false) (fun v _ => selIndex v != 0 && selTI v) = true ∧
      sel (withAB prot 0x40 0 false) (fun v s1 => selIndex v != 0 && !selTI v && raises (descRead v 13 s1) fun _ _ => true) = true ∧
      found prot 0x10 (fun v d s2 => fails v [2] d s2 && fails v [1, 9] d s2) = true ∧
      found (put prot 0x1035 [0x02]) 0x30 (fun v d s2 => descType d == 2 && fails v [2] d s2) = true ∧
      found (put prot 0x1035 [0x09]) 0x30 (fun v d s2 => descType d == 9 && fails v [1, 9] d s2) = true ∧
      found ldt 0x30 (fun _ d _ => !descS d && descType d == 2 && descP d) = true ∧
      found tss 0x30 (fun v d s2 => !descS d && descType d == 9 && descP d &&
        completes (busy tss v d s2) fun _ _ => true) = true ∧
      found lockedTss 0x30 (fun v d s2 => !descS d && descType d == 9 && descP d &&
        raises (busy lockedTss v d s2) fun _ _ => true) = true := by decide +kernel

/-- A port without a device, one with a device; a task with a 16-bit TSS; a 32-bit TSS whose bitmap can be read and one whose
cannot; bits that are clear and set, the last byte of the TSS, and one beyond it. -/
theorem witness_PortForms :
    let dev := { real with params := { real.params with ports := [0x60] } }
    let t16 := { user with tr := { user.tr with is32 := false } }
    let lost := { paged with cs := user.cs, tr := { user.tr with base := 0x00500000 } }
    let denied := put user 0x300C [0x01]
    let bit (s : State) (p : Nat) := (s.physRead (s.tr.base + BitVec.ofNat 32 (p / 8)) 1).1.getLsbD (p % 8)
    portForm (.inAlImm8 0x60) ≠ none ∧ completes (checkPort 0x60 1 real) (fun _ s1 => !s1.params.ports.contains 0x60) = true ∧
      completes (checkPort 0x60 1 dev) (fun _ s1 => s1.params.ports.contains 0x60) = true ∧
      real.pe = false ∧ t16.pe = true ∧ t16.flags.iopl.toNat < t16.cpl.toNat ∧ t16.tr.is32 = false ∧ user.tr.is32 = true ∧
      user.pg = false ∧ user.params.providers = [] ∧
      completes (sysRead (user.tr.base + 0x66) 2 user) (fun b _ => b == 0) = true ∧
      raises (sysRead (lost.tr.base + 0x66) 2 lost) (fun _ _ => lost.pe && lost.tr.is32 && lost.cpl == 3) = true ∧
      raises (sysRead (lost.tr.base + BitVec.ofNat 32 0x0C) 1 lost) (fun _ _ => true) = true ∧
      raises (checkPort 0x60 1 denied) (fun _ _ => true) = true ∧
      bit denied 0x60 = true ∧ bit user 0x60 = false ∧ bit user 0x33F = false ∧
      completes (sysRead (user.tr.base + BitVec.ofNat 32 0x67) 1 user) (fun _ _ => true) = true ∧
      0x67 ≤ user.tr.limit.toNat ∧ user.tr.limit.toNat < 0x68 := by
  refine ⟨by simp [portForm], ?_⟩
  decide +kernel

/-- An index at the upper bound, and one beyond each bound. -/
theorem witness_BoundCheck :
    let s := put (withAB real 10 0 false) 0xFFFC [0x00, 0x00, 0x0A, 0x00]
    completes (memRead .ds 0xFFFC 2 s) (fun lo s1 => completes (memRead .ds (0xFFFC + 2) 2 s1) fun hi _ =>
        decide (signed .w (lo.setWidth 32) ≤ signed .w (s.regs.view .w .eax) ∧
          signed .w (s.regs.view .w .eax) = signed .w (hi.setWidth 32) ∧
          signed .w (hi.setWidth 32) < signed .w 11 ∧ signed .w 0xFFFF < signed .w (lo.setWidth 32))) = true := by decide +kernel

end Sys2Proof.Tests
end

section

namespace Sys2Proof.Machine

/-! ## What an operation leaves of the machine's invariants -/

/-- What every operation keeps of the parts the invariant speaks of, also where it aborts. -/
structure Sound (s t : State) : Prop where
  params : t.params = s.params
  memory : s.mem.wf = true → t.mem.wf = true
  inRam : s.mem.below s.params.ramSize = true → t.mem.below s.params.ramSize = true
  noV86 : s.flags.vm = false → t.flags.vm = false
  paging : (s.pg = true → s.pe = true) → t.pg = true → t.pe = true
  latch : t.latch = s.latch
  exempt : t.inhibitNext = s.inhibitNext
  halted : t.halted = s.halted
  shutdown : t.shutdown = s.shutdown

/-- What an operation that completes leaves: no delivery that was not open before, and a code segment in CS if it held one. -/
structure Settled (s t : State) : Prop extends Sound s t where
  delivering : s.delivering = false → t.delivering = false
  code : s.cs.cache.code = true → t.cs.cache.code = true

/-- What an operation that enters CS leaves: a code segment, whatever CS held before. -/
structure Entered (s t : State) : Prop extends Sound s t where
  delivering : s.delivering = false → t.delivering = false
  code : t.cs.cache.code = true

/-- What an instruction that completes leaves: HLT may have halted the core, STI and a load of SS exempted the next
boundary, and not both (spec/10_state.md R48, R49). -/
def Completed (s t : State) : Prop :=
  ∃ u, Settled s u ∧ (t = u ∨ t = { u with halted := true } ∨ t = { u with inhibitNext := true })

/-- The parts of a state that the invariant speaks of. -/
def State.vital (s : State) : Params × Memory × Bool × Word × Latch × Bool × Bool × Bool × Bool :=
  (s.params, s.mem, s.flags.vm, s.cr0, s.latch, s.inhibitNext, s.halted, s.shutdown, s.delivering)

theorem Sound.of_vital {s t : State} (h : t.vital = s.vital) : Sound s t := by
  simp only [State.vital, Prod.mk.injEq] at h
  obtain ⟨hp, hm, hv, hc, hl, hi, hh, hs, -⟩ := h
  exact ⟨hp, by rw [hm]; exact id, by rw [hm]; exact id, by rw [hv]; exact id,
    by unfold State.pg State.pe; rw [hc]; exact id, hl, hi, hh, hs⟩

theorem Sound.refl (s : State) : Sound s s := .of_vital rfl

theorem Sound.trans {s t u : State} (h : Sound s t) (k : Sound t u) : Sound s u where
  params := k.params.trans h.params
  memory := k.memory ∘ h.memory
  inRam := fun x => h.params ▸ k.inRam (h.params.symm ▸ h.inRam x)
  noV86 := k.noV86 ∘ h.noV86
  paging := k.paging ∘ h.paging
  latch := k.latch.trans h.latch
  exempt := k.exempt.trans h.exempt
  halted := k.halted.trans h.halted
  shutdown := k.shutdown.trans h.shutdown

theorem State.vital_delivering {s t : State} (h : t.vital = s.vital) : t.delivering = s.delivering := by
  simp only [State.vital, Prod.mk.injEq] at h
  exact h.2.2.2.2.2.2.2.2

theorem Settled.of_vital {s t : State} (h : t.vital = s.vital) (hc : t.cs = s.cs) : Settled s t :=
  { Sound.of_vital h with delivering := by rw [State.vital_delivering h]; exact id, code := by rw [hc]; exact id }

theorem Settled.refl (s : State) : Settled s s := .of_vital rfl rfl

theorem Settled.trans {s t u : State} (h : Settled s t) (k : Settled t u) : Settled s u :=
  { h.toSound.trans k.toSound with delivering := k.delivering ∘ h.delivering, code := k.code ∘ h.code }

theorem Settled.entered {s t u : State} (h : Settled s t) (k : Entered t u) : Entered s u :=
  { h.toSound.trans k.toSound with delivering := k.delivering ∘ h.delivering, code := k.code }

theorem Entered.settles {s t u : State} (h : Entered s t) (k : Settled t u) : Entered s u :=
  { h.toSound.trans k.toSound with delivering := k.delivering ∘ h.delivering, code := k.code h.code }

theorem Entered.settled {s t : State} (h : Entered s t) : Settled s t :=
  { h.toSound with delivering := h.delivering, code := fun _ => h.code }

theorem Settled.completed {s t : State} (h : Settled s t) : Completed s t := ⟨t, h, .inl rfl⟩

theorem Settled.completes {s t u : State} (h : Settled s t) : Completed t u → Completed s u
  | ⟨v, hv, hu⟩ => ⟨v, h.trans hv, hu⟩

/-- An access leaves everything but memory, which stays canonical and inside RAM. -/
theorem MemStep.settled {s t : State} (h : MemStep s t) : Settled s t := by
  have hs := h.same
  exact { params := h.params, memory := h.wf, inRam := h.below, noV86 := by rw [hs]; exact id
          paging := by rw [hs]; exact id, latch := by rw [hs], exempt := by rw [hs], halted := by rw [hs]
          shutdown := by rw [hs], delivering := by rw [hs]; exact id, code := by rw [hs]; exact id }

theorem Settled.setSeg (s : State) {g : SReg} {v : SegReg} (h : g = .cs → v.cache.code = true) :
    Settled s (s.setSeg g v) := by
  have hs : Sound s (s.setSeg g v) := .of_vital (by cases g <;> rfl)
  refine { hs with delivering := by simp, code := fun hc => ?_ }
  cases g with
  | cs => exact h rfl
  | es | ss | ds | fs | gs => exact hc

/-- A change of EFLAGS that does not set VM. -/
theorem Settled.withFlags (s : State) {f : Flags} (h : s.flags.vm = false → f.vm = false) :
    Settled s { s with flags := f } :=
  { Settled.refl s with noV86 := h }

/-- What a state with the invariant turns into, no delivery left open, has it. -/
theorem Sound.inv {s t : State} (h : Sound s t) (hs : s.Inv) (hd : t.delivering = false) : t.Inv where
  memory := h.memory hs.memory
  inRam := h.params ▸ h.inRam hs.inRam
  noV86 := h.noV86 hs.noV86
  paging := h.paging hs.paging
  unlatched := h.latch.trans hs.unlatched
  settled := hd
  exempt := h.exempt.trans hs.exempt

theorem Settled.inv {s t : State} (h : Settled s t) (hs : s.Inv) : t.Inv := h.toSound.inv hs (h.delivering hs.settled)

/-! ## Operations that end in a relation -/

/-- Where the operation completes, its start and its end are in the relation Q; where it aborts, what every operation keeps
is kept. -/
def Ends (Q : State → State → Prop) {α : Type} (m : M α) : Prop :=
  ∀ s, match m s with | .ok _ t => Q s t | .error _ t => Sound s t

section Rules

variable {α β : Type} {Q : State → State → Prop} {m n : M α} {f : α → M β}

theorem Ends.ok {s t : State} {a : α} (h : Ends Q m) (e : m s = .ok a t) : Q s t := by
  have := h s
  rw [e] at this
  exact this

theorem Ends.error {s t : State} {x : Abort} (h : Ends Q m) (e : m s = .error x t) : Sound s t := by
  have := h s
  rw [e] at this
  exact this

/-- Two operations in a row; what the second one knows of the first one's answer is that it is one. -/
theorem Ends.seq {P R : State → State → Prop} (hP : ∀ s t, P s t → Sound s t) (hR : ∀ s t u, P s t → Q t u → R s u)
    (hm : Ends P m) (hf : ∀ a, (∃ s t, m s = .ok a t) → Ends Q (f a)) : Ends R (m >>= f) := by
  intro s
  cases h : m s with
  | error x t =>
    rw [M.bind_error h]
    exact hm.error h
  | ok a t =>
    have h1 := hm.ok h
    have h2 := hf a ⟨s, t, h⟩
    rw [M.bind_ok h]
    cases h3 : f a t with
    | error x u => exact (hP s t h1).trans (h2.error h3)
    | ok b u => exact hR s t u h1 (h2.ok h3)

theorem Ends.bind (hm : Ends Settled m) (hf : ∀ a, Ends Settled (f a)) : Ends Settled (m >>= f) :=
  .seq (fun _ _ => Settled.toSound) (fun _ _ _ => Settled.trans) hm fun a _ => hf a

theorem Ends.bindEnter (hm : Ends Settled m) (hf : ∀ a, Ends Entered (f a)) : Ends Entered (m >>= f) :=
  .seq (fun _ _ => Settled.toSound) (fun _ _ _ => Settled.entered) hm fun a _ => hf a

theorem Ends.enterBind (hm : Ends Entered m) (hf : ∀ a, Ends Settled (f a)) : Ends Entered (m >>= f) :=
  .seq (fun _ _ => Entered.toSound) (fun _ _ _ => Entered.settles) hm fun a _ => hf a

theorem Ends.bindLast (hm : Ends Settled m) (hf : ∀ a, Ends Completed (f a)) : Ends Completed (m >>= f) :=
  .seq (fun _ _ => Settled.toSound) (fun _ _ _ => Settled.completes) hm fun a _ => hf a

theorem Ends.mono {P : State → State → Prop} (h : ∀ s t, P s t → Q s t) (hm : Ends P m) : Ends Q m := by
  intro s
  cases e : m s with
  | ok a t => exact h s t (hm.ok e)
  | error x t => exact hm.error e

theorem Ends.settled (hm : Ends Entered m) : Ends Settled m := hm.mono fun _ _ => Entered.settled

theorem Ends.completed (hm : Ends Settled m) : Ends Completed m := hm.mono fun _ _ => Settled.completed

theorem Ends.pure (a : α) : Ends Settled (pure a : M α) := Settled.refl

theorem Ends.get {f : State → M β} (hf : ∀ s, Ends Q (f s)) : Ends Q (getS >>= f) := fun s => hf s s

theorem Ends.raise (e : Exc) : Ends Q (raise e : M α) := Sound.refl

theorem Ends.refuse (r : Refusal) : Ends Q (refuse r : M α) := Sound.refl

theorem Ends.ite {c : Prop} [Decidable c] (hm : c → Ends Q m) (hn : ¬c → Ends Q n) : Ends Q (if c then m else n) := by
  split
  · exact hm ‹_›
  · exact hn ‹_›

theorem Ends.raiseIf {c : Prop} [Decidable c] {e : Exc} : Ends Settled (raiseIf c e) :=
  .ite (fun _ => .raise e) fun _ => .pure ()

/-- After a test: the rest runs where it does not hold. -/
theorem Ends.check {c : Prop} [Decidable c] {e : Exc} {f : Unit → M β} (hf : ¬c → Ends Q (f ())) :
    Ends Q (Machine.raiseIf c e >>= f) := by
  intro s
  rw [raiseIf_bind]
  by_cases hc : c
  · rw [if_pos hc]
    exact Sound.refl s
  · rw [if_neg hc]
    exact hf hc s

theorem Ends.whenM {c : Prop} [Decidable c] {m : M Unit} (hm : Ends Settled m) : Ends Settled (whenM c m) :=
  .ite (fun _ => hm) fun _ => .pure ()

theorem Ends.modS {g : State → State} (h : ∀ s, Q s (g s)) : Ends Q (modS g) := h

/-- A change of parts the invariant does not speak of. -/
theorem Ends.same {g : State → State} (h : ∀ s, (g s).vital = s.vital ∧ (g s).cs = s.cs) : Ends Settled (Machine.modS g) :=
  .modS fun s => .of_vital (h s).1 (h s).2

theorem Ends.flags {g : Flags → Flags} (h : ∀ f, f.vm = false → (g f).vm = false) : Ends Settled (modFlags g) :=
  .modS fun s => .withFlags s (h s.flags)

theorem Ends.mem (h : Keeps MemStep m) : Ends Settled m := by
  intro s
  cases e : m s with
  | ok a t => exact (h.ok e).settled
  | error x t => exact (h.error e).settled.toSound

end Rules

end Sys2Proof.Machine

end

section

namespace Sys2Proof.Machine

/-! ## Registers, flags and free values -/

theorem ends_readReg (sz : Size) (r : Reg) : Ends Settled (readReg sz r) := Settled.refl

theorem ends_readReg8 (r : Reg8) : Ends Settled (readReg8 r) := Settled.refl

theorem ends_writeReg (sz : Size) (r : Reg) (v : Word) : Ends Settled (writeReg sz r v) := .same fun _ => ⟨rfl, rfl⟩

theorem ends_writeReg8 (r : Reg8) (v : Word) : Ends Settled (writeReg8 r v) := .same fun _ => ⟨rfl, rfl⟩

theorem ends_writeEip (v : Word) : Ends Settled (writeEip v) := .same fun _ => ⟨rfl, rfl⟩

theorem ends_drawWord : Ends Settled drawWord := fun _ => .of_vital rfl rfl

theorem ends_drawBit : Ends Settled drawBit := .bind ends_drawWord fun _ => .pure _

theorem ends_drawSZAP : Ends Settled drawSZAP :=
  .bind ends_drawBit fun _ => .bind ends_drawBit fun _ => .bind ends_drawBit fun _ => .bind ends_drawBit fun _ =>
    .flags fun _ => id

theorem ends_drawOSZP : Ends Settled drawOSZP :=
  .bind ends_drawBit fun _ => .bind ends_drawBit fun _ => .bind ends_drawBit fun _ => .bind ends_drawBit fun _ =>
    .flags fun _ => id

theorem ends_drawStatus : Ends Settled drawStatus :=
  .bind ends_drawBit fun _ => .bind ends_drawBit fun _ => .bind (.flags fun _ => id) fun _ => ends_drawSZAP

theorem ends_drawOF : Ends Settled drawOF := .bind ends_drawBit fun _ => .flags fun _ => id

theorem ends_drawOAC : Ends Settled drawOAC :=
  .bind ends_drawBit fun _ => .bind ends_drawBit fun _ => .bind ends_drawBit fun _ => .flags fun _ => id

theorem binFlags_vm (op : BinOp) (sz : Size) (a b : Word) (f : Flags) (af : Bool) : (binFlags op sz a b f af).vm = f.vm := by
  cases op <;> rfl

theorem unFlags_vm (op : UnOp) (sz : Size) (a : Word) (f : Flags) : (unFlags op sz a f).vm = f.vm := by cases op <;> rfl

theorem Flags.shift_vm (f : Flags) (op : ShiftOp) (sz : Size) (a r : Word) (cf : Bool) (c : Nat) (od ad : Bool) :
    (f.shift op sz a r cf c od ad).vm = f.vm := by cases op <;> rfl

/-- A masked write whose mask does not select VM leaves it (spec/10_state.md R33). -/
theorem Flags.write_vm {f : Flags} {v m : Word} (h : m.getLsbD 17 = true → v.getLsbD 17 = false) (hf : f.vm = false) :
    (f.write v m).vm = false := by
  show pick v m 17 f.vm = false
  unfold pick
  split
  · exact h ‹_›
  · exact hf

theorem ends_binValue (op : BinOp) (sz : Size) (a b : Word) : Ends Settled (binValue op sz a b) := by
  intro s
  obtain ⟨af, n, h⟩ := binValue_apply op sz a b s
  rw [h]
  exact .of_vital (by simp [State.vital, binFlags_vm]) rfl

theorem ends_unValue (op : UnOp) (sz : Size) (a : Word) : Ends Settled (unValue op sz a) := by
  intro s
  rw [unValue_apply]
  exact .of_vital (by simp [State.vital, unFlags_vm]) rfl

theorem ends_shiftOp (op : ShiftOp) (sz : Size) (a c : Word) : Ends Settled (shiftOp op sz a c) :=
  .get fun _ => .ite (fun _ => .pure a) fun _ => .bind ends_drawBit fun _ => .bind ends_drawBit fun _ =>
    .bind (.flags fun f hf => (f.shift_vm op sz a _ _ _ _ _).trans hf) fun _ => .pure _

/-! ## Operands and accesses -/

theorem ends_sysRead (l : Word) (n : Nat) : Ends Settled (sysRead l n) := .mem (keeps_sysRead l n)

theorem ends_sysWrite (l : Word) (n : Nat) (v : Quad) : Ends Settled (sysWrite l n v) := .mem (keeps_sysWrite l n v)

theorem ends_memRead (g : SReg) (off n : Nat) : Ends Settled (memRead g off n) := .mem (keeps_memRead g off n)

theorem ends_memWrite (g : SReg) (off n : Nat) (v : Quad) : Ends Settled (memWrite g off n v) :=
  .mem (keeps_memWrite g off n v)

theorem ends_descRead (sel : Half) (e : Byte) : Ends Settled (descRead sel e) := .mem (keeps_descRead sel e)

theorem ends_peek (o : OSize) (k : Nat) : Ends Settled (peek o k) := .mem (keeps_peek o k)

theorem ends_stage (o : OSize) (k : Nat) (vs : List Word) : Ends Settled (stage o k vs) := .mem (keeps_stage o k vs)

theorem ends_stageVia (e : Exc) (c : SegCache) (cpl : BitVec 2) (nesp : Word) (o : OSize) (k : Nat) (vs : List Word) :
    Ends Settled (stageVia e c cpl nesp o k vs) := .mem (keeps_stageVia e c cpl nesp o k vs)

theorem ends_readLoc (sz : Size) (l : Loc) : Ends Settled (readLoc sz l) := by
  cases l with
  | reg8 r => exact ends_readReg8 r
  | reg r => exact ends_readReg sz r
  | mem g off => exact .bind (ends_memRead _ _ _) fun _ => .pure _

theorem ends_writeLoc (sz : Size) (v : Word) (l : Loc) : Ends Settled (writeLoc sz v l) := by
  cases l with
  | reg8 r => exact ends_writeReg8 r v
  | reg r => exact ends_writeReg sz r v
  | mem g off => exact ends_memWrite _ _ _ _

theorem ends_readSrc (sz : Size) (x : Source) : Ends Settled (readSrc sz x) := by
  cases x with
  | loc l => exact ends_readLoc sz l
  | imm v => exact .pure v

theorem ends_openLoc (sz : Size) (l : Loc) : Ends Settled (openLoc sz l) := by
  cases l with
  | reg8 r => exact .pure _
  | reg r => exact .pure _
  | mem g off => exact .bind (.mem (keeps_memOpen _ _ _)) fun _ => .pure _

theorem ends_readOpened (sz : Size) (o : Opened) : Ends Settled (readOpened sz o) := by
  intro s
  cases o with
  | reg8 r => exact .refl s
  | reg r => exact .refl s
  | mem p => exact (memStep_readPlace s p sz.bytes).settled

theorem ends_writeOpened (sz : Size) (v : Word) (o : Opened) : Ends Settled (writeOpened sz v o) := by
  intro s
  cases o with
  | reg8 r => exact .of_vital rfl rfl
  | reg r => exact .of_vital rfl rfl
  | mem p => exact (memStep_writePlace s p sz.bytes _).settled

theorem ends_modifyLoc (sz : Size) (l : Loc) {f : Word → M Word} (hf : ∀ a, Ends Settled (f a)) :
    Ends Settled (modifyLoc sz l f) :=
  .bind (ends_openLoc sz l) fun _ => .bind (ends_readOpened sz _) fun _ => .bind (hf _) fun _ => ends_writeOpened sz _ _

/-! ## Arithmetic, logic, shifts and moves -/

theorem ends_binary (op : BinOp) (sz : Size) (dst : Loc) (src : Source) : Ends Settled (binary op sz dst src) :=
  .ite
    (fun _ => .bind (ends_openLoc _ _) fun _ => .bind (ends_readSrc _ _) fun _ => .bind (ends_readOpened _ _) fun _ =>
      .bind (ends_binValue _ _ _ _) fun _ => ends_writeOpened _ _ _)
    fun _ => .bind (ends_readLoc _ _) fun _ => .bind (ends_readSrc _ _) fun _ => .bind (ends_binValue _ _ _ _) fun _ => .pure ()

theorem ends_unary (op : UnOp) (sz : Size) (dst : Loc) : Ends Settled (unary op sz dst) :=
  ends_modifyLoc sz dst (ends_unValue op sz)

theorem ends_shiftLoc (op : ShiftOp) (sz : Size) (dst : Loc) (count : Source) : Ends Settled (shiftLoc op sz dst count) :=
  .bind (ends_readSrc _ _) fun _ => ends_modifyLoc sz dst fun _ => ends_shiftOp op sz _ _

theorem ends_decimalAdd : Ends Settled decimalAdd :=
  .get fun _ => .bind (ends_writeReg8 _ _) fun _ => .bind (.flags fun _ => id) fun _ => ends_drawOF

theorem ends_decimalSub : Ends Settled decimalSub :=
  .get fun _ => .bind (ends_writeReg8 _ _) fun _ => .bind (.flags fun _ => id) fun _ => ends_drawOF

theorem ends_asciiAdjust (edge : Word → Bool) (step carry : Word) : Ends Settled (asciiAdjust edge step carry) :=
  .get fun _ => .bind ends_drawBit fun _ => .bind (.whenM (ends_writeReg8 _ _)) fun _ => .bind (ends_writeReg8 _ _) fun _ =>
    .bind (.flags fun _ => id) fun _ => ends_drawOSZP

theorem ends_asciiMul (i : Byte) : Ends Settled (asciiMul i) :=
  .check fun _ => .bind (ends_readReg8 _) fun _ => .bind (ends_writeReg8 _ _) fun _ => .bind (ends_writeReg8 _ _) fun _ =>
    .bind (.flags fun _ => id) fun _ => ends_drawOAC

theorem ends_asciiDiv (i : Byte) : Ends Settled (asciiDiv i) :=
  .get fun _ => .bind (ends_writeReg8 _ _) fun _ => .bind (ends_writeReg8 _ _) fun _ => .bind (.flags fun _ => id) fun _ =>
    ends_drawOAC

theorem ends_writePair (sz : Size) (low high : Word) : Ends Settled (writePair sz low high) := by
  cases sz with
  | b => exact ends_writeReg _ _ _
  | w | d => exact .bind (ends_writeReg _ _ _) fun _ => ends_writeReg _ _ _

theorem ends_mulFlags (b : Bool) : Ends Settled (mulFlags b) := .bind (.flags fun _ => id) fun _ => ends_drawSZAP

theorem ends_mulUnsigned (sz : Size) (src : Loc) : Ends Settled (mulUnsigned sz src) :=
  .bind (ends_readLoc _ _) fun _ => .bind (ends_readReg _ _) fun _ => .bind (ends_writePair _ _ _) fun _ => ends_mulFlags _

theorem ends_mulSigned (sz : Size) (src : Loc) : Ends Settled (mulSigned sz src) :=
  .bind (ends_readLoc _ _) fun _ => .bind (ends_readReg _ _) fun _ => .bind (ends_writePair _ _ _) fun _ => ends_mulFlags _

theorem ends_mulInto (sz : Size) (dst : Reg) (x y : Source) : Ends Settled (mulInto sz dst x y) :=
  .bind (ends_readSrc _ _) fun _ => .bind (ends_readSrc _ _) fun _ => .bind (ends_writeReg _ _ _) fun _ => ends_mulFlags _

theorem ends_writeQuotient (sz : Size) (q m : Word) : Ends Settled (writeQuotient sz q m) := by
  cases sz with
  | b => exact .bind (ends_writeReg8 _ _) fun _ => ends_writeReg8 _ _
  | w | d => exact .bind (ends_writeReg _ _ _) fun _ => ends_writeReg _ _ _

theorem ends_divUnsigned (sz : Size) (src : Loc) : Ends Settled (divUnsigned sz src) :=
  .bind (ends_readLoc _ _) fun _ => .get fun _ => .check fun _ => .check fun _ => .bind (ends_writeQuotient _ _ _) fun _ =>
    ends_drawStatus

theorem ends_divSigned (sz : Size) (src : Loc) : Ends Settled (divSigned sz src) :=
  .bind (ends_readLoc _ _) fun _ => .get fun _ => .check fun _ => .check fun _ => .bind (ends_writeQuotient _ _ _) fun _ =>
    ends_drawStatus

theorem ends_widenAcc (o : OSize) : Ends Settled (widenAcc o) := .get fun _ => by cases o <;> exact ends_writeReg _ _ _

theorem ends_extendAcc (o : OSize) : Ends Settled (extendAcc o) := .bind (ends_readReg _ _) fun _ => ends_writeReg _ _ _

theorem ends_move (sz : Size) (dst : Loc) (src : Source) : Ends Settled (move sz dst src) :=
  .bind (ends_readSrc _ _) fun _ => ends_writeLoc _ _ _

theorem ends_selectorAt (o : OSize) (sel : Half) : Ends Settled (selectorAt o sel) := by
  cases o with
  | o16 => exact .pure _
  | o32 => exact .bind ends_drawWord fun _ => .pure _

theorem ends_storeSelector (o : OSize) (dst : Loc) (g : SReg) : Ends Settled (storeSelector o dst g) := by
  refine .get fun s => ?_
  cases dst with
  | mem g' off => exact ends_writeLoc _ _ _
  | reg8 r | reg r => exact .bind (ends_selectorAt _ _) fun _ => ends_writeLoc _ _ _

theorem ends_loadAddress (o : OSize) (r : Reg) (m : MemOp) : Ends Settled (loadAddress o r m) :=
  .get fun _ => ends_writeReg _ _ _

/-! ## The stack and flag instructions -/

theorem ends_moveSp (k : Word) : Ends Settled (moveSp k) := .same fun _ => ⟨rfl, rfl⟩

theorem ends_push (o : OSize) (v : Word) : Ends Settled (push o v) :=
  .get fun _ => .bind (ends_memWrite _ _ _ _) fun _ => ends_moveSp _

theorem ends_pop (o : OSize) : Ends Settled (pop o) :=
  .bind (ends_peek _ _) fun _ => .bind (ends_moveSp _) fun _ => .pure _

theorem ends_pushReg (o : OSize) (r : Reg) : Ends Settled (pushReg o r) := .bind (ends_readReg _ _) fun _ => ends_push _ _

theorem ends_popReg (o : OSize) (r : Reg) : Ends Settled (popReg o r) := .bind (ends_pop _) fun _ => ends_writeReg _ _ _

theorem ends_pushSeg (o : OSize) (g : SReg) : Ends Settled (pushSeg o g) :=
  .get fun _ => .bind (ends_selectorAt _ _) fun _ => ends_push _ _

theorem ends_pushAll (o : OSize) : Ends Settled (pushAll o) := .get fun _ => .bind (ends_stage _ _ _) fun _ => ends_moveSp _

theorem ends_popAll (o : OSize) : Ends Settled (popAll o) :=
  .bind (ends_peek _ _) fun _ => .bind (ends_peek _ _) fun _ => .bind (ends_peek _ _) fun _ => .bind (ends_peek _ _) fun _ =>
  .bind (ends_peek _ _) fun _ => .bind (ends_peek _ _) fun _ => .bind (ends_peek _ _) fun _ => .bind (ends_peek _ _) fun _ =>
  .bind (ends_writeReg _ _ _) fun _ => .bind (ends_writeReg _ _ _) fun _ => .bind (ends_writeReg _ _ _) fun _ =>
  .bind (ends_writeReg _ _ _) fun _ => .bind (ends_writeReg _ _ _) fun _ => .bind (ends_writeReg _ _ _) fun _ =>
  .bind (ends_writeReg _ _ _) fun _ => ends_moveSp _

theorem ends_pushFlags (o : OSize) : Ends Settled (pushFlags o) := .get fun _ => ends_push _ _

/-- POPF does not write VM (spec/45_data_flags_stack.md R294). -/
theorem popfMask_vm (pe : Bool) (cpl iopl : BitVec 2) (o : OSize) : (popfMask pe cpl iopl o).getLsbD 17 = false := by
  unfold popfMask
  simp only [BitVec.getLsbD_or]
  cases o <;> split <;> split <;> rfl

/-- IRET does not write VM (spec/46_control.md R334). -/
theorem iretMask_vm (pe : Bool) (cpl iopl : BitVec 2) (o : OSize) : (iretMask pe cpl iopl o).getLsbD 17 = false := by
  unfold iretMask
  rw [BitVec.getLsbD_or, popfMask_vm, Bool.false_or]
  cases o with
  | o16 => exact BitVec.getLsbD_zero
  | o32 =>
    dsimp only
    split <;> rfl

theorem ends_writeFlags (v : Word) {m : Word} (h : m.getLsbD 17 = false) : Ends Settled (writeFlags v m) :=
  .flags fun _ => Flags.write_vm fun hm => absurd hm (by rw [h]; decide)

theorem ends_popFlags (o : OSize) : Ends Settled (popFlags o) :=
  .get fun _ => .bind (ends_pop _) fun _ => ends_writeFlags _ (popfMask_vm _ _ _ _)

theorem ends_loadAh : Ends Settled loadAh := .get fun _ => ends_writeReg8 _ _

theorem ends_storeAh : Ends Settled storeAh := .bind (ends_readReg8 _) fun _ => ends_writeFlags _ rfl

theorem ends_requireIopl : Ends Settled requireIopl := .get fun _ => .raiseIf

theorem ends_clearIf : Ends Settled clearIf := .bind ends_requireIopl fun _ => .flags fun _ => id

/-- STI exempts the next boundary (spec/45_data_flags_stack.md R303). -/
theorem ends_setIf : Ends Completed setIf :=
  .bindLast ends_requireIopl fun _ => .bindLast (.flags fun _ => id) fun _ => .modS fun s => ⟨s, .refl s, .inr (.inr rfl)⟩

/-! ## Segment registers -/

theorem ends_writeSeg {g : SReg} {v : SegReg} (h : g = .cs → v.cache.code = true) : Ends Settled (writeSeg g v) :=
  .modS fun s => .setSeg s h

theorem ends_writeSeg_cs {v : SegReg} (h : v.cache.code = true) : Ends Entered (writeSeg .cs v) :=
  .modS fun s => { Settled.setSeg s fun _ => h with code := h }

/-- Where an operation aborts and a segment register is put back, nothing else is. -/
theorem Ends.keepSegOnRaise {Q : State → State → Prop} {m : M Unit} (g : SReg) (h : Ends Q m) :
    Ends Q (keepSegOnRaise g m) := by
  intro s
  unfold Machine.keepSegOnRaise
  cases e : m s with
  | ok u t => exact h.ok e
  | error x t => exact (h.error e).trans (.of_vital (by cases g <;> rfl))

theorem ends_markAccessed (sel : Half) (d : Quad) : Ends Settled (markAccessed sel d) := .mem (keeps_markAccessed sel d)

/-- A Snapshot of a code segment, if it is into CS (spec/20_memory.md R102). -/
theorem ends_snapshot {g : SReg} {sel : Half} {d : Quad} (h : g = .cs → descCode d = true) :
    Ends Settled (snapshot g sel d) :=
  .keepSegOnRaise g (.bind (ends_writeSeg h) fun _ => ends_markAccessed _ _)

theorem ends_snapshot_cs {sel : Half} {d : Quad} (h : descCode d = true) : Ends Entered (snapshot .cs sel d) :=
  .keepSegOnRaise .cs (.enterBind (ends_writeSeg_cs h) fun _ => ends_markAccessed _ _)

theorem ends_enterCs {sel : Half} {rpl : BitVec 2} {d : Quad} {off : Word} (h : descCode d = true) :
    Ends Entered (enterCs sel rpl d off) :=
  .enterBind (ends_snapshot_cs h) fun _ => ends_writeEip _

/-- A real-mode load of CS makes it a code segment (spec/20_memory.md R106). -/
theorem ends_loadReal_cs (sel : Half) : Ends Entered (loadReal .cs sel) := ends_writeSeg_cs rfl

theorem ends_loadData (e : Byte) {g : SReg} (sel : Half) (hg : g ≠ .cs) : Ends Settled (loadData e g sel) :=
  .ite (fun _ => ends_writeSeg fun h => absurd h hg) fun _ => .bind (ends_descRead _ _) fun _ => .get fun _ =>
    .check fun _ => .check fun _ => ends_snapshot fun h => absurd h hg

theorem ends_loadStack (sel : Half) : Ends Settled (loadStack sel) :=
  .check fun _ => .bind (ends_descRead _ _) fun _ => .get fun _ => .check fun _ => .check fun _ => ends_snapshot nofun

theorem ends_loadSeg {g : SReg} (sel : Half) (hg : g ≠ .cs) : Ends Settled (loadSeg g sel) := by
  refine .get fun s => .ite (fun _ => ?_) fun _ => ends_writeSeg fun h => absurd h hg
  cases g with
  | ss => exact ends_loadStack sel
  | cs => exact absurd rfl hg
  | es | ds | fs | gs => exact ends_loadData _ _ hg

/-- A load of SS exempts the next boundary (spec/45_data_flags_stack.md R283, R290). -/
theorem ends_shadowSs (g : SReg) : Ends Completed (shadowSs g) :=
  .ite (fun _ => .modS fun s => ⟨s, .refl s, .inr (.inr rfl)⟩) fun _ => Ends.completed (.pure ())

theorem ends_loadSelector {g : SReg} (src : Loc) (hg : g ≠ .cs) : Ends Completed (loadSelector g src) :=
  .bindLast (ends_readLoc _ _) fun _ => .bindLast (ends_loadSeg _ hg) fun _ => ends_shadowSs g

theorem ends_popSeg (o : OSize) {g : SReg} (hg : g ≠ .cs) : Ends Completed (popSeg o g) :=
  .get fun _ => .bindLast (ends_peek _ _) fun _ => .bindLast (ends_loadSeg _ hg) fun _ =>
    .bindLast (.same fun _ => ⟨rfl, rfl⟩) fun _ => ends_shadowSs g

/-! ## Near transfers -/

theorem ends_checkTarget (o : OSize) (t : Word) : Ends Settled (checkTarget o t) := .get fun _ => .check fun _ => .pure _

theorem ends_setEip (o : OSize) (t : Word) : Ends Settled (setEip o t) :=
  .bind (ends_checkTarget _ _) fun _ => ends_writeEip _

theorem ends_jumpRel (o : OSize) (rel : Word) : Ends Settled (jumpRel o rel) := .get fun _ => ends_setEip _ _

theorem ends_jumpIf (cc : BitVec 4) (o : OSize) (rel : Word) : Ends Settled (jumpIf cc o rel) :=
  .get fun _ => .whenM (ends_jumpRel _ _)

theorem ends_jumpTo (o : OSize) (l : Loc) : Ends Settled (jumpTo o l) := .bind (ends_readLoc _ _) fun _ => ends_setEip _ _

theorem ends_callNear (o : OSize) (t : Word) : Ends Settled (callNear o t) :=
  .get fun _ => .bind (ends_checkTarget _ _) fun _ => .bind (ends_push _ _) fun _ => ends_writeEip _

theorem ends_callRel (o : OSize) (rel : Word) : Ends Settled (callRel o rel) := .get fun _ => ends_callNear _ _

theorem ends_callTo (o : OSize) (l : Loc) : Ends Settled (callTo o l) := .bind (ends_readLoc _ _) fun _ => ends_callNear _ _

theorem ends_retNear (o : OSize) (extra : Half) : Ends Settled (retNear o extra) :=
  .bind (ends_peek _ _) fun _ => .bind (ends_checkTarget _ _) fun _ => .bind (ends_moveSp _) fun _ => ends_writeEip _

/-! ## System and port instructions -/

theorem ends_requireCpl0 : Ends Settled requireCpl0 := .get fun _ => .raiseIf

theorem ends_requireProtected : Ends Settled requireProtected := .get fun _ => .raiseIf

/-- HLT halts the core (spec/47_system.md R360). -/
theorem ends_halt : Ends Completed halt :=
  .bindLast ends_requireCpl0 fun _ => .modS fun s => ⟨s, .refl s, .inr (.inl rfl)⟩

theorem ends_readTable (o : OSize) (m : MemOp) : Ends Settled (readTable o m) :=
  .bind ends_requireCpl0 fun _ => .get fun _ => .bind (ends_memRead _ _ _) fun _ => .bind (ends_memRead _ _ _) fun _ => .pure _

theorem ends_loadGdt (o : OSize) (m : MemOp) : Ends Settled (loadGdt o m) :=
  .bind (ends_readTable _ _) fun _ => .same fun _ => ⟨rfl, rfl⟩

theorem ends_loadIdt (o : OSize) (m : MemOp) : Ends Settled (loadIdt o m) :=
  .bind (ends_readTable _ _) fun _ => .same fun _ => ⟨rfl, rfl⟩

theorem ends_writeLdtr (sel : Half) (d : Quad) : Ends Settled (writeLdtr sel d) := .same fun _ => ⟨rfl, rfl⟩

theorem ends_loadLdt (src : Loc) : Ends Settled (loadLdt src) :=
  .bind ends_requireProtected fun _ => .bind ends_requireCpl0 fun _ => .bind (ends_readLoc _ _) fun _ =>
    .ite (fun _ => .same fun _ => ⟨rfl, rfl⟩) fun _ => .check fun _ => .bind (ends_descRead _ _) fun _ =>
      .check fun _ => .check fun _ => ends_writeLdtr _ _

theorem ends_loadTask (src : Loc) : Ends Settled (loadTask src) :=
  .bind ends_requireProtected fun _ => .bind ends_requireCpl0 fun _ => .bind (ends_readLoc _ _) fun _ =>
    .check fun _ => .check fun _ => .bind (ends_descRead _ _) fun _ => .check fun _ => .check fun _ =>
      .get fun _ => .bind (ends_sysWrite _ _ _) fun _ => .same fun _ => ⟨rfl, rfl⟩

theorem ends_readControl (r : Reg) (n : CReg) : Ends Settled (readControl r n) :=
  .bind ends_requireCpl0 fun _ => .get fun _ => ends_writeReg _ _ _

/-- A write of a control register that does not set PG without PE (spec/47_system.md R365). -/
theorem Settled.setCr (s : State) {n : CReg} {v : Word} (h : ¬(n = .cr0 ∧ v.getLsbD 31 = true ∧ v.getLsbD 0 = false)) :
    Settled s (s.setCr n v) := by
  cases n with
  | cr0 =>
    refine { Settled.refl s with paging := fun _ hg => ?_ }
    by_contra he
    exact h ⟨rfl, hg, Bool.eq_false_iff.mpr he⟩
  | cr2 | cr3 | cr4 => exact .of_vital rfl rfl

theorem ends_writeControl (n : CReg) (r : Reg) : Ends Settled (writeControl n r) :=
  .bind ends_requireCpl0 fun _ => .bind (ends_readReg _ _) fun _ => .check fun h => .modS fun s => .setCr s h

theorem ends_readDebug (r : Reg) (n : DReg) : Ends Settled (readDebug r n) :=
  .bind ends_requireCpl0 fun _ => .get fun _ => ends_writeReg _ _ _

theorem ends_writeDebug (n : DReg) (r : Reg) : Ends Settled (writeDebug n r) :=
  .bind ends_requireCpl0 fun _ => .bind (ends_readReg _ _) fun _ => .same fun _ => ⟨rfl, rfl⟩

/-- A change of CR0 that leaves PG and PE. -/
theorem Settled.withCr0 (s : State) {v : Word} (hg : v.getLsbD 31 = s.cr0.getLsbD 31) (he : v.getLsbD 0 = s.cr0.getLsbD 0) :
    Settled s { s with cr0 := v } :=
  { Settled.refl s with paging := by unfold State.pg State.pe; rw [hg, he]; exact id }

theorem ends_clearTs : Ends Settled clearTs :=
  .bind ends_requireCpl0 fun _ => .modS fun s => .withCr0 s (by simp) (by simp)

theorem ends_checkPorts (bitmap : Word) (q n : Nat) : Ends Settled (checkPorts bitmap q n) := by
  induction n generalizing q with
  | zero => exact .pure ()
  | succ n ih => exact .get fun _ => .check fun _ => .bind (ends_sysRead _ _) fun _ => .check fun _ => ih _

theorem ends_checkPort (port : Half) (n : Nat) : Ends Settled (checkPort port n) :=
  .get fun _ => .ite (fun _ => .check fun _ => .bind (ends_sysRead _ _) fun _ => ends_checkPorts _ _ _) fun _ => .pure ()

theorem State.logPort_vital (s : State) (port : Half) (e : DevEvent) :
    (s.logPort port e).vital = s.vital ∧ (s.logPort port e).cs = s.cs := by
  unfold State.logPort
  split <;> exact ⟨rfl, rfl⟩

theorem ends_ioRead (sz : Size) (port : Half) : Ends Settled (ioRead sz port) :=
  .bind (ends_checkPort _ _) fun _ => .get fun _ => .bind (.same fun s => s.logPort_vital _ _) fun _ => .pure _

theorem ends_ioWrite (sz : Size) (port : Half) (v : Word) : Ends Settled (ioWrite sz port v) :=
  .bind (ends_checkPort _ _) fun _ => .same fun s => s.logPort_vital _ _

theorem ends_portIn (sz : Size) (port : Half) : Ends Settled (portIn sz port) :=
  .bind (ends_ioRead _ _) fun _ => ends_writeReg _ _ _

theorem ends_portOut (sz : Size) (port : Half) : Ends Settled (portOut sz port) :=
  .bind (ends_readReg _ _) fun _ => ends_ioWrite _ _ _

theorem ends_boundCheck (o : OSize) (r : Reg) (m : MemOp) : Ends Settled (boundCheck o r m) :=
  .get fun _ => .bind (ends_memRead _ _ _) fun _ => .bind (ends_memRead _ _ _) fun _ => .raiseIf

end Sys2Proof.Machine

end

section

namespace Sys2Proof.Machine

/-! ## What an operation answers -/

/-- Whatever the operation answers satisfies P. -/
def Returns {α : Type} (P : α → Prop) (m : M α) : Prop := ∀ s a t, m s = .ok a t → P a

section Rules

variable {α β : Type} {P : β → Prop}

theorem Returns.pure {b : β} (h : P b) : Returns P (pure b : M β) := by
  intro s a t e
  cases e
  exact h

theorem Returns.bind {m : M α} {f : α → M β} (hf : ∀ a, Returns P (f a)) : Returns P (m >>= f) := by
  intro s b u e
  cases h : m s with
  | ok a t =>
    rw [M.bind_ok h] at e
    exact hf a t b u e
  | error x t =>
    rw [M.bind_error h] at e
    cases e

theorem Returns.check {c : Prop} [Decidable c] {e : Exc} {f : Unit → M β} (hf : ¬c → Returns P (f ())) :
    Returns P (raiseIf c e >>= f) := by
  intro s b t h
  rw [raiseIf_bind] at h
  by_cases hc : c
  · rw [if_pos hc] at h
    cases h
  · rw [if_neg hc] at h
    exact hf hc s b t h

/-- An operation goes on with an answer it knows something of. -/
theorem Ends.bindEnterOf {P : α → Prop} {m : M α} {f : α → M β} (hm : Ends Settled m) (hp : Returns P m)
    (hf : ∀ a, P a → Ends Entered (f a)) : Ends Entered (m >>= f) :=
  .seq (fun _ _ => Settled.toSound) (fun _ _ _ => Settled.entered) hm fun a ⟨s, t, e⟩ => hf a (hp s a t e)

end Rules

/-- A descriptor that passed the code-segment test is a code segment. -/
theorem descCode_of_test {d : Quad} {p : Prop} (h : ¬(descS d = false ∨ descCode d = false ∨ p)) : descCode d = true := by
  rw [not_or, not_or] at h
  exact Bool.eq_true_of_not_eq_false h.2.1

/-- A direct transfer goes to a code segment (spec/20_memory.md R107). -/
theorem returns_checkDirectCs (sel : Half) (off : Word) : Returns (descCode · = true) (checkDirectCs sel off) :=
  .bind fun _ => .bind fun _ => .bind fun _ => .check fun h => .bind fun _ => .bind fun _ => .bind fun _ => .bind fun _ =>
    .pure (Bool.eq_true_of_not_eq_false (not_or.mp h).2)

/-- A return goes to a code segment (spec/46_control.md R331). -/
theorem returns_checkReturnCs (sel : Half) (off : Word) : Returns (descCode · = true) (checkReturnCs sel off) :=
  .bind fun _ => .bind fun _ => .bind fun _ => .check fun h => .bind fun _ => .bind fun _ => .bind fun _ => .bind fun _ =>
    .bind fun _ => .pure (Bool.eq_true_of_not_eq_false (not_or.mp h).2)

theorem ends_checkDirectCs (sel : Half) (off : Word) : Ends Settled (checkDirectCs sel off) :=
  .check fun _ => .bind (ends_descRead _ _) fun _ => .get fun _ => .check fun _ => .check fun _ => .check fun _ =>
    .check fun _ => .check fun _ => .pure _

theorem ends_checkReturnCs (sel : Half) (off : Word) : Ends Settled (checkReturnCs sel off) :=
  .check fun _ => .bind (ends_descRead _ _) fun _ => .get fun _ => .check fun _ => .check fun _ => .check fun _ =>
    .check fun _ => .check fun _ => .check fun _ => .pure _

/-! ## The task switch (spec/60_exceptions.md R440 to R443) -/

theorem ends_checkNewTss (sel : Half) (kind : TaskKind) : Ends Settled (checkNewTss sel kind) :=
  .check fun _ => .bind (ends_descRead _ _) fun _ => .check fun _ => .check fun _ => .check fun _ => .check fun _ => .pure _

theorem ends_readFields (base : Word) (fs : List (Nat × Nat)) : Ends Settled (readFields base fs) := by
  induction fs with
  | nil => exact .pure []
  | cons f fs ih => exact .bind (ends_sysRead _ _) fun _ => .bind ih fun _ => .pure _

theorem ends_writeFields (base : Word) (fs : List (Nat × Nat × Word)) : Ends Settled (writeFields base fs) := by
  induction fs with
  | nil => exact .pure ()
  | cons f fs ih => exact .bind (ends_sysWrite _ _ _) fun _ => ih

theorem ends_moveBusy (sel : Half) (d : Quad) (kind : TaskKind) : Ends Settled (moveBusy sel d kind) :=
  .get fun _ => .bind (ends_sysRead _ _) fun _ => .bind (ends_sysWrite _ _ _) fun _ => .bind (ends_sysWrite _ _ _) fun _ =>
    .whenM (ends_sysWrite _ _ _)

theorem ends_taskLdtr (sel : Half) : Ends Settled (taskLdtr sel) :=
  .ite (fun _ => .pure ()) fun _ => .check fun _ => .bind (ends_descRead _ _) fun _ => .check fun _ => .check fun _ =>
    ends_writeLdtr _ _

/-- The new task's CS is a code segment (R443 item 2). -/
theorem ends_taskCs (sel : Half) : Ends Entered (taskCs sel) :=
  .check fun _ => .bindEnter (ends_descRead _ _) fun _ => .check fun h => .check fun _ => .check fun _ => .check fun _ =>
    ends_snapshot_cs (Bool.eq_true_of_not_eq_false (not_or.mp h).2)

theorem ends_taskSs (sel : Half) : Ends Settled (taskSs sel) :=
  .check fun _ => .bind (ends_descRead _ _) fun _ => .get fun _ => .check fun _ => .check fun _ => ends_snapshot nofun

theorem ends_loadTaskSegments (t : TssImage) : Ends Entered (loadTaskSegments t) :=
  .bindEnter (ends_taskLdtr _) fun _ => .enterBind (ends_taskCs _) fun _ => .bind (ends_taskSs _) fun _ =>
    .bind (ends_loadData _ _ nofun) fun _ => .bind (ends_loadData _ _ nofun) fun _ => .bind (ends_loadData _ _ nofun) fun _ =>
      ends_loadData _ _ nofun

theorem Ends.inNewTask {Q : State → State → Prop} {m : M Unit} (h : Ends Q m) : Ends Q (inNewTask m) := by
  intro s
  unfold Machine.inNewTask
  cases e : m s with
  | ok u t => exact h.ok e
  | error x t => exact h.error e

/-- The commit of a task switch keeps what the invariant speaks of, but for CS, whose cache is null until it is loaded. A
32-bit image with VM set has been refused before (R440). -/
theorem commitTask_sound (s : State) (sel : Half) {d : Quad} (kind : TaskKind) {t : TssImage}
    (h : ¬(isTss32 d && t.eflags.getLsbD 17) = true) :
    Sound s (s.commitTask sel d kind t) ∧ (s.commitTask sel d kind t).delivering = s.delivering := by
  have hcr0 : ∀ i, i ≠ 3 → i < 32 → (s.cr0 ||| 8).getLsbD i = s.cr0.getLsbD i := by
    intro i h3 hi
    rw [BitVec.getLsbD_or]
    interval_cases i <;> simp_all
  refine ⟨{ Sound.refl s with noV86 := fun hv => ?_, paging := ?_ }, rfl⟩
  · have hw : (s.flags.write t.eflags (taskFlagsMask (isTss32 d))).vm = false := by
      refine Flags.write_vm (fun hm => ?_) hv
      cases h32 : isTss32 d with
      | true => simpa [h32] using h
      | false =>
        rw [h32] at hm
        exact absurd hm (by decide)
    show (if kind.links then { s.flags.write _ _ with nt := true } else s.flags.write _ _ : Flags).vm = false
    split <;> exact hw
  · unfold State.pg State.pe
    show _ → (s.cr0 ||| 8).getLsbD 31 = true → (s.cr0 ||| 8).getLsbD 0 = true
    rw [hcr0 31 (by decide) (by decide), hcr0 0 (by decide) (by decide)]
    exact id

/-- A task switch that completes has entered the new task's code segment. -/
theorem ends_taskSwitch (sel : Half) (kind : TaskKind) (ret : Word) : Ends Entered (taskSwitch sel kind ret) := by
  refine .bindEnter (ends_checkNewTss _ _) fun d => .bindEnter (ends_readFields _ _) fun vs =>
    .ite (fun _ => .refuse _) fun h => .get fun s => .bindEnter (ends_writeFields _ _) fun _ =>
      .bindEnter (ends_moveBusy _ _ _) fun _ => ?_
  intro s
  obtain ⟨hs, hd⟩ := commitTask_sound s sel kind h
  have hl := (ends_loadTaskSegments (tssImage (isTss32 d) vs)).inNewTask
  rw [modS_bind]
  cases e : inNewTask (loadTaskSegments (tssImage (isTss32 d) vs)) (s.commitTask sel d kind (tssImage (isTss32 d) vs)) with
  | ok u t =>
    have k := hl.ok e
    exact { hs.trans k.toSound with delivering := fun x => k.delivering (hd.trans x), code := k.code }
  | error x t => exact hs.trans (hl.error e)

/-! ## Far transfers and returns -/

theorem ends_innerStack (n : BitVec 2) : Ends Settled (innerStack n) :=
  .get fun _ => .check fun _ => .bind (ends_sysRead _ _) fun _ => .bind (ends_sysRead _ _) fun _ => .check fun _ =>
    .bind (ends_descRead _ _) fun _ => .check fun _ => .check fun _ => .pure _

theorem ends_enterStack (nss : Half) (ds : Quad) (esp : Word) : Ends Settled (enterStack nss ds esp) :=
  .bind (ends_snapshot nofun) fun _ => ends_writeReg _ _ _

theorem ends_pushFarReturn (o : OSize) : Ends Settled (pushFarReturn o) :=
  .get fun _ => .bind (ends_selectorAt _ _) fun _ => .bind (ends_stage _ _ _) fun _ => ends_moveSp _

theorem ends_innerCall (g : Quad) (tsel : Half) {d : Quad} (h : descCode d = true) : Ends Entered (innerCall g tsel d) :=
  .ite (fun _ => .refuse _) fun _ => .bindEnter (ends_innerStack _) fun _ => .get fun _ =>
    .bindEnter (ends_selectorAt _ _) fun _ => .bindEnter (ends_selectorAt _ _) fun _ =>
      .bindEnter (ends_stageVia _ _ _ _ _ _ _) fun _ => .bindEnter (ends_enterStack _ _ _) fun _ => ends_enterCs h

theorem ends_gateTransfer (kind : TaskKind) (gsel : Half) (g : Quad) : Ends Entered (gateTransfer kind gsel g) :=
  .get fun _ => .check fun _ => .check fun _ => .check fun _ => .bindEnter (ends_descRead _ _) fun _ => .check fun h =>
    .check fun _ => .check fun _ => .check fun _ => .ite (fun _ => ends_innerCall _ _ (descCode_of_test h)) fun _ =>
      .bindEnter (.whenM (ends_pushFarReturn _)) fun _ => ends_enterCs (descCode_of_test h)

theorem ends_taskTransfer (kind : TaskKind) (sel : Half) (d : Quad) : Ends Entered (taskTransfer kind sel d) :=
  .get fun _ => .check fun _ => .check fun _ => ends_taskSwitch _ _ _

theorem ends_codeTransfer (kind : TaskKind) (o : OSize) (sel : Half) (off : Word) :
    Ends Entered (codeTransfer kind o sel off) :=
  .bindEnterOf (ends_checkDirectCs _ _) (returns_checkDirectCs _ _) fun _ h =>
    .bindEnter (.whenM (ends_pushFarReturn _)) fun _ => .get fun _ => ends_enterCs h

theorem ends_farTransfer (kind : TaskKind) (o : OSize) (sel : Half) (off : Word) : Ends Entered (farTransfer kind o sel off) :=
  .get fun _ => .ite
    (fun _ => .check fun _ => .bindEnter (.whenM (ends_pushFarReturn _)) fun _ => .enterBind (ends_loadReal_cs _) fun _ =>
      ends_writeEip _)
    fun _ => .check fun _ => .bindEnter (ends_descRead _ _) fun _ => .ite (fun _ => ends_codeTransfer _ _ _ _) fun _ =>
      .ite (fun _ => ends_gateTransfer _ _ _) fun _ => .ite (fun _ => ends_taskTransfer _ _ _) fun _ => .raise _

theorem Settled.zeroStale (s : State) (g : SReg) (h : g ≠ .cs) : Settled s (s.zeroStale g) := by
  unfold State.zeroStale
  split
  · exact .setSeg s fun hg => absurd hg h
  · exact .refl s

theorem ends_zeroStaleSegments : Ends Settled zeroStaleSegments :=
  .modS fun s => (((Settled.zeroStale s .ds nofun).trans (.zeroStale _ .es nofun)).trans (.zeroStale _ .fs nofun)).trans
    (.zeroStale _ .gs nofun)

theorem ends_outerReturn (o : OSize) (k : Nat) (extra : Word) (sel : Half) {d : Quad} (off : Word) {flags : M Unit}
    (h : descCode d = true) (hf : Ends Settled flags) : Ends Entered (outerReturn o k extra sel d off flags) :=
  .bindEnter (ends_peek _ _) fun _ => .bindEnter (ends_peek _ _) fun _ => .check fun _ =>
    .bindEnter (ends_descRead _ _) fun _ => .check fun _ => .check fun _ => .enterBind (ends_snapshot_cs h) fun _ =>
      .bind (ends_writeEip _) fun _ => .bind hf fun _ => .bind (ends_snapshot nofun) fun _ =>
        .bind (.same fun _ => ⟨rfl, rfl⟩) fun _ => ends_zeroStaleSegments

theorem ends_farReturn (o : OSize) (extra : Word) : Ends Entered (farReturn o extra) :=
  .get fun _ => .bindEnter (ends_peek _ _) fun _ => .bindEnter (ends_peek _ _) fun _ => .ite
    (fun _ => .enterBind (ends_loadReal_cs _) fun _ => .bind (ends_setEip _ _) fun _ => ends_moveSp _)
    fun _ => .bindEnterOf (ends_checkReturnCs _ _) (returns_checkReturnCs _ _) fun _ h => .ite
      (fun _ => .enterBind (ends_snapshot_cs h) fun _ => .bind (ends_writeEip _) fun _ => ends_moveSp _)
      fun _ => ends_outerReturn _ _ _ _ _ h (.pure ())

theorem ends_interruptReturn (o : OSize) : Ends Entered (interruptReturn o) :=
  have hw : ∀ v pe cpl iopl, Ends Settled (writeFlags v (iretMask pe cpl iopl o)) := fun v _ _ _ =>
    ends_writeFlags v (iretMask_vm _ _ _ o)
  .get fun _ => .ite (fun _ => .bindEnter (ends_sysRead _ _) fun _ => ends_taskSwitch _ _ _) fun _ =>
    .bindEnter (ends_peek _ _) fun _ => .bindEnter (ends_peek _ _) fun _ => .bindEnter (ends_peek _ _) fun _ => .ite
      (fun _ => .enterBind (ends_loadReal_cs _) fun _ => .bind (ends_setEip _ _) fun _ => .bind (hw _ _ _ _) fun _ =>
        ends_moveSp _)
      fun _ => .ite (fun _ => .refuse _) fun _ =>
        .bindEnterOf (ends_checkReturnCs _ _) (returns_checkReturnCs _ _) fun _ h => .ite
          (fun _ => .enterBind (ends_snapshot_cs h) fun _ => .bind (ends_writeEip _) fun _ => .bind (hw _ _ _ _) fun _ =>
            ends_moveSp _)
          fun _ => ends_outerReturn _ _ _ _ _ h (hw _ _ _ _)

/-! ## Delivery (spec/60_exceptions.md R411, R420 to R424, R430) -/

theorem ends_deliverReal (v : Byte) (ret : Word) : Ends Entered (deliverReal v ret) :=
  .get fun _ => .bindEnter (ends_stage _ _ _) fun _ => .bindEnter (ends_sysRead _ _) fun _ =>
    .bindEnter (ends_sysRead _ _) fun _ => .bindEnter (ends_moveSp _) fun _ => .bindEnter (.flags fun _ => id) fun _ =>
      .enterBind (ends_loadReal_cs _) fun _ => ends_writeEip _

theorem ends_flagsOnEntry (g : Quad) : Ends Settled (modFlags (flagsOnEntry g)) := .flags fun _ _ => rfl

theorem ends_sameDelivery (g : Quad) (tsel : Half) {d : Quad} (off : Word) (o : OSize) (err : Option Half) (ret : Word)
    (h : descCode d = true) : Ends Entered (sameDelivery g tsel d off o err ret) :=
  .get fun _ => .bindEnter (ends_selectorAt _ _) fun _ => .bindEnter (ends_stage _ _ _) fun _ =>
    .bindEnter (ends_moveSp _) fun _ => .enterBind (ends_enterCs h) fun _ => ends_flagsOnEntry g

theorem ends_innerDelivery (g : Quad) (tsel : Half) {d : Quad} (off : Word) (o : OSize) (err : Option Half) (ret : Word)
    (h : descCode d = true) : Ends Entered (innerDelivery g tsel d off o err ret) :=
  .bindEnter (ends_innerStack _) fun _ => .get fun _ => .bindEnter (ends_selectorAt _ _) fun _ =>
    .bindEnter (ends_selectorAt _ _) fun _ => .bindEnter (ends_stageVia _ _ _ _ _ _ _) fun _ =>
      .bindEnter (ends_enterStack _ _ _) fun _ => .enterBind (ends_enterCs h) fun _ => ends_flagsOnEntry g

theorem ends_taskGateDelivery (g : Quad) (err : Option Half) (ret : Word) : Ends Entered (taskGateDelivery g err ret) :=
  .enterBind (ends_taskSwitch _ _ _) fun _ => .get fun _ => by
    cases err with
    | none => exact .pure ()
    | some c => exact ends_push _ _

theorem ends_gateDelivery (g : Quad) (err : Option Half) (ret : Word) : Ends Entered (gateDelivery g err ret) :=
  .check fun _ => .bindEnter (ends_descRead _ _) fun _ => .get fun _ => .check fun h => .check fun _ => .check fun _ => .ite
    (fun _ => ends_innerDelivery _ _ _ _ _ _ (descCode_of_test h))
    fun _ => ends_sameDelivery _ _ _ _ _ _ (descCode_of_test h)

theorem ends_deliverProtected (v : Byte) (src : Src) (err : Option Half) (ret : Word) :
    Ends Entered (deliverProtected v src err ret) :=
  .get fun _ => .check fun _ => .bindEnter (ends_sysRead _ _) fun _ => .check fun _ => .check fun _ => .check fun _ =>
    .ite (fun _ => ends_taskGateDelivery _ _ _) fun _ => ends_gateDelivery _ _ _

theorem Ends.underExt {Q : State → State → Prop} {m : M Unit} (src : Src) (h : Ends Q m) : Ends Q (underExt src m) := by
  intro s
  unfold Machine.underExt
  cases e : m s with
  | ok u t => exact h.ok e
  | error x t => exact h.error e

theorem Sound.deliverOn (s : State) (on : Bool) (c : EventClass) : Sound s (s.deliverOn on c) := { Sound.refl s with }

/-- A delivery that completes has entered a code segment and is not open any more, whatever state it began in. -/
theorem ends_deliver (v : Byte) (src : Src) (err : Option Half) (ret : Word) : Ends Entered (deliver v src err ret) := by
  have hx := Ends.underExt src (m := getS >>= fun s => if s.pe then deliverProtected v src err ret else deliverReal v ret)
    (.get fun _ => .ite (fun _ => ends_deliverProtected _ _ _ _) fun _ => ends_deliverReal _ _)
  intro s
  have h0 := Sound.deliverOn s true (classOf v src)
  rw [deliver, modS_bind]
  cases e : Machine.underExt src (getS >>= fun s => if s.pe then deliverProtected v src err ret else deliverReal v ret)
      (s.deliverOn true (classOf v src)) with
  | ok u t =>
    rw [M.bind_ok e]
    have h := hx.ok e
    exact { (h0.trans h.toSound).trans (.deliverOn t false (classOf v src)) with delivering := fun _ => rfl, code := h.code }
  | error x t =>
    rw [M.bind_error e]
    exact h0.trans (hx.error e)

theorem ends_softInt (v : Byte) : Ends Settled (softInt v) := .get fun _ => (ends_deliver _ _ _ _).settled

theorem ends_intOnOverflow : Ends Settled intOnOverflow := .get fun _ => .whenM (ends_softInt 4)

end Sys2Proof.Machine

end

section

namespace Sys2Proof

/-! ## What a decoding can give -/

/-- Whatever bytes follow, what the decoding gives satisfies P. -/
def Dec.All {α : Type} (P : α → Prop) : Dec α → Prop
  | .done a => P a
  | .ask k => ∀ b, (k b).All P
  | .invalid => True
  | .refuse _ => True

section All

variable {α : Type} {P : α → Prop}

@[simp] theorem Dec.all_done {a : α} : (Dec.done a).All P ↔ P a := Iff.rfl

@[simp] theorem Dec.all_ask {k : Byte → Dec α} : (Dec.ask k).All P ↔ ∀ b, (k b).All P := Iff.rfl

@[simp] theorem Dec.all_invalid : (Dec.invalid : Dec α).All P := trivial

@[simp] theorem Dec.all_refuse (r : DecodeRefusal) : (Dec.refuse r : Dec α).All P := trivial

theorem Dec.all_askHalf {k : Half → Dec α} (h : ∀ v, (k v).All P) : (askHalf k).All P := fun _ _ => h _

theorem Dec.all_askWord {k : Word → Dec α} (h : ∀ v, (k v).All P) : (askWord k).All P := fun _ _ _ _ => h _

theorem Dec.all_askImmV {c : DecodeCtx} {k : ImmV → Dec α} (h : ∀ v, (k v).All P) : (askImmV c k).All P := by
  unfold askImmV
  split
  · exact all_askHalf fun _ => h _
  · exact all_askWord fun _ => h _

theorem Dec.all_askMoffs {c : DecodeCtx} {k : Moffs → Dec α} (h : ∀ v, (k v).All P) : (askMoffs c k).All P := by
  unfold askMoffs
  split
  · exact all_askHalf fun _ => h _
  · exact all_askWord fun _ => h _

theorem Dec.all_askAddr16 {md : BitVec 2} {rm : BitVec 3} {k : Addr → Dec α} (h : ∀ a, (k a).All P) :
    (askAddr16 md rm k).All P := by
  unfold askAddr16
  split
  · split
    · exact all_askHalf fun _ => h _
    · exact h _
  · split
    · exact fun _ => h _
    · exact all_askHalf fun _ => h _

theorem Dec.all_askDisp32 {md : BitVec 2} {k : Disp32 → Dec α} (h : ∀ d, (k d).All P) : (askDisp32 md k).All P := by
  unfold askDisp32
  split
  · exact h _
  · split
    · exact fun _ => h _
    · exact all_askWord fun _ => h _

theorem Dec.all_askAddr32 {md : BitVec 2} {rm : BitVec 3} {k : Addr → Dec α} (h : ∀ a, (k a).All P) :
    (askAddr32 md rm k).All P := by
  unfold askAddr32
  split
  · intro sib
    dsimp only
    split
    · exact all_askWord fun _ => h _
    · exact all_askDisp32 fun _ => h _
  · split
    · exact all_askWord fun _ => h _
    · exact all_askDisp32 fun _ => h _

theorem Dec.all_askMem {c : DecodeCtx} {b : Byte} {k : MemOp → Dec α} (h : ∀ m, (k m).All P) : (askMem c b k).All P := by
  unfold askMem
  split
  · exact all_askAddr16 fun _ => h _
  · exact all_askAddr32 fun _ => h _

theorem Dec.all_askMemOnly {c : DecodeCtx} {b : Byte} {k : MemOp → Dec α} (h : ∀ m, (k m).All P) :
    (askMemOnly c b k).All P := by
  unfold askMemOnly
  split
  · trivial
  · exact all_askMem h

theorem Dec.all_askRm8 {c : DecodeCtx} {b : Byte} {k : Rm8 → Dec α} (h : ∀ m, (k m).All P) : (askRm8 c b k).All P := by
  unfold askRm8
  split
  · exact h _
  · exact all_askMem fun _ => h _

theorem Dec.all_askRm {c : DecodeCtx} {b : Byte} {k : Rm → Dec α} (h : ∀ m, (k m).All P) : (askRm c b k).All P := by
  unfold askRm
  split
  · exact h _
  · exact all_askMem fun _ => h _

end All

/-- The instruction is not the MOV to CS, which does not exist (spec/30_encoding.md R160). -/
def Instr.NotMovCs (i : Instr) : Prop := ∀ m, i ≠ .movSregRm16 .cs m

/-- 8E decodes no load of CS (R160). -/
theorem pSregRm16_notMovCs (c : DecodeCtx) (b : Byte) : (pSregRm16 .movSregRm16 c b).All Instr.NotMovCs := by
  intro b2
  dsimp only
  split
  · split
    · next h =>
      refine Dec.all_askRm fun m m' e => ?_
      cases e
      cases h
    · trivial
  · trivial

theorem pRm16Sreg_notMovCs (c : DecodeCtx) (b : Byte) : (pRm16Sreg .movRm16Sreg c b).All Instr.NotMovCs := by
  intro b2
  dsimp only
  split
  · exact Dec.all_askRm fun m => by simp [Instr.NotMovCs]
  · trivial

theorem pCr_notMovCs {f : Reg → CReg → Instr} (c : DecodeCtx) (b : Byte) (h : ∀ r n m, f r n ≠ .movSregRm16 .cs m) :
    (pCr f c b).All Instr.NotMovCs := by
  intro b2
  dsimp only
  split
  · exact h _ _
  · trivial

/-- No row of the opcode maps decodes to it. -/
theorem opRows_notMovCs (c : DecodeCtx) (b : Byte) : ∀ r ∈ opRows ++ op0FRows, (r.parse c b).All Instr.NotMovCs := by
  simp only [opRows, op0FRows, List.forall_mem_append]
  refine ⟨⟨⟨⟨⟨⟨?_, ?_⟩, ?_⟩, ?_⟩, ?_⟩, ?_⟩, ?_, ?_⟩
  all_goals
    simp [opRows1, opRows2, opRows3, opRows4, opRows5, opRows6, op0FRows1, op0FRows2, row, rowR, pSregRm16_notMovCs,
      pRm16Sreg_notMovCs, pCr_notMovCs, pNone, pV, pReg, pReg8Imm8, pRegImmV, pImm8, pVImm8, pVImm16, pImmV, pFar, pMoffs, pRm8R8,
      pRmvRv, pRmvRvImm8, pRmvRvImmV, pRvMem, pDr, Dec.all_askHalf, Dec.all_askImmV, Dec.all_askMoffs, Dec.all_askMemOnly,
      Dec.all_askRm8, Dec.all_askRm, Instr.NotMovCs]

/-- No group row decodes to it. -/
theorem groupRows_notMovCs (c : DecodeCtx) (b : Byte) :
    ∀ r ∈ groupRows ++ group0FRows, (r.parse c b).All Instr.NotMovCs := by
  simp only [groupRows, List.forall_mem_append]
  refine ⟨⟨⟨⟨?_, ?_⟩, ?_⟩, ?_⟩, ?_⟩
  all_goals
    simp [groupRows1, groupRows2, groupRows3, groupRows4, group0FRows, gRm8, gRmv, gRm8Imm8, gRmvImm8, gRmvImmV, gMemV,
      gRm16Prot, apply_ite (Dec.All _), Dec.all_askImmV, Dec.all_askMemOnly, Dec.all_askRm8, Dec.all_askRm, Instr.NotMovCs]

theorem decodeOp_notMovCs {ops : List OpRow} {grps : List GroupRow} (c : DecodeCtx) (b : Byte)
    (ho : ∀ r ∈ ops, (r.parse c b).All Instr.NotMovCs) (hg : ∀ b, ∀ r ∈ grps, (r.parse c b).All Instr.NotMovCs) :
    (decodeOp ops grps c b).All Instr.NotMovCs := by
  unfold decodeOp
  split
  · exact ho _ (List.mem_of_find?_eq_some ‹_›)
  · split
    · intro modrm
      dsimp only
      split
      · exact hg _ _ (List.mem_of_find?_eq_some ‹_›)
      · trivial
    · trivial

/-- No bytes decode to the MOV to CS (R160). -/
theorem decodeOne_notMovCs (c : DecodeCtx) : (decodeOne c).All Instr.NotMovCs := by
  have hops : ∀ b, ∀ r ∈ opRows, (r.parse c b).All Instr.NotMovCs := fun b r h =>
    opRows_notMovCs c b r (List.mem_append_left _ h)
  have hops0F : ∀ b, ∀ r ∈ op0FRows, (r.parse c b).All Instr.NotMovCs := fun b r h =>
    opRows_notMovCs c b r (List.mem_append_right _ h)
  have hgrp : ∀ b, ∀ r ∈ groupRows, (r.parse c b).All Instr.NotMovCs := fun b r h =>
    groupRows_notMovCs c b r (List.mem_append_left _ h)
  have hgrp0F : ∀ b, ∀ r ∈ group0FRows, (r.parse c b).All Instr.NotMovCs := fun b r h =>
    groupRows_notMovCs c b r (List.mem_append_right _ h)
  have hpre : ∀ r ∈ prefixRows, r.2.NotMovCs := by simp [prefixRows, Instr.NotMovCs]
  intro b
  dsimp only
  split
  · exact hpre _ (List.mem_of_find?_eq_some ‹_›)
  · split
    · exact fun b2 => decodeOp_notMovCs c b2 (hops0F b2) hgrp0F
    · exact decodeOp_notMovCs c b (hops b) hgrp

end Sys2Proof

end

section

namespace Sys2Proof.Machine

/-! ## From a body to an instruction -/

/-- Every instruction but the rows that latch, and but the MOV to CS that does not exist (spec/30_encoding.md R160), is the run of
a body that completes or aborts soundly. -/
theorem exec_runs (i : Instr) (s : State) (hp : Latch.empty.after i = none) (hc : i.NotMovCs) :
    ∃ body, exec i s = run body s ∧ Ends Completed body := by
  cases i
  case prefixEs | prefixCs | prefixSs | prefixDs | prefixFs | prefixGs | prefixOpsize | prefixAddrsize | prefixLock |
      prefixRepne | prefixRep => cases hp
  all_goals
    dsimp only [exec]
    refine ⟨_, rfl, ?_⟩
  case sti => exact ends_setIf
  case hlt => exact ends_halt
  case popEs | popSs | popDs | popFs | popGs => exact ends_popSeg _ nofun
  case movSregRm16 g m => exact ends_loadSelector _ fun hg => hc m (congrArg (Instr.movSregRm16 · m) hg)
  all_goals refine Ends.completed ?_
  case incRv | incRm8 | incRmv | decRv | decRm8 | decRmv | notRm8 | notRmv | negRm8 | negRmv => exact ends_unary _ _ _
  case mulRm8 | mulRmv => exact ends_mulUnsigned _ _
  case imulRm8 | imulRmv => exact ends_mulSigned _ _
  case divRm8 | divRmv => exact ends_divUnsigned _ _
  case idivRm8 | idivRmv => exact ends_divSigned _ _
  case imulRvRmv | imulRvRmvImmv | imulRvRmvSx8 => exact ends_mulInto _ _ _ _
  case rolRm8Imm8 | rolRmvImm8 | rolRm8One | rolRmvOne | rolRm8Cl | rolRmvCl | rorRm8Imm8 | rorRmvImm8 | rorRm8One |
      rorRmvOne | rorRm8Cl | rorRmvCl | rclRm8Imm8 | rclRmvImm8 | rclRm8One | rclRmvOne | rclRm8Cl | rclRmvCl | rcrRm8Imm8
      | rcrRmvImm8 | rcrRm8One | rcrRmvOne | rcrRm8Cl | rcrRmvCl | shlRm8Imm8 | shlRmvImm8 | shlRm8One | shlRmvOne |
      shlRm8Cl | shlRmvCl | shrRm8Imm8 | shrRmvImm8 | shrRm8One | shrRmvOne | shrRm8Cl | shrRmvCl | sarRm8Imm8 |
      sarRmvImm8 | sarRm8One | sarRmvOne | sarRm8Cl | sarRmvCl => exact ends_shiftLoc _ _ _ _
  case cbwCwde => exact ends_widenAcc _
  case cwdCdq => exact ends_extendAcc _
  case aam => exact ends_asciiMul _
  case aad => exact ends_asciiDiv _
  case movRm8R8 | movRmvRv | movR8Rm8 | movRvRmv | movR8Imm8 | movRvImmv | movRm8Imm8 | movRmvImmv | movAlMoffs |
      movEaxMoffs | movMoffsAl | movMoffsEax => exact ends_move _ _ _
  case movRm16Sreg => exact ends_storeSelector _ _ _
  case lea => exact ends_loadAddress _ _ _
  case pushRv => exact ends_pushReg _ _
  case popRv => exact ends_popReg _ _
  case pushImmv | pushSx8 => exact ends_push _ _
  case pushEs | pushCs | pushSs | pushDs | pushFs | pushGs => exact ends_pushSeg _ _
  case pusha => exact ends_pushAll _
  case popa => exact ends_popAll _
  case pushf => exact ends_pushFlags _
  case popf => exact ends_popFlags _
  case jmpRel8 | jmpRelv => exact ends_jumpRel _ _
  case jmpRmv => exact ends_jumpTo _ _
  case joRel8 | jnoRel8 | jbRel8 | jaeRel8 | jeRel8 | jneRel8 | jbeRel8 | jaRel8 | jsRel8 | jnsRel8 | jpRel8 | jnpRel8 |
      jlRel8 | jgeRel8 | jleRel8 | jgRel8 | joRelv | jnoRelv | jbRelv | jaeRelv | jeRelv | jneRelv | jbeRelv | jaRelv |
      jsRelv | jnsRelv | jpRelv | jnpRelv | jlRelv | jgeRelv | jleRelv | jgRelv => exact ends_jumpIf _ _ _
  case callRelv => exact ends_callRel _ _
  case callRmv => exact ends_callTo _ _
  case jmpFar | callFar => exact (ends_farTransfer _ _ _ _).settled
  case ret | retImm16 => exact ends_retNear _ _
  case retf | retfImm16 => exact (ends_farReturn _ _).settled
  case iret => exact (ends_interruptReturn _).settled
  case int | int3 => exact ends_softInt _
  case lgdt => exact ends_loadGdt _ _
  case lidt => exact ends_loadIdt _ _
  case lldt => exact ends_loadLdt _
  case ltr => exact ends_loadTask _
  case movR32Cr => exact ends_readControl _ _
  case movCrR32 => exact ends_writeControl _ _
  case movR32Dr => exact ends_readDebug _ _
  case movDrR32 => exact ends_writeDebug _ _
  case inAlImm8 | inEaxImm8 | inEaxDx | inAlDx => exact ends_portIn _ _
  case outImm8Al | outImm8Eax | outDxEax | outDxAl => exact ends_portOut _ _
  case bound => exact ends_boundCheck _ _ _
  case daa => exact ends_decimalAdd
  case das => exact ends_decimalSub
  case aaa | aas => exact ends_asciiAdjust _ _ _
  case nop => exact .pure ()
  case lahf => exact ends_loadAh
  case sahf => exact ends_storeAh
  case clc | stc | cmc | cld | std => exact .flags fun _ => id
  case cli => exact ends_clearIf
  case into => exact ends_intOnOverflow
  case clts => exact ends_clearTs
  all_goals exact ends_binary _ _ _ _

end Sys2Proof.Machine

end

section

namespace Sys2Proof.Machine

/-! ## Fetching an instruction -/

/-- What fetching leaves: the latches of the prefixes and EIP apart, what every operation that completes leaves. -/
def Fetched (s t : State) : Prop := Settled s (t.withLatch s.latch)

theorem Settled.withLatch {s t : State} (h : Settled s t) (l : Latch) : Settled (s.withLatch l) (t.withLatch l) :=
  { params := h.params, memory := h.memory, inRam := h.inRam, noV86 := h.noV86, paging := h.paging, latch := rfl
    exempt := h.exempt, halted := h.halted, shutdown := h.shutdown, delivering := h.delivering, code := h.code }

theorem Fetched.chain : Chain Fetched :=
  ⟨Settled.refl, fun s _ _ h k => h.trans (k.withLatch s.latch)⟩

theorem MemStep.fetched {s t : State} (h : MemStep s t) : Fetched s t :=
  { h.settled with latch := rfl }

theorem keeps_fetchByte : Keeps Fetched fetchByte :=
  have hmem {α : Type} {m : M α} (h : Keeps MemStep m) : Keeps Fetched m := h.mono fun _ _ => MemStep.fetched
  .bind Fetched.chain (.getS Fetched.chain) fun _ => .bind Fetched.chain (.raiseIf Fetched.chain _ _) fun _ =>
    .bind Fetched.chain (hmem (keeps_segCheck _ _ _ _ _)) fun _ => .bind Fetched.chain (hmem (keeps_linRead _ _ _)) fun _ =>
      .bind Fetched.chain (.modS fun _ => .of_vital rfl rfl) fun _ => .pure Fetched.chain _

theorem keeps_runDec (d : Dec Instr) : Keeps Fetched (runDec d) := by
  induction d with
  | done i => exact .pure Fetched.chain i
  | ask k ih => exact .bind Fetched.chain keeps_fetchByte fun b => ih b
  | invalid => exact .raise Fetched.chain _
  | refuse r => exact .refuse Fetched.chain _

/-- Whether a row latches does not depend on what is latched. -/
theorem Latch.after_isSome (l l' : Latch) (i : Instr) : (l.after i).isSome = (l'.after i).isSome := by cases i <;> rfl

/-- A row that latches does nothing else (spec/30_encoding.md R141). -/
theorem exec_prefix {i : Instr} {s : State} {l : Latch} (h : s.latch.after i = some l) : exec i s = .next (s.withLatch l) := by
  cases i <;> cases h <;> rfl

theorem runPrefix_apply {i : Instr} {s : State} {l : Latch} (h : s.latch.after i = some l) :
    runPrefix i s = .ok () (s.withLatch l) := by rw [runPrefix, exec_prefix h]

theorem keeps_runPrefix {i : Instr} (h : (Latch.empty.after i).isSome = true) : Keeps Fetched (runPrefix i) := by
  intro s
  rw [Latch.after_isSome _ s.latch] at h
  obtain ⟨l, hl⟩ := Option.isSome_iff_exists.mp h
  rw [runPrefix_apply hl]
  exact .of_vital rfl rfl

theorem keeps_fetchInstr (n : Nat) : Keeps Fetched (fetchInstr n) := by
  induction n with
  | zero => exact .raise Fetched.chain _
  | succ n ih =>
    refine .bind Fetched.chain (.getS Fetched.chain) fun _ => .bind Fetched.chain (keeps_runDec _) fun i => ?_
    split
    · exact .bind Fetched.chain (keeps_runPrefix ‹_›) fun _ => ih
    · exact .pure Fetched.chain i

/-! What fetching raises is an exception of the task that runs. -/

/-- An abort that is no fault of a task switch's last step. -/
def Abort.Own (a : Abort) : Prop := ∀ e, a = .exc e → e.newTask = false

theorem Abort.own_exc {e : Exc} (h : e.newTask = false) : Abort.Own (.exc e) := by
  rintro _ ⟨⟩
  exact h

theorem Abort.own_stop (r : Refusal) : Abort.Own (.stop r) := nofun

theorem raises_physRead (p : Word) (n : Nat) : Raises Abort.Own (physRead p n) := by
  rintro s _ _ ⟨⟩

theorem raises_physWrite (p : Word) (n : Nat) (v : Quad) : Raises Abort.Own (physWrite p n v) := .modS _

theorem raises_pageFault {α : Type} (l : Word) (a : Acc) (b : Bool) : Raises Abort.Own (pageFault l a b : M α) := by
  rintro s _ _ ⟨⟩
  exact Abort.own_exc rfl

theorem raises_walk (l : Word) (a : Acc) : Raises Abort.Own (walk l a) :=
  .bind .getS fun _ => .bind (raises_physRead _ _) fun _ => .ite (raises_pageFault _ _ _) <|
    .bind (raises_physRead _ _) fun _ => .ite (raises_pageFault _ _ _) <| .ite (raises_pageFault _ _ _) <|
      .bind (.whenM (raises_physWrite _ _ _)) fun _ => .bind (.whenM (raises_physWrite _ _ _)) fun _ => .pure _

theorem raises_translate (l : Word) (a : Acc) : Raises Abort.Own (translate l a) :=
  .bind .getS fun _ => .ite (raises_walk l a) (.pure l)

theorem raises_linReadBytes (l : Word) (a : Acc) (n : Nat) : Raises Abort.Own (linReadBytes l a n) := by
  induction n generalizing l with
  | zero => exact .pure 0
  | succ n ih =>
    exact .bind (raises_translate l a) fun _ => .bind (raises_physRead _ _) fun _ => .bind (ih _) fun _ => .pure _

theorem raises_linRead (l : Word) (n : Nat) (a : Acc) : Raises Abort.Own (linRead l n a) :=
  .bind .getS fun _ => .ite (raises_linReadBytes l a n) (.bind (raises_translate l a) fun _ => raises_physRead _ _)

theorem segFault_newTask (c : SegCache) : (segFault c).newTask = false := by
  unfold segFault
  split <;> rfl

theorem raises_fetchByte : Raises Abort.Own fetchByte :=
  .bind .getS fun _ => .bind (.raiseIf (Abort.own_exc rfl)) fun _ =>
    .bind (.bind .getS fun _ => .raiseIf (Abort.own_exc (segFault_newTask _))) fun _ => .bind (raises_linRead _ _ _) fun _ =>
      .bind (.modS _) fun _ => .pure _

theorem raises_runDec (d : Dec Instr) : Raises Abort.Own (runDec d) := by
  induction d with
  | done i => exact .pure i
  | ask k ih => exact .bind raises_fetchByte fun b => ih b
  | invalid => exact .raise (Abort.own_exc rfl)
  | refuse r => exact .refuse (Abort.own_stop _)

theorem raises_runPrefix (i : Instr) : Raises Abort.Own (runPrefix i) := by
  intro s x t h
  unfold runPrefix at h
  cases e : exec i s with
  | next s' =>
    rw [e] at h
    cases h
  | fault r =>
    rw [e] at h
    cases h
    exact Abort.own_exc rfl
  | refused r =>
    rw [e] at h
    cases h
    exact Abort.own_stop r

theorem raises_fetchInstr (n : Nat) : Raises Abort.Own (fetchInstr n) := by
  induction n with
  | zero => exact .raise (Abort.own_exc rfl)
  | succ n ih =>
    exact .bind .getS fun _ => .bind (raises_runDec _) fun i => .ite (.bind (raises_runPrefix i) fun _ => ih) (.pure i)

/-! What is fetched is no row that latches, and no MOV to CS. -/

theorem Returns.bindOf {α β : Type} {P : α → Prop} {Q : β → Prop} {m : M α} {f : α → M β} (hm : Returns P m)
    (hf : ∀ a, P a → Returns Q (f a)) : Returns Q (m >>= f) := by
  intro s b u e
  cases h : m s with
  | ok a t =>
    rw [M.bind_ok h] at e
    exact hf a (hm s a t h) t b u e
  | error x t =>
    rw [M.bind_error h] at e
    cases e

theorem Returns.raise {α : Type} {P : α → Prop} (e : Exc) : Returns P (raise e : M α) := by
  rintro s _ _ ⟨⟩

theorem Returns.refuse {α : Type} {P : α → Prop} (r : Refusal) : Returns P (refuse r : M α) := by
  rintro s _ _ ⟨⟩

theorem returns_runDec {P : Instr → Prop} {d : Dec Instr} (h : d.All P) : Returns P (runDec d) := by
  induction d with
  | done i => exact .pure h
  | ask k ih => exact .bind fun b => ih b (h b)
  | invalid => exact .raise _
  | refuse r => exact .refuse _

theorem returns_fetchInstr (n : Nat) : Returns (fun i => Latch.empty.after i = none ∧ i.NotMovCs) (fetchInstr n) := by
  induction n with
  | zero => exact .raise _
  | succ n ih =>
    refine .bind fun s => .bindOf (returns_runDec (decodeOne_notMovCs s.decodeCtx)) fun i hi => ?_
    split
    · exact .bind fun _ => ih
    · next h => exact .pure ⟨Option.not_isSome_iff_eq_none.mp h, hi⟩

end Sys2Proof.Machine

end

section

namespace Sys2Proof.Machine

/-! ## Taking exceptions and interrupts -/

/-- What the delivery of an event leads to from s: the invariant is kept, and CS holds a code segment whatever it held
before, for a delivery enters one or shuts the core down. -/
def Handled (s t : State) : Prop := (s.Inv → t.Inv) ∧ t.CodeInv

/-- A handler is entered from a state with the invariant (spec/60_exceptions.md R410, R443). -/
theorem handlerBase_inv {s0 s1 : State} (e : Exc) (h : Sound s0 s1) (hs : s0.Inv) : (handlerBase e s0 s1).Inv := by
  unfold handlerBase
  split
  · exact (h.trans (.deliverOn s1 false _)).inv hs rfl
  · exact { hs with memory := h.memory hs.memory, inRam := h.inRam hs.inRam, settled := rfl }

theorem deliverChain_handled {k : Nat} {v : Byte} {src : Src} {err : Option Half} {ret : Word} {s t : State}
    (h : deliverChain k v src err ret s = .next t) : Handled s t := by
  induction k generalizing v src err ret s with
  | zero => cases h
  | succ k ih =>
    have hd := ends_deliver v src err ret
    rw [deliverChain] at h
    cases e : deliver v src err ret s with
    | ok u s1 =>
      rw [e] at h
      cases h
      exact ⟨(hd.ok e).settled.inv, .inr (hd.ok e).code⟩
    | error x s1 =>
      rw [e] at h
      cases x with
      | stop r => cases h
      | exc x =>
        have hb := handlerBase_inv x (hd.error e)
        dsimp only at h
        split at h
        · exact (ih h).imp_left (· ∘ hb)
        · exact (ih h).imp_left (· ∘ hb)
        · cases h
          exact ⟨fun hs => { hb hs with }, .inl rfl⟩

theorem deliverEvent_handled {v : Byte} {src : Src} {err : Option Half} {ret : Word} {s t : State}
    (h : deliverEvent v src err ret s = .next t) : Handled s t := deliverChain_handled h

theorem takeException_handled {e : Exc} {s0 s1 t : State} (hs : Sound s0 s1) (h : takeException e s0 s1 = .next t) :
    Handled s0 t := by
  have h0 : Sound (s0.withEip s0.baseEip) s1 := (Sound.of_vital rfl : Sound (s0.withEip s0.baseEip) s0).trans hs
  exact (deliverEvent_handled h).imp_left fun k hi => k (handlerBase_inv e h0 { hi with })

/-- A fault of the running task is rolled back, so what its instruction had latched does not matter. -/
theorem takeException_withLatch {e : Exc} (he : e.newTask = false) (s0 s1 : State) (l : Latch) :
    takeException e s0 (s1.withLatch l) = takeException e s0 s1 := by
  simp only [takeException, handlerBase, he]
  rfl

/-- A body that completes or aborts soundly makes an instruction that completes, or whose exception is handled. -/
theorem Ends.run {body : M Unit} {s t : State} (hb : Ends Completed body) (h : run body s = .next t) :
    (∃ u, Completed s u ∧ t = u.count) ∨ Handled s t := by
  unfold Machine.run at h
  cases e : body s with
  | ok u s1 =>
    rw [e] at h
    cases h
    exact .inl ⟨s1, hb.ok e, rfl⟩
  | error x s1 =>
    rw [e] at h
    cases x with
    | stop r => cases h
    | exc x => exact .inr (takeException_handled (hb.error e) h)

/-! ## The boundary -/

/-- The invariants of s lead to those of t. -/
def Carries (s t : State) : Prop := (s.Inv → t.Inv) ∧ (s.CodeInv → t.CodeInv)

theorem Carries.trans {s t u : State} (h : Carries s t) (k : Carries t u) : Carries s u := ⟨k.1 ∘ h.1, k.2 ∘ h.2⟩

theorem Settled.carries {s t : State} (h : Settled s t) : Carries s t :=
  ⟨h.inv, Or.imp h.shutdown.trans h.code⟩

theorem Carries.of_vital {s t : State} (h : t.vital = s.vital) (hc : t.cs = s.cs) : Carries s t :=
  (Settled.of_vital h hc).carries

theorem Handled.carries {s t : State} (h : Handled s t) : Carries s t := ⟨h.1, fun _ => h.2⟩

theorem andThen_next {o : Host.Outcome State Fault Refusal} {f : State → Host.Outcome State Fault Refusal} {u : State}
    (h : andThen o f = .next u) : ∃ t, o = .next t ∧ f t = .next u := by
  cases o with
  | next t => exact ⟨t, rfl, h⟩
  | fault r => cases h
  | refused r => cases h

theorem trapStep_carries {s t : State} (h : trapStep s = .next t) : Carries s t := by
  unfold trapStep at h
  split at h
  · exact (Carries.of_vital rfl rfl : Carries s s.stepDr6).trans (deliverEvent_handled h).carries
  · cases h
    exact ⟨id, id⟩

theorem irqStep_carries {s t : State} (h : irqStep s = .next t) : Carries s t := by
  have hp : Carries s s.popIrq := .of_vital rfl rfl
  unfold irqStep at h
  split at h
  · next v _ =>
    split at h
    · exact (Carries.of_vital rfl rfl : Carries s (s.popIrq.log (.irqAck v))).trans (deliverEvent_handled h).carries
    · cases h
      exact hp
  · cases h
    exact hp
  · cases h
    exact ⟨id, id⟩

theorem State.uninhibit_of_not {s : State} (h : s.inhibitNext = false) : s.uninhibit = s := by
  cases s
  cases h
  rfl

/-- The boundary keeps the invariants, and clears an exemption (spec/60_exceptions.md R427). -/
theorem boundary_carries {s t : State} (h : boundary s = .next t) :
    (s.uninhibit.Inv → t.Inv) ∧ (s.CodeInv → t.CodeInv) := by
  unfold boundary at h
  split at h
  · cases h
    exact ⟨id, id⟩
  · next hi =>
    rw [State.uninhibit_of_not (Bool.eq_false_iff.mpr hi)]
    obtain ⟨s1, h1, h2⟩ := andThen_next h
    refine (trapStep_carries h1).trans ?_
    split at h2
    · cases h2
      exact ⟨id, id⟩
    · exact irqStep_carries h2

/-! ## An instruction and what follows it -/

/-- What an instruction leaves for the boundary after it: the invariant, but for an exemption of that boundary, and such an
exemption only where the boundary is reached. -/
def State.Ending (s : State) : Prop := s.uninhibit.Inv ∧ (s.inhibitNext = true → s.halted = false ∧ s.shutdown = false)

theorem State.Inv.ending {s : State} (h : s.Inv) : s.Ending :=
  ⟨{ h with exempt := rfl }, fun hi => absurd (hi.symm.trans h.exempt) (by decide)⟩

theorem Completed.ending {s t : State} (h : Completed s t) (hs : s.Inv) (hh : s.halted = false) (hd : s.shutdown = false) :
    t.count.Ending := by
  obtain ⟨u, hu, ht⟩ := h
  have hi := hu.inv hs
  obtain rfl | rfl | rfl := ht
  · exact State.Inv.ending { hi with }
  · exact State.Inv.ending { hi with }
  · exact ⟨{ hi with exempt := rfl }, fun _ => ⟨hu.halted.trans hh, hu.shutdown.trans hd⟩⟩

theorem Completed.codeInv {s t : State} (h : Completed s t) (hs : s.CodeInv) : t.count.CodeInv := by
  obtain ⟨u, hu, ht⟩ := h
  have hi := hu.carries.2 hs
  obtain rfl | rfl | rfl := ht <;> exact hi

theorem runInstr_carries {s t : State} (hh : s.halted = false) (hd : s.shutdown = false) (h : runInstr s = .next t) :
    (s.Inv → t.Ending) ∧ (s.CodeInv → t.CodeInv) := by
  have hb : s.Inv → s.begin.Inv := fun hs => { hs with unlatched := rfl }
  unfold runInstr at h
  cases e : fetchInstr fetchBound s.begin with
  | ok i s1 =>
    rw [e] at h
    dsimp only at h
    have hf : Settled s.begin (s1.withLatch Latch.empty) := (keeps_fetchInstr fetchBound).ok e
    obtain ⟨hp, hc⟩ := returns_fetchInstr fetchBound _ _ _ e
    obtain ⟨body, hbody, hends⟩ := exec_runs i (s1.withLatch Latch.empty) hp hc
    rw [hbody] at h
    obtain ⟨u, hu, rfl⟩ | ht := hends.run h
    · exact ⟨fun hs => hu.ending (hf.inv (hb hs)) (hf.halted.trans hh) (hf.shutdown.trans hd),
        fun hs => hu.codeInv (hf.carries.2 hs)⟩
    · exact ⟨fun hs => (ht.1 (hf.inv (hb hs))).ending, fun _ => ht.2⟩
  | error x s1 =>
    rw [e] at h
    cases x with
    | stop r => cases h
    | exc x =>
      dsimp only at h
      have hf : Settled s.begin (s1.withLatch Latch.empty) := (keeps_fetchInstr fetchBound).error e
      have hx := raises_fetchInstr fetchBound _ _ _ e x rfl
      rw [← takeException_withLatch hx _ _ Latch.empty] at h
      have ht := takeException_handled hf.toSound h
      exact ⟨fun hs => (ht.1 (hb hs)).ending, fun _ => ht.2⟩

theorem finish_carries {s t : State} (h : finish s = .next t) : (s.Ending → t.Inv) ∧ (s.CodeInv → t.CodeInv) := by
  unfold finish at h
  split at h
  · next hsh =>
    cases h
    refine ⟨fun ⟨hi, hx⟩ => ?_, id⟩
    have hn : s.inhibitNext = false := by
      by_contra hn
      obtain ⟨h1, h2⟩ := hx (by simpa using hn)
      simp [h1, h2] at hsh
    rwa [State.uninhibit_of_not hn] at hi
  · exact (boundary_carries h).imp_left (· ∘ And.left)

theorem sleepStep_carries {s t : State} (h : sleepStep s = .next t) : Carries s t := by
  unfold sleepStep at h
  split at h
  · exact (boundary_carries h).imp_left fun k hs => k { hs with exempt := rfl }
  · cases h
    exact .of_vital rfl rfl

/-- A HardReboot ends in both invariants, as a reset does (spec/70_reset_and_hazards.md R468). -/
theorem State.reboot_inv (s : State) : s.reboot.Inv :=
  ⟨rfl, rfl, rfl, fun h => absurd h (by simp [State.reboot, State.resetWith, State.pg]), rfl, rfl, rfl⟩

/-- Every step keeps both invariants. -/
theorem step_carries {s t : State} (h : step s = .next t) : Carries s t := by
  have h1 : Carries s s.popCommand := .of_vital rfl rfl
  have h2 : Carries s s.popCommand.takeA20 := .of_vital rfl rfl
  unfold step mainStep at h
  dsimp only at h
  split at h
  · cases h
    exact ⟨fun _ => State.reboot_inv _, fun _ => .inr rfl⟩
  · split at h
    · cases h
      exact h1
    · next hd =>
      split at h
      · exact h2.trans (sleepStep_carries h)
      · next hh =>
        obtain ⟨u, hr, hf⟩ := andThen_next h
        have hu := runInstr_carries (Bool.eq_false_iff.mpr hh) (Bool.eq_false_iff.mpr hd) hr
        exact h2.trans ⟨(finish_carries hf).1 ∘ hu.1, (finish_carries hf).2 ∘ hu.2⟩

/-! ## The statements -/

/-- Settles O10: every operation keeps what the invariant speaks of, a delivery closes what it opens, and the boundary clears an
exemption. -/
theorem invariantKeptByStep : Obligations.InvariantKeptByStep := fun _ _ hs h => (step_carries h).1 hs

/-- Settles O12: CS is only loaded with a code segment, or left null by a task switch that aborts, and then the exception's
delivery enters a code segment or shuts the core down. -/
theorem codeSegmentStaysCode : Obligations.CodeSegmentStaysCode := fun _ _ hs h => (step_carries h).2 hs

end Sys2Proof.Machine

end

section

namespace Sys2Proof.Machine

/-! ## The image of EFLAGS (spec/10_state.md R27 to R33) -/

theorem getLsbD_bitAt (b : Bool) {k : Nat} (hk : k < 32) (i : Nat) : (bitAt b k).getLsbD i = (b && decide (i = k)) := by
  unfold bitAt
  cases b with
  | false => simp
  | true =>
    rw [if_pos rfl, BitVec.getLsbD_shiftLeft, BitVec.getLsbD_one, Bool.eq_iff_iff]
    grind

/-- The bit of EFLAGS at a position: a field, or a fixed bit (R27, R28). -/
def Flags.bitOf (f : Flags) : Nat → Bool
  | 0 => f.cf | 1 => true | 2 => f.pf | 4 => f.af | 6 => f.zf | 7 => f.sf | 8 => f.tf | 9 => f.ifl | 10 => f.df | 11 => f.of
  | 12 => f.iopl.getLsbD 0 | 13 => f.iopl.getLsbD 1 | 14 => f.nt | 16 => f.rf | 17 => f.vm | 18 => f.ac | 19 => f.vif
  | 20 => f.vip | 21 => f.id | _ => false

theorem Flags.image_getLsbD (f : Flags) {i : Nat} (hi : i < 32) : f.image.getLsbD i = f.bitOf i := by
  have h : ∀ b k, k < 32 → (bitAt b k).getLsbD i = (b && decide (i = k)) := fun b k hk => getLsbD_bitAt b hk i
  simp only [Flags.image, BitVec.getLsbD_or, h, BitVec.getLsbD_shiftLeft, BitVec.getLsbD_setWidth, hi, Nat.reduceLT, decide_true]
  interval_cases i <;> simp [Flags.bitOf]

/-- A written ZF is materialized (R29, R33). -/
theorem Flags.zf_write (f : Flags) (v m : Word) : (f.write v m).zf = pick v m 6 f.zf := by
  unfold Flags.zf Flags.write pick
  cases m.getLsbD 6 <;> simp

theorem Flags.sf_write (f : Flags) (v m : Word) : (f.write v m).sf = pick v m 7 f.sf := by
  unfold Flags.sf Flags.write pick
  cases m.getLsbD 7 <;> simp

theorem Flags.pf_write (f : Flags) (v m : Word) : (f.write v m).pf = pick v m 2 f.pf := by
  unfold Flags.pf Flags.write pick
  cases m.getLsbD 2 <;> simp

/-- Bit j of IOPL after a write: both bits of the mask select it (R33). -/
theorem Flags.iopl_write (f : Flags) (v m : Word) {j : Nat} (hj : j < 2) :
    (f.write v m).iopl.getLsbD j = if m.getLsbD 12 && m.getLsbD 13 then v.getLsbD (12 + j) else f.iopl.getLsbD j := by
  unfold Flags.write
  dsimp only
  split <;> simp [hj]

/-- Settles O46: bit by bit, each position holds its field, and the write sets that field alone. -/
theorem eflagsWriteThenImage : Obligations.EflagsWriteThenImage := by
  intro f v m i hi
  have h : ∀ i, i < 32 → f.image.getLsbD i = f.bitOf i := fun i => f.image_getLsbD
  refine ⟨?_, h 0 (by decide), h 2 (by decide), h 4 (by decide), h 6 (by decide), h 7 (by decide), h 8 (by decide),
    h 9 (by decide), h 10 (by decide), h 11 (by decide), ?_, h 14 (by decide), h 16 (by decide), h 17 (by decide),
    h 18 (by decide), h 19 (by decide), h 20 (by decide), h 21 (by decide)⟩
  · rw [Flags.image_getLsbD _ hi, h i hi]
    match i, hi with
    | 2, _ => exact f.pf_write v m
    | 6, _ => exact f.zf_write v m
    | 7, _ => exact f.sf_write v m
    | 12, _ => exact f.iopl_write v m (j := 0) (by decide)
    | 13, _ => exact f.iopl_write v m (j := 1) (by decide)
    | 0, _ | 1, _ | 3, _ | 4, _ | 5, _ | 8, _ | 9, _ | 10, _ | 11, _ | 14, _ | 15, _ | 16, _ | 17, _ | 18, _ | 19, _ | 20, _
    | 21, _ | 22, _ | 23, _ | 24, _ | 25, _ | 26, _ | 27, _ | 28, _ | 29, _ | 30, _ | 31, _ => rfl
    | n + 32, h => exact absurd h (by omega)
  · apply BitVec.eq_of_getLsbD_eq
    intro j hj
    rw [BitVec.getLsbD_extractLsb', h _ (by omega)]
    interval_cases j <;> rfl

end Sys2Proof.Machine

end

section

namespace Sys2Proof.Machine

/-! ## The views of a register cell (spec/10_state.md R20 to R23) -/

/-- The low k bits of a word, as a mask. -/
theorem getLsbD_lowMask {k : Nat} (hk : k ≤ 32) (i : Nat) : (BitVec.ofNat 32 (2 ^ k - 1)).getLsbD i = decide (i < k) := by
  rw [BitVec.getLsbD_ofNat, Nat.testBit_two_pow_sub_one, Bool.eq_iff_iff]
  grind

theorem bits_le (sz : Size) : sz.bits ≤ 32 := by cases sz <;> decide

theorem cut_eq_and (sz : Size) (v : Word) : cut sz v = v &&& BitVec.ofNat 32 (2 ^ sz.bits - 1) := by
  cases sz with
  | b | w => rfl
  | d => exact (BitVec.and_allOnes (x := v)).symm

theorem getLsbD_cut (sz : Size) (v : Word) (i : Nat) : (cut sz v).getLsbD i = (decide (i < sz.bits) && v.getLsbD i) := by
  rw [cut_eq_and, BitVec.getLsbD_and, getLsbD_lowMask (bits_le sz), Bool.and_comm]

/-- A cell whose bits under the mask m are those of v. -/
theorem getLsbD_replace (old v m : Word) (i : Nat) :
    ((old &&& ~~~m) ||| (v &&& m)).getLsbD i = if m.getLsbD i then v.getLsbD i else old.getLsbD i := by
  rw [BitVec.getLsbD_or, BitVec.getLsbD_and, BitVec.getLsbD_and, BitVec.getLsbD_not]
  by_cases hi : i < 32
  · cases m.getLsbD i <;> simp [hi]
  · have h (w : Word) : w.getLsbD i = false := BitVec.getLsbD_of_ge w i (by omega)
    simp [h]

theorem getLsbD_merge (sz : Size) (old v : Word) (i : Nat) :
    (merge sz old v).getLsbD i = if i < sz.bits then v.getLsbD i else old.getLsbD i := by
  have h : merge sz old v = (old &&& ~~~BitVec.ofNat 32 (2 ^ sz.bits - 1)) ||| (v &&& BitVec.ofNat 32 (2 ^ sz.bits - 1)) := by
    cases sz with
    | b | w => rfl
    | d => rw [← cut_eq_and]; exact (BitVec.zero_or.symm.trans (congrArg (· ||| v) BitVec.and_zero.symm))
  rw [h, getLsbD_replace, getLsbD_lowMask (bits_le sz)]
  simp

theorem Regs.get_put_same (x : Regs) (sz : Size) (r : Reg) (v : Word) : (x.put sz r v).get r = merge sz (x.get r) v :=
  x.get_set_same r _

theorem Regs.get_put_other (x : Regs) (sz : Size) {r q : Reg} (v : Word) (h : q ≠ r) : (x.put sz r v).get q = x.get q :=
  x.get_set_other r q _ h

theorem Regs.view_put_same (x : Regs) (sz : Size) (r : Reg) (v : Word) : (x.put sz r v).view sz r = cut sz v := by
  apply BitVec.eq_of_getLsbD_eq
  intro i _
  rw [Regs.view, Regs.get_put_same, getLsbD_cut, getLsbD_merge, getLsbD_cut]
  by_cases h : i < sz.bits
  · rw [if_pos h]
  · rw [decide_eq_false h, Bool.false_and, Bool.false_and]

/-- The lowest bit a byte view covers (R23). -/
def reg8Shift (r : Reg8) : Nat := if r ∈ [Reg8.ah, Reg8.ch, Reg8.dh, Reg8.bh] then 8 else 0

theorem reg8Shift_of_high {r : Reg8} (h : reg8High r = true) : reg8Shift r = 8 := by
  revert h
  cases r <;> decide

theorem reg8Shift_of_low {r : Reg8} (h : reg8High r = false) : reg8Shift r = 0 := by
  revert h
  cases r <;> decide

theorem reg8Shift_eq (r : Reg8) : reg8Shift r = 0 ∨ reg8Shift r = 8 := by cases r <;> decide

/-- Two byte views of one cell are its two halves. -/
theorem reg8Shift_ne {q r : Reg8} (h : q ≠ r) (hc : reg8Cell q = reg8Cell r) : reg8Shift q ≠ reg8Shift r := by
  revert h hc
  cases q <;> cases r <;> decide

theorem getLsbD_byteMask (i : Nat) : (0xFF : Word).getLsbD i = decide (i < 8) := getLsbD_lowMask (k := 8) (by decide) i

theorem Regs.getLsbD_get8 (x : Regs) (r : Reg8) (i : Nat) :
    (x.get8 r).getLsbD i = (decide (i < 8) && (x.get (reg8Cell r)).getLsbD (i + reg8Shift r)) := by
  unfold Regs.get8
  split
  next h => rw [BitVec.getLsbD_and, getLsbD_byteMask, Bool.and_comm, BitVec.getLsbD_ushiftRight, reg8Shift_of_high h, Nat.add_comm]
  next h => rw [BitVec.getLsbD_and, getLsbD_byteMask, Bool.and_comm, reg8Shift_of_low (by simpa using h), Nat.add_zero]

/-- A byte write replaces the eight bits its view covers. -/
theorem Regs.getLsbD_set8 (x : Regs) (r : Reg8) (v : Word) {i : Nat} (hi : i < 32) :
    ((x.set8 r v).get (reg8Cell r)).getLsbD i =
      if reg8Shift r ≤ i ∧ i < reg8Shift r + 8 then v.getLsbD (i - reg8Shift r) else (x.get (reg8Cell r)).getLsbD i := by
  rw [Regs.set8, Regs.get_set_same]
  split
  next h =>
    have hv : (v &&& 0xFF) <<< 8 = (v <<< 8) &&& ((0xFF : Word) <<< 8) := BitVec.shiftLeft_and_distrib ..
    have hs : ((0xFF : Word) <<< 8).getLsbD i = decide (8 ≤ i ∧ i < 16) := by
      rw [BitVec.getLsbD_shiftLeft, getLsbD_byteMask, Bool.eq_iff_iff]
      grind
    change ((_ &&& ~~~((0xFF : Word) <<< 8)) ||| ((v &&& 0xFF) <<< 8)).getLsbD i = _
    rw [hv, getLsbD_replace, hs, reg8Shift_of_high h, BitVec.getLsbD_shiftLeft]
    grind
  next h =>
    have hm : (0xFFFFFF00 : Word) = ~~~(0xFF : Word) := rfl
    rw [hm, getLsbD_replace, getLsbD_byteMask, reg8Shift_of_low (by simpa using h)]
    grind

theorem Regs.get_set8_other (x : Regs) {p : Reg} {r : Reg8} (v : Word) (h : p ≠ reg8Cell r) : (x.set8 r v).get p = x.get p :=
  x.get_set_other _ p _ h

theorem Regs.get8_set8_same (x : Regs) (r : Reg8) (v : Word) : (x.set8 r v).get8 r = v &&& 0xFF := by
  apply BitVec.eq_of_getLsbD_eq
  intro i _
  rw [Regs.getLsbD_get8, BitVec.getLsbD_and, getLsbD_byteMask, Bool.and_comm]
  by_cases h : i < 8
  · have hs := reg8Shift_eq r
    rw [Regs.getLsbD_set8 _ _ _ (by omega), if_pos (by omega), Nat.add_sub_cancel]
  · rw [decide_eq_false h, Bool.and_false, Bool.and_false]

theorem Regs.get8_set8_other (x : Regs) {r q : Reg8} (v : Word) (h : q ≠ r) : (x.set8 r v).get8 q = x.get8 q := by
  apply BitVec.eq_of_getLsbD_eq
  intro i _
  rw [Regs.getLsbD_get8, Regs.getLsbD_get8]
  by_cases hc : reg8Cell q = reg8Cell r
  · by_cases hi : i < 8
    · have hne := reg8Shift_ne h hc
      have hq := reg8Shift_eq q
      have hr := reg8Shift_eq r
      rw [hc, Regs.getLsbD_set8 _ _ _ (by omega), if_neg (by omega)]
    · rw [decide_eq_false hi, Bool.false_and, Bool.false_and]
  · rw [Regs.get_set8_other _ _ hc]

/-- Settles O47: each view is a window of its cell, and a write replaces the bits of that window alone. -/
theorem registerViews : Obligations.RegisterViews := by
  refine ⟨fun x sz r q v => ⟨fun i => getLsbD_cut sz _ i, ?_, fun i hi => ?_, x.get_put_other sz v⟩,
    fun x r q v => ⟨fun i => ?_, by cases r <;> rfl, x.get8_set8_same r v, x.get8_set8_other v, fun i hi => ?_,
      fun p => x.get_set8_other v⟩⟩
  · rw [Regs.view_put_same, cut_eq_and]
  · rw [Regs.get_put_same, getLsbD_merge, if_neg (by omega)]
  · rw [Regs.getLsbD_get8, reg8Shift]
    split <;> rfl
  · by_cases h : i < 32
    · rw [Regs.getLsbD_set8 _ _ _ h, if_neg]
      unfold reg8Shift
      split <;> simp_all
    · rw [BitVec.getLsbD_of_ge _ i (by omega), BitVec.getLsbD_of_ge _ i (by omega)]

end Sys2Proof.Machine

end

section

namespace Sys2Proof

/-! ## Running a decoding on a list of bytes -/

theorem Dec.run_bind {α β : Type} (d : Dec α) {f : α → Dec β} {bs rest : List Byte} {b : β}
    (h : (d.bind f).run bs = .ok b rest) : ∃ a mid, d.run bs = .ok a mid ∧ (f a).run mid = .ok b rest := by
  induction d generalizing bs with
  | done a => exact ⟨a, bs, rfl, h⟩
  | ask k ih =>
    cases bs with
    | nil => cases h
    | cons c bs => exact ih c h
  | invalid => cases h
  | refuse r => cases h

/-- A list of at most fifteen bytes is decoded whole (spec/30_encoding.md R144). -/
theorem decodeFrom_run_of_decode {c : DecodeCtx} {bs : List Byte} {i : Instr} (hn : bs.length ≤ 15)
    (h : decode c bs = .ok i []) : (decodeFrom 16 c).run bs = .ok i [] := by
  rw [decode, List.take_of_length_le hn, List.drop_of_length_le hn] at h
  cases e : (decodeFrom 16 c).run bs with
  | ok j rest =>
    rw [e] at h
    simpa using h
  | truncated =>
    rw [e] at h
    dsimp only at h
    split at h <;> cases h
  | tooLong | invalid | refused =>
    rw [e] at h
    cases h

/-- The latches with the count of bytes given. -/
def Latch.sized (l : Latch) (n : Nat) : Latch := { l with len := n }

/-- The count of bytes plays no part in what a row latches. -/
theorem Latch.after_sized {l l' : Latch} {i : Instr} (h : l.after i = some l') (n : Nat) :
    (l.sized n).after i = some (l'.sized n) := by
  cases i <;> cases h <;> rfl

end Sys2Proof

namespace Sys2Proof.Machine

/-! ## Memory accesses do not see the latches -/

/-- An operation that does not see what the prefixes have latched. -/
def Blind {α : Type} (m : M α) : Prop := ∀ s a t, m s = .ok a t → ∀ l, m (s.withLatch l) = .ok a (t.withLatch l)

theorem M.bind_eq_ok {α β : Type} {m : M α} {f : α → M β} {s t : State} {b : β} (h : (m >>= f) s = .ok b t) :
    ∃ a u, m s = .ok a u ∧ f a u = .ok b t := by
  cases e : m s with
  | ok a u => exact ⟨a, u, rfl, (M.bind_ok e).symm.trans h⟩
  | error x u =>
    rw [M.bind_error e] at h
    cases h

theorem Blind.pure {α : Type} (a : α) : Blind (pure a : M α) := by
  rintro s _ _ ⟨⟩ l
  rfl

theorem Blind.bind {α β : Type} {m : M α} {f : α → M β} (hm : Blind m) (hf : ∀ a, Blind (f a)) : Blind (m >>= f) := by
  intro s b t h l
  obtain ⟨a, u, h1, h2⟩ := M.bind_eq_ok h
  rw [M.bind_ok (hm s a u h1 l)]
  exact hf a u b t h2 l

/-- What is read of the state is not its latches. -/
theorem Blind.read {β : Type} {f : State → M β} (hf : ∀ s, Blind (f s)) (hl : ∀ s l, f (s.withLatch l) = f s) :
    Blind (getS >>= f) := by
  intro s b t h l
  rw [getS_bind] at h ⊢
  rw [hl]
  exact hf s s b t h l

theorem Blind.ite {α : Type} {c : Prop} [Decidable c] {m n : M α} (hm : Blind m) (hn : Blind n) : Blind (if c then m else n) := by
  split <;> assumption

theorem Blind.raiseIf (c : Prop) [Decidable c] (e : Exc) : Blind (raiseIf c e) :=
  .ite (by rintro s _ _ ⟨⟩) (.pure ())

theorem Blind.whenM (c : Prop) [Decidable c] {m : M Unit} (hm : Blind m) : Blind (whenM c m) := .ite hm (.pure ())

theorem State.dispatchRead_withLatch (s : State) (l : Latch) (p : Word) (n : Nat) :
    (s.withLatch l).dispatchRead p n = ((s.dispatchRead p n).1, (s.dispatchRead p n).2.withLatch l) := by
  have hp : (s.withLatch l).provider = s.provider := rfl
  have hm : (s.withLatch l).maskA20 p = s.maskA20 p := rfl
  simp only [State.dispatchRead, hp, hm]
  split <;> rfl

theorem State.physReadEach_withLatch (s : State) (l : Latch) (a n : Nat) :
    (s.withLatch l).physReadEach a n = ((s.physReadEach a n).1, (s.physReadEach a n).2.withLatch l) := by
  induction n generalizing s a with
  | zero => rfl
  | succ n ih =>
    rw [State.physReadEach, State.physReadEach]
    split
    · simp only [State.dispatchRead_withLatch, ih]
    · simp only [ih]

theorem State.physRead_withLatch (s : State) (l : Latch) (p : Word) (n : Nat) :
    (s.withLatch l).physRead p n = ((s.physRead p n).1, (s.physRead p n).2.withLatch l) := by
  have hs : (s.withLatch l).splits ((s.withLatch l).maskA20 p).toNat n = s.splits (s.maskA20 p).toNat n := rfl
  rw [State.physRead, State.physRead, hs]
  split
  · exact s.physReadEach_withLatch l _ n
  · exact s.dispatchRead_withLatch l p n

theorem State.dispatchWrite_withLatch (s : State) (l : Latch) (p : Word) (n : Nat) (v : Quad) :
    (s.withLatch l).dispatchWrite p n v = (s.dispatchWrite p n v).withLatch l := by
  have hp : (s.withLatch l).provider = s.provider := rfl
  have hm : (s.withLatch l).maskA20 p = s.maskA20 p := rfl
  simp only [State.dispatchWrite, hp, hm]
  split
  · rfl
  · by_cases h : (s.maskA20 p).toNat < s.params.ramSize
    · rw [if_pos h, if_pos (show _ < (s.withLatch l).params.ramSize from h)]
      rfl
    · rw [if_neg h, if_neg (show ¬_ < (s.withLatch l).params.ramSize from h)]

theorem State.physWriteEach_withLatch (s : State) (l : Latch) (a n : Nat) (v : Quad) :
    (s.withLatch l).physWriteEach a n v = (s.physWriteEach a n v).withLatch l := by
  induction n generalizing s a v with
  | zero => rfl
  | succ n ih =>
    rw [State.physWriteEach, State.physWriteEach]
    split
    · rw [State.dispatchWrite_withLatch, ih]
    · exact ih ..

theorem State.physWrite_withLatch (s : State) (l : Latch) (p : Word) (n : Nat) (v : Quad) :
    (s.withLatch l).physWrite p n v = (s.physWrite p n v).withLatch l := by
  have hs : (s.withLatch l).splits ((s.withLatch l).maskA20 p).toNat n = s.splits (s.maskA20 p).toNat n := rfl
  rw [State.physWrite, State.physWrite, hs]
  split
  · exact s.physWriteEach_withLatch l _ n v
  · exact s.dispatchWrite_withLatch l p n v

theorem blind_physRead (p : Word) (n : Nat) : Blind (physRead p n) := by
  rintro s _ _ ⟨⟩ l
  rw [physRead, State.physRead_withLatch]

theorem blind_physWrite (p : Word) (n : Nat) (v : Quad) : Blind (physWrite p n v) := by
  rintro s _ _ ⟨⟩ l
  rw [physWrite, modS_apply, State.physWrite_withLatch]

theorem blind_pageFault {α : Type} (l : Word) (a : Acc) (b : Bool) : Blind (pageFault l a b : M α) := by
  rintro s _ _ ⟨⟩

theorem blind_walk (l : Word) (a : Acc) : Blind (walk l a) :=
  .read (fun _ => .bind (blind_physRead _ _) fun _ => .ite (blind_pageFault _ _ _) <|
    .bind (blind_physRead _ _) fun _ => .ite (blind_pageFault _ _ _) <| .ite (blind_pageFault _ _ _) <|
      .bind (.whenM _ (blind_physWrite _ _ _)) fun _ => .bind (.whenM _ (blind_physWrite _ _ _)) fun _ => .pure _)
    fun _ _ => rfl

theorem blind_translate (l : Word) (a : Acc) : Blind (translate l a) :=
  .read (fun _ => .ite (blind_walk l a) (.pure l)) fun _ _ => rfl

theorem blind_linReadBytes (l : Word) (a : Acc) (n : Nat) : Blind (linReadBytes l a n) := by
  induction n generalizing l with
  | zero => exact .pure 0
  | succ n ih =>
    exact .bind (blind_translate l a) fun _ => .bind (blind_physRead _ _) fun _ => .bind (ih _) fun _ => .pure _

theorem blind_linRead (l : Word) (n : Nat) (a : Acc) : Blind (linRead l n a) :=
  .read (fun _ => .ite (blind_linReadBytes l a n) (.bind (blind_translate l a) fun _ => blind_physRead _ _)) fun _ _ => rfl

/-! ## Fetching bytes (spec/20_memory.md R90) -/

/-- The byte at CS:EIP, as a fetch reads it; EIP and the count of bytes stay. -/
def byteAtEip : M Byte := do
  let s ← getS
  segCheck s.cs.cache true s.eip.toNat 1 .fetch
  let b ← linRead (segLinear s.cs.cache s.eip.toNat) 1 (accAt .fetch s.cpl)
  pure (b.setWidth 8)

theorem blind_byteAtEip : Blind byteAtEip :=
  .read (fun _ => .bind (.read (fun _ => .raiseIf (_ = false) _) fun _ _ => rfl) fun _ => .bind (blind_linRead _ _ _) fun _ => .pure _)
    fun _ _ => rfl

theorem quiet_byteAtEip : Quiet byteAtEip :=
  .bind .getS fun _ => .bind (quiet_segCheck _ _ _ _ _) fun _ => .bind (quiet_linRead _ _ _) fun _ => .pure _

/-- A fetch reads the byte at CS:EIP, when fewer than fifteen have been fetched, and advances (R90). -/
theorem fetchByte_eq_ok {s t : State} {b : Byte} :
    fetchByte s = .ok b t ↔ s.latch.len < 15 ∧ ∃ u, byteAtEip s = .ok b u ∧ t = u.advance := by
  rw [fetchByte, byteAtEip, getS_bind, getS_bind, raiseIf_bind]
  split
  next h => simp [Nat.not_lt.mpr h]
  next h =>
    simp only [Nat.not_le.mp h, true_and]
    constructor
    · intro h
      obtain ⟨_, u, h1, h⟩ := M.bind_eq_ok h
      obtain ⟨q, v, h2, h⟩ := M.bind_eq_ok h
      cases h
      exact ⟨v, by rw [M.bind_ok h1, M.bind_ok h2]; rfl, rfl⟩
    · rintro ⟨w, h, rfl⟩
      obtain ⟨_, u, h1, h⟩ := M.bind_eq_ok h
      obtain ⟨q, v, h2, h⟩ := M.bind_eq_ok h
      cases h
      rw [M.bind_ok h1, M.bind_ok h2]
      rfl

/-- t is s with n bytes more fetched: EIP and the count have advanced, and memory and the devices may have seen it. -/
def State.Ahead (s : State) (n : Nat) (t : State) : Prop :=
  t = { s with mem := t.mem, events := t.events, eip := s.eip + BitVec.ofNat 32 n, latch := s.latch.sized (s.latch.len + n) }

theorem State.Ahead.refl (s : State) : s.Ahead 0 s := by
  unfold State.Ahead
  simp [Latch.sized]

theorem State.Ahead.trans {s t u : State} {m n : Nat} (h : s.Ahead m t) (k : t.Ahead n u) : s.Ahead (m + n) u := by
  unfold State.Ahead at *
  rw [k, h]
  simp [Latch.sized, Nat.add_assoc, BitVec.add_assoc, BitVec.ofNat_add]

theorem ahead_fetchByte {s t : State} {b : Byte} (h : fetchByte s = .ok b t) : s.Ahead 1 t := by
  obtain ⟨-, u, hu, rfl⟩ := fetchByte_eq_ok.mp h
  have hq : u = { s with mem := u.mem, events := u.events } := quiet_byteAtEip s b u hu
  rw [hq]
  rfl

/-- The bytes bs stand at CS:EIP in s, and fetching them leads to t. -/
def State.Fetches (s : State) (bs : List Byte) (t : State) : Prop := fetchBytes bs.length s = .ok bs t

theorem State.fetches_nil {s t : State} : s.Fetches [] t ↔ t = s := by
  constructor
  · rintro ⟨⟩
    rfl
  · rintro rfl
    rfl

theorem State.fetches_cons {s t : State} {b : Byte} {bs : List Byte} :
    s.Fetches (b :: bs) t ↔ ∃ u, fetchByte s = .ok b u ∧ u.Fetches bs t := by
  unfold State.Fetches
  rw [List.length_cons, fetchBytes]
  constructor
  · intro h
    obtain ⟨c, u, h1, h⟩ := M.bind_eq_ok h
    obtain ⟨cs, v, h2, h⟩ := M.bind_eq_ok h
    cases h
    exact ⟨u, h1, h2⟩
  · rintro ⟨u, h1, h2⟩
    rw [M.bind_ok h1, M.bind_ok h2]
    rfl

theorem fetchBytes_length {n : Nat} {s t : State} {bs : List Byte} (h : fetchBytes n s = .ok bs t) : bs.length = n := by
  induction n generalizing s bs t with
  | zero =>
    cases h
    rfl
  | succ n ih =>
    obtain ⟨b, u, -, h⟩ := M.bind_eq_ok h
    obtain ⟨cs, v, h2, h⟩ := M.bind_eq_ok h
    cases h
    rw [List.length_cons, ih h2]

theorem State.Fetches.ahead {s t : State} {bs : List Byte} (h : s.Fetches bs t) : s.Ahead bs.length t := by
  induction bs generalizing s with
  | nil =>
    obtain rfl := State.fetches_nil.mp h
    exact .refl t
  | cons b bs ih =>
    obtain ⟨u, h1, h2⟩ := State.fetches_cons.mp h
    rw [List.length_cons, Nat.add_comm]
    exact (ahead_fetchByte h1).trans (ih h2)

/-- No sixteenth byte is fetched (spec/30_encoding.md R144). -/
theorem State.Fetches.len_le {s t : State} {bs : List Byte} (h : s.Fetches bs t) (hs : s.latch.len ≤ 15) : t.latch.len ≤ 15 := by
  induction bs generalizing s with
  | nil =>
    obtain rfl := State.fetches_nil.mp h
    exact hs
  | cons b bs ih =>
    obtain ⟨u, h1, h2⟩ := State.fetches_cons.mp h
    refine ih h2 ?_
    have hu : u.latch.len = s.latch.len + 1 := by rw [ahead_fetchByte h1]; rfl
    have := (fetchByte_eq_ok.mp h1).1
    omega

/-- Fetching sees of the latches only the count of bytes. -/
theorem State.Fetches.withLatch {s t : State} {bs : List Byte} (h : s.Fetches bs t) {l : Latch} (hl : l.len = s.latch.len) :
    (s.withLatch l).Fetches bs (t.withLatch (l.sized t.latch.len)) := by
  induction bs generalizing s l with
  | nil =>
    obtain rfl := State.fetches_nil.mp h
    rw [State.fetches_nil, ← hl]
    rfl
  | cons b bs ih =>
    obtain ⟨u, h1, h2⟩ := State.fetches_cons.mp h
    obtain ⟨hlen, v, hv, rfl⟩ := fetchByte_eq_ok.mp h1
    have hq : v.latch = s.latch := by rw [quiet_byteAtEip s b v hv]
    have hn : l.len + 1 = v.advance.latch.len := by rw [hl, ← hq]; rfl
    refine State.fetches_cons.mpr ⟨_, fetchByte_eq_ok.mpr ⟨hl ▸ hlen, _, blind_byteAtEip s b v hv l, rfl⟩, ?_⟩
    exact ih (l := l.sized (l.len + 1)) h2 hn

/-! ## Decoding what is fetched -/

/-- A decoding takes its bytes from CS:EIP as it would from a list. -/
theorem runDec_of_run {d : Dec Instr} {s t : State} {bs rest : List Byte} {i : Instr} (h : d.run bs = .ok i rest)
    (hf : s.Fetches bs t) : ∃ n u, runDec d s = .ok i u ∧ s.Ahead n u ∧ u.Fetches rest t := by
  induction d generalizing s bs with
  | done j =>
    cases h
    exact ⟨0, s, rfl, .refl s, hf⟩
  | ask k ih =>
    cases bs with
    | nil => cases h
    | cons b bs =>
      obtain ⟨v, h1, h2⟩ := State.fetches_cons.mp hf
      obtain ⟨n, u, hr, ha, hu⟩ := ih b h h2
      exact ⟨1 + n, u, (M.bind_ok h1).trans hr, (ahead_fetchByte h1).trans ha, hu⟩
  | invalid => cases h
  | refuse r => cases h

/-- Prefix rows latch as they are fetched what the decoder of a list of bytes gathers (spec/30_encoding.md R141, R159). -/
theorem fetchInstr_of_run {n : Nat} {s t : State} {bs : List Byte} {i : Instr}
    (h : (decodeFrom n s.decodeCtx).run bs = .ok i []) (hf : s.Fetches bs t) : ∃ l, fetchInstr n s = .ok i (t.withLatch l) := by
  induction n generalizing s bs t with
  | zero => cases bs <;> cases h
  | succ n ih =>
    obtain ⟨j, rest, hj, h⟩ := Dec.run_bind _ h
    obtain ⟨k, u, hr, ha, hu⟩ := runDec_of_run hj hf
    rw [fetchInstr, getS_bind, M.bind_ok hr, Latch.after_isSome _ s.decodeCtx.latch]
    cases e : s.decodeCtx.latch.after j with
    | none =>
      rw [e] at h
      cases h
      obtain rfl := State.fetches_nil.mp hu
      exact ⟨t.latch, rfl⟩
    | some l =>
      rw [e] at h
      have hul : u.latch = s.decodeCtx.latch.sized u.latch.len := by rw [ha]; rfl
      have hl : u.latch.after j = some (l.sized u.latch.len) := by
        rw [hul]
        exact Latch.after_sized e _
      have hl0 : l.sized 0 = l := (Option.some.inj (e.symm.trans (Latch.after_sized e 0))).symm
      have hc : (u.withLatch (l.sized u.latch.len)).decodeCtx = ⟨s.decodeCtx.db, s.decodeCtx.pe, l⟩ := by
        rw [ha, ← hl0]
        rfl
      dsimp only at h
      rw [← hc] at h
      obtain ⟨l', hl'⟩ := ih h (hu.withLatch rfl)
      exact ⟨l', (M.bind_ok (runPrefix_apply hl)).trans hl'⟩

/-- Settles O8: the fetch stage decodes what a list of the fetched bytes decodes to, and the latches it leaves are dropped. -/
theorem stepRunsDecodedInstruction : Obligations.StepRunsDecodedInstruction := by
  intro s s1 n bs i hr hd hh hf hi
  obtain rfl := fetchBytes_length hf
  replace hf : s.started.begin.Fetches bs s1 := hf
  have ha := hf.ahead
  have hlen : bs.length ≤ 15 := by
    have h := hf.len_le (Nat.zero_le 15)
    rw [ha] at h
    exact (Nat.zero_add _).ge.trans h
  obtain ⟨l, hl⟩ := fetchInstr_of_run (decodeFrom_run_of_decode hlen hi) hf
  have hrun : runInstr s.started = exec i (s1.withLatch Latch.empty) := by
    rw [runInstr, show fetchBound = 16 from rfl, hl]
    rfl
  have hstep : step s = andThen (runInstr s.started) finish :=
    (if_neg hr).trans ((if_neg (Bool.eq_false_iff.mp hd)).trans (if_neg (Bool.eq_false_iff.mp hh)))
  exact ⟨hrun ▸ hstep, by rw [ha]; rfl, by rw [ha]; rfl, by rw [ha]; rfl⟩

end Sys2Proof.Machine

end

section

namespace Sys2Proof.Machine

/-! ## Tests made in order -/

/-- Tests made in order, as an operation. -/
def runTests (ts : List (Bool × Exc)) : M Unit := checked ts ()

/-- A test, then the tests after it, then the rest of the operation. -/
theorem raiseIf_tests {α : Type} {c : Prop} [Decidable c] {b : Bool} {e : Exc} {f k : Unit → M α} {ts : List (Bool × Exc)}
    {s : State} (hb : decide c = b) (h : ¬c → f () s = (runTests ts >>= k) s) :
    (raiseIf c e >>= f) s = (runTests ((b, e) :: ts) >>= k) s := by
  subst hb
  rw [raiseIf_bind]
  by_cases hc : c
  · rw [if_pos hc, M.bind_error (m := runTests _) (e := .exc e) (s' := s) (by simp [runTests, checked, hc])]
  · rw [if_neg hc, h hc, M.bind_apply, M.bind_apply]
    simp [runTests, checked, hc]

/-- Two tests that raise the same exception are one test. -/
theorem checked_or {α : Type} (a b : Bool) (e : Exc) (ts : List (Bool × Exc)) (x : α) :
    checked ((a || b, e) :: ts) x = checked ((a, e) :: (b, e) :: ts) x := by
  cases a <;> rfl

theorem runTests_or (a b : Bool) (e : Exc) (ts : List (Bool × Exc)) :
    runTests ((a || b, e) :: ts) = runTests ((a, e) :: (b, e) :: ts) := checked_or a b e ts ()

theorem checked_eq_bind {α : Type} (ts : List (Bool × Exc)) (a : α) (s : State) :
    checked ts a s = (runTests ts >>= fun _ => pure a) s := by
  induction ts with
  | nil => rfl
  | cons t ts ih =>
    rw [M.bind_apply] at ih ⊢
    unfold runTests checked
    split
    · rfl
    · exact ih

/-! ## Accesses that raise, and what taking an exception keeps -/

theorem raises_linWriteBytes (l : Word) (a : Acc) (n : Nat) (v : Quad) : Raises Abort.Own (linWriteBytes l a n v) := by
  induction n generalizing l v with
  | zero => exact .pure ()
  | succ n ih => exact .bind (raises_translate l a) fun _ => .bind (raises_physWrite _ _ _) fun _ => ih _ _

theorem raises_translateBytes (l : Word) (a : Acc) (n : Nat) : Raises Abort.Own (translateBytes l a n) := by
  induction n generalizing l with
  | zero => exact .pure []
  | succ n ih => exact .bind (raises_translate l a) fun _ => .bind (ih _) fun _ => .pure _

theorem raises_linWrite (l : Word) (n : Nat) (v : Quad) (a : Acc) : Raises Abort.Own (linWrite l n v a) := by
  refine .bind .getS fun s => .ite ?_ (.bind (raises_translate l a) fun _ => raises_physWrite _ _ _)
  cases s.params.straddle with
  | bytewise => exact raises_linWriteBytes l a n v
  | allOrNothing => exact .bind (raises_translateBytes l a n) fun _ => .modS _

/-- What the write of an accessed bit raises is an exception of the task that runs. -/
theorem State.MarkRaises.newTask {s t : State} {sel : Half} {d : Quad} {e : Exc} (h : s.MarkRaises sel d e t) :
    e.newTask = false :=
  raises_linWrite _ _ _ _ _ _ _ h.2.2 e rfl

/-- A handler entered from the rolled-back state does not see a segment register put back (R103, R410). -/
theorem takeException_setSeg {e : Exc} (he : e.newTask = false) (s0 s1 : State) (g : SReg) (v : SegReg) :
    takeException e s0 (s1.setSeg g v) = takeException e s0 s1 := by
  unfold takeException handlerBase State.keepStores
  simp only [he, Bool.false_eq_true, if_false, State.setSeg_mem, State.setSeg_cr2, State.setSeg_events, State.setSeg_draws,
    State.setSeg_deliveringClass]

/-! ## Loads of a segment register (spec/20_memory.md R99 to R103, R106) -/

/-- The general registers, the boundary exemption and the count of completed instructions are the same. -/
def State.sameProgress (s t : State) : Prop := t.regs = s.regs ∧ t.inhibitNext = s.inhibitNext ∧ t.cycles = s.cycles

theorem State.sameProgress.chain : Chain State.sameProgress where
  refl _ := ⟨rfl, rfl, rfl⟩
  trans _ _ _ h k := ⟨k.1.trans h.1, k.2.1.trans h.2.1, k.2.2.trans h.2.2⟩

theorem MemStep.sameProgress {s t : State} (h : MemStep s t) : s.sameProgress t := by
  rw [h.same]
  exact ⟨rfl, rfl, rfl⟩

theorem State.sameProgress_setSeg (s : State) (g : SReg) (v : SegReg) : s.sameProgress (s.setSeg g v) :=
  ⟨s.setSeg_regs g v, s.setSeg_inhibitNext g v, s.setSeg_cycles g v⟩

theorem Keeps.keepSegOnRaise {m : M Unit} (g : SReg) (h : Keeps State.sameProgress m) :
    Keeps State.sameProgress (keepSegOnRaise g m) := by
  intro s
  unfold Machine.keepSegOnRaise
  cases e : m s with
  | ok u t => exact h.ok e
  | error x t => exact State.sameProgress.chain.trans _ _ _ (h.error e) (t.sameProgress_setSeg g _)

theorem keepsProgress_writeSeg (g : SReg) (v : SegReg) : Keeps State.sameProgress (writeSeg g v) :=
  .modS fun s => s.sameProgress_setSeg g v

theorem keepsProgress_snapshot (g : SReg) (sel : Half) (d : Quad) : Keeps State.sameProgress (snapshot g sel d) :=
  .keepSegOnRaise g (.bind State.sameProgress.chain (keepsProgress_writeSeg _ _) fun _ =>
    (keeps_markAccessed sel d).mono fun _ _ => MemStep.sameProgress)

theorem keepsProgress_descRead (sel : Half) (e : Byte) : Keeps State.sameProgress (descRead sel e) :=
  (keeps_descRead sel e).mono fun _ _ => MemStep.sameProgress

theorem keepsProgress_loadData (e : Byte) (g : SReg) (sel : Half) : Keeps State.sameProgress (loadData e g sel) :=
  .ite (keepsProgress_writeSeg _ _) <| .bind State.sameProgress.chain (keepsProgress_descRead _ _) fun _ =>
    .bind State.sameProgress.chain (.getS State.sameProgress.chain) fun _ =>
      .bind State.sameProgress.chain (.raiseIf State.sameProgress.chain _ _) fun _ =>
        .bind State.sameProgress.chain (.raiseIf State.sameProgress.chain _ _) fun _ => keepsProgress_snapshot _ _ _

theorem keepsProgress_loadStack (sel : Half) : Keeps State.sameProgress (loadStack sel) :=
  .bind State.sameProgress.chain (.raiseIf State.sameProgress.chain _ _) fun _ =>
    .bind State.sameProgress.chain (keepsProgress_descRead _ _) fun _ =>
      .bind State.sameProgress.chain (.getS State.sameProgress.chain) fun _ =>
        .bind State.sameProgress.chain (.raiseIf State.sameProgress.chain _ _) fun _ =>
          .bind State.sameProgress.chain (.raiseIf State.sameProgress.chain _ _) fun _ => keepsProgress_snapshot _ _ _

/-- A load of a segment register leaves the general registers, the boundary exemption and the count of instructions. -/
theorem keepsProgress_loadSeg (g : SReg) (sel : Half) : Keeps State.sameProgress (loadSeg g sel) := by
  refine .bind State.sameProgress.chain (.getS State.sameProgress.chain) fun s => .ite ?_ (keepsProgress_writeSeg _ _)
  cases g with
  | ss => exact keepsProgress_loadStack sel
  | es | cs | ds | fs | gs => exact keepsProgress_loadData _ _ _

theorem loadSeg_real {s : State} (hp : s.pe = false) (g : SReg) (sel : Half) :
    loadSeg g sel s = .ok () (s.setSeg g (SegReg.realOf g sel)) := by
  unfold loadSeg
  rw [getS_bind, if_neg (by simp [hp])]
  rfl

theorem loadSeg_ss {s : State} (hp : s.pe = true) (sel : Half) : loadSeg .ss sel s = loadStack sel s := by
  rw [loadSeg, getS_bind, if_pos hp]

theorem loadSeg_data {s : State} (hp : s.pe = true) {g : SReg} (hg : g ≠ .ss) (sel : Half) :
    loadSeg g sel s = loadData 13 g sel s := by
  unfold loadSeg
  rw [getS_bind, if_pos hp]
  cases g with
  | ss => exact absurd rfl hg
  | es | cs | ds | fs | gs => rfl

theorem loadSeg_ss_null {s : State} {sel : Half} (hp : s.pe = true) (hi : selIndex sel = 0) :
    loadSeg .ss sel s = .error (.exc (Exc.gp 0)) s := by
  rw [loadSeg_ss hp, loadStack, raiseIf_bind, if_pos hi]

theorem loadData_null {e : Byte} {g : SReg} {sel : Half} {s : State} (hi : selIndex sel = 0) :
    loadData e g sel s = .ok () (s.setSeg g (SegReg.nullOf sel false)) := by
  rw [loadData, if_pos hi]
  rfl

theorem loadSeg_data_null {s : State} {g : SReg} {sel : Half} (hp : s.pe = true) (hg : g ≠ .ss) (hi : selIndex sel = 0) :
    loadSeg g sel s = .ok () (s.setSeg g (SegReg.nullOf sel false)) :=
  (loadSeg_data hp hg sel).trans (loadData_null hi)

theorem loadData_descRaises {v : Byte} {g : SReg} {sel : Half} {x : Abort} {s s1 : State} (hi : selIndex sel ≠ 0)
    (hd : descRead sel v s = .error x s1) : loadData v g sel s = .error x s1 := by
  rw [loadData, if_neg hi, M.bind_error hd]

theorem loadSeg_descRaises {g : SReg} {sel : Half} {x : Abort} {s s1 : State} (hp : s.pe = true) (hi : selIndex sel ≠ 0)
    (hd : descRead sel 13 s = .error x s1) : loadSeg g sel s = .error x s1 := by
  by_cases hg : g = .ss
  · subst hg
    rw [loadSeg_ss hp, loadStack, raiseIf_bind, if_neg hi, show vGP = 13 from rfl, M.bind_error hd]
  · rw [loadSeg_data hp hg, loadData_descRaises hi hd]

/-- A descriptor read leaves the privilege as it was. -/
theorem cpl_descRead {sel : Half} {e : Byte} {d : Quad} {s t : State} (h : descRead sel e s = .ok d t) : t.cpl = s.cpl := by
  rw [quiet_descRead _ _ _ _ _ h]
  rfl

theorem decide_notWritableData (d : Quad) : decide (isWritableData d = false) = (!descS d || descCode d || !descWritable d) := by
  cases hs : descS d <;> cases hc : descCode d <;> cases hw : descWritable d <;> simp [isWritableData, hs, hc, hw]

/-- The tests of DS, ES, FS and GS, then the Snapshot (R100, and spec/60_exceptions.md R443 with #TS). -/
theorem loadData_tests {v : Byte} {g : SReg} {sel : Half} {d : Quad} {s s1 : State} (hi : selIndex sel ≠ 0)
    (hd : descRead sel v s = .ok d s1) :
    loadData v g sel s =
      (runTests
        [(!descS d, Exc.coded v (selCode sel)), (descCode d && !descReadable d, Exc.coded v (selCode sel)),
         ((!descCode d || !descConforming d) && decide ((descDPL d).toNat < max s.cpl.toNat (selRPL sel).toNat),
          Exc.coded v (selCode sel)),
         (!descP d, Exc.np (selCode sel))] >>= fun _ => snapshot g sel d) s1 := by
  rw [loadData, if_neg hi, M.bind_ok hd, getS_bind, cpl_descRead hd, ← runTests_or, ← runTests_or]
  exact raiseIf_tests (by simp [notLoadable, tooPrivileged]) fun _ => raiseIf_tests (by simp) fun _ => rfl

/-- The tests a load makes of its descriptor, then the Snapshot (R100, R101). -/
theorem loadSeg_tests {g : SReg} {sel : Half} {d : Quad} {s s1 : State} (hp : s.pe = true) (hi : selIndex sel ≠ 0)
    (hd : descRead sel 13 s = .ok d s1) :
    loadSeg g sel s = (runTests (segTests g sel s.cpl d) >>= fun _ => snapshot g sel d) s1 := by
  by_cases hg : g = .ss
  · subst hg
    rw [loadSeg_ss hp, loadStack, raiseIf_bind, if_neg hi, show vGP = 13 from rfl, M.bind_ok hd, getS_bind, cpl_descRead hd,
      segTests, if_pos rfl, ← runTests_or, ← runTests_or]
    exact raiseIf_tests (by
      rw [Bool.decide_or, Bool.decide_or, decide_notWritableData]
      simp [Bool.or_assoc]) fun _ => raiseIf_tests (by simp) fun _ => rfl
  · rw [loadSeg_data hp hg, segTests, if_neg hg]
    exact loadData_tests hi hd

theorem shadowSs_apply (g : SReg) (s : State) :
    shadowSs g s = .ok () { s with inhibitNext := s.inhibitNext || decide (g = .ss) } := by
  rw [shadowSs, whenM_apply]
  by_cases hg : g = .ss
  · simp [hg]
  · simp [hg]

end Sys2Proof.Machine

end

section

namespace Sys2Proof.Machine

/-! ## Moves and pops of a segment register -/

theorem loadSelector_apply {g : SReg} {l : Loc} {v : Word} {s s1 s2 : State} (hr : readLoc .w l s = .ok v s1)
    (hl : loadSeg g (v.setWidth 16) s1 = .ok () s2) :
    loadSelector g l s = .ok () { s2 with inhibitNext := s2.inhibitNext || decide (g = .ss) } := by
  rw [loadSelector, M.bind_ok hr, M.bind_ok hl, shadowSs_apply]

theorem exec_movSreg_next {g : SReg} {m : Rm} {v : Word} {s s1 s2 : State} (hr : readLoc .w (rmv m s) s = .ok v s1)
    (hl : loadSeg g (v.setWidth 16) s1 = .ok () s2) :
    exec (.movSregRm16 g m) s =
      .next { s2 with inhibitNext := s.inhibitNext || decide (g = .ss), cycles := s.cycles + 1 } := by
  obtain ⟨-, hn, hc⟩ := (keepsProgress_loadSeg g _).ok hl
  rw [quiet_readLoc _ _ _ _ _ hr] at hn hc
  refine (run_next (loadSelector_apply hr hl)).trans ?_
  rw [State.count, hn, hc]

theorem exec_movSreg_takes {g : SReg} {m : Rm} {v : Word} {e : Exc} {s s1 s2 : State}
    (hr : readLoc .w (rmv m s) s = .ok v s1) (hl : loadSeg g (v.setWidth 16) s1 = .error (.exc e) s2) :
    exec (.movSregRm16 g m) s = takeException e s s2 :=
  run_takes (body := loadSelector g (rmv m s)) ((M.bind_ok hr).trans (M.bind_error hl))

theorem popSeg_apply {o : OSize} {g : SReg} {v : Word} {s s1 s2 : State} (hr : peek o 0 s = .ok v s1)
    (hl : loadSeg g (v.setWidth 16) s1 = .ok () s2) :
    popSeg o g s =
      .ok ()
        { s2.putReg (if s.sp32 then .d else .w) .esp (s.spTrunc (s.sp + BitVec.ofNat 32 o.bytes)) with
          inhibitNext := s2.inhibitNext || decide (g = .ss) } := by
  rw [popSeg, getS_bind, M.bind_ok hr, M.bind_ok hl, modS_bind, shadowSs_apply]
  rfl

theorem popSeg_next {o : OSize} {g : SReg} {v : Word} {s s1 s2 : State} (hr : peek o 0 s = .ok v s1)
    (hl : loadSeg g (v.setWidth 16) s1 = .ok () s2) :
    run (popSeg o g) s =
      .next
        { s2 with
          regs := (s.setSp (s.spTrunc (s.sp + BitVec.ofNat 32 o.bytes))).regs
          inhibitNext := s.inhibitNext || decide (g = .ss), cycles := s.cycles + 1 } := by
  obtain ⟨hg, hn, hc⟩ := (keepsProgress_loadSeg g _).ok hl
  rw [quiet_peek _ _ _ _ _ hr] at hg hn hc
  rw [run_next (popSeg_apply hr hl)]
  simp only [State.count, State.putReg_eq, State.withRegs, State.setSp, hg, hn, hc]

theorem popSeg_takes {o : OSize} {g : SReg} {v : Word} {e : Exc} {s s1 s2 : State} (hr : peek o 0 s = .ok v s1)
    (hl : loadSeg g (v.setWidth 16) s1 = .error (.exc e) s2) : run (popSeg o g) s = takeException e s s2 :=
  run_takes ((getS_bind _ s).trans ((M.bind_ok hr).trans (M.bind_error hl)))

/-- What a load of g with sel from s leads to, by what reading its descriptor and its tests answer (R99 to R103). -/
structure LoadOutcomes (g : SReg) (sel : Half) (cpl : BitVec 2) (s : State) : Prop where
  descRaises : ∀ x s2, descRead sel 13 s = .error x s2 → loadSeg g sel s = .error x s2
  testRaises : ∀ d s2 e, descRead sel 13 s = .ok d s2 → checked (segTests g sel cpl d) () s2 = .error (.exc e) s2 →
    loadSeg g sel s = .error (.exc e) s2
  markRaises : ∀ d s2 e s3, descRead sel 13 s = .ok d s2 → checked (segTests g sel cpl d) () s2 = .ok () s2 →
    (s2.setSeg g { selector := sel, cache := cacheOf d (decide (g = .ss)) (selRPL sel) }).MarkRaises sel d e s3 →
    ∃ v, loadSeg g sel s = .error (.exc e) (s3.setSeg g v)
  loads : ∀ d s2 s3, descRead sel 13 s = .ok d s2 → checked (segTests g sel cpl d) () s2 = .ok () s2 →
    (s2.setSeg g { selector := sel, cache := cacheOf d (decide (g = .ss)) (selRPL sel) }).Marked sel d s3 →
    loadSeg g sel s = .ok () s3

theorem loadOutcomes {g : SReg} {sel : Half} {s : State} (hp : s.pe = true) (hi : selIndex sel ≠ 0) :
    LoadOutcomes g sel s.cpl s where
  descRaises _ _ hd := loadSeg_descRaises hp hi hd
  testRaises _ _ _ hd ht := (loadSeg_tests hp hi hd).trans (M.bind_error ht)
  markRaises _ _ _ _ hd ht hm := ⟨_, (loadSeg_tests hp hi hd).trans ((M.bind_ok ht).trans (snapshot_raises hm))⟩
  loads _ _ _ hd ht hm := (loadSeg_tests hp hi hd).trans ((M.bind_ok ht).trans (snapshot_marked hm rfl rfl))

theorem descRead_apply (sel : Half) (e : Byte) (s : State) :
    descRead sel e s =
      if s.tableLimit sel < selIndex sel * 8 + 7 then .error (.exc (Exc.coded e (selCode sel))) s
      else sysRead (s.descAddr sel) 8 s := by
  rw [descRead, getS_bind, raiseIf_bind]

/-- A load of a data segment register exempts no boundary. -/
theorem inhibitNext_setSeg_data {s s1 : State} {g : SReg} (hq : s.sameButMemory s1) (hg : g ≠ .ss) (x : SegReg) :
    (s.inhibitNext || decide (g = .ss)) = (s1.setSeg g x).inhibitNext := by
  rw [State.setSeg_inhibitNext, hq]
  simp [hg]

/-- Settles O30: the load of a segment register case by case, after the selector's read and before the boundary exemption. -/
theorem segmentLoads : Obligations.SegmentLoads := by
  refine ⟨fun g m v s s1 hr hp => ?_, fun g m v s s1 hr hp hi => ?_, fun sel e s => descRead_apply sel e s,
    fun g m v s s1 hr hp => ?_⟩
  all_goals
    have hq := quiet_readLoc _ _ _ _ _ hr
    have hp1 := (congrArg State.pe hq).trans hp
  · refine (exec_movSreg_next hr (loadSeg_real hp1 g _)).trans ?_
    rfl
  · constructor
    · intro hg
      refine (exec_movSreg_next hr (loadSeg_data_null hp1 hg hi)).trans ?_
      rw [inhibitNext_setSeg_data hq hg]
    · rintro rfl
      exact exec_movSreg_takes hr (loadSeg_ss_null hp1 hi)
  · intro sel hi
    have ho : LoadOutcomes g sel s1.cpl s1 := loadOutcomes hp1 hi
    rw [show s1.cpl = s.cpl from (congrArg State.cpl hq).trans rfl] at ho
    refine ⟨fun e s2 hd => exec_movSreg_takes hr (ho.descRaises _ s2 hd), fun d s2 hd => ⟨fun e ht => ?_, fun e s3 ht hm => ?_,
      fun s3 ht hm => ?_⟩⟩
    · exact exec_movSreg_takes hr (ho.testRaises d s2 e hd ht)
    · obtain ⟨w, hw⟩ := ho.markRaises d s2 e s3 hd ht hm
      exact (exec_movSreg_takes hr hw).trans (takeException_setSeg hm.newTask s s3 g w)
    · exact exec_movSreg_next hr (ho.loads d s2 s3 hd ht hm)

/-- What an access leaves of a state, with other general registers and one more instruction counted. -/
theorem count_withRegs {s s1 : State} (h : s.sameButMemory s1) (r : Regs) :
    { s1 with regs := r : State }.count = { s1 with regs := r, cycles := s.cycles + 1 } := by
  rw [h]
  rfl

/-- A selector at any size is an answer that holds it, and takes nothing but free values (log 4). -/
theorem selectorAt_ok (o : OSize) (sel : Half) (s : State) :
    ∃ (w : Word) (n : Nat), w.setWidth 16 = sel ∧ selectorAt o sel s = .ok w { s with draws := n } := by
  obtain ⟨w, t, hw⟩ : ∃ w t, selectorAt o sel s = .ok w t := by cases o <;> exact ⟨_, _, rfl⟩
  obtain ⟨hsel, ht⟩ := selectorAt_apply hw
  exact ⟨w, t.draws, hsel, ht ▸ hw⟩

theorem pushSeg_apply {o : OSize} {g : SReg} {w : Word} {n : Nat} {s s1 : State}
    (hw : selectorAt o (s.seg g).selector s = .ok w { s with draws := n })
    (h1 : memWrite .ss (s.spBelow o.bytes) o.bytes (w.setWidth 64) { s with draws := n } = .ok () s1) :
    pushSeg o g s = .ok () { s1 with regs := (s.setSp (s.spTrunc (s.sp - BitVec.ofNat 32 o.bytes))).regs } := by
  rw [pushSeg, getS_bind, M.bind_ok hw]
  exact push_apply (s := { s with draws := n }) h1

/-- Settles O42: the slot is written below the stack pointer, which then moves down. -/
theorem pushForms : Obligations.PushForms := by
  constructor
  · intro i o val s s1 hi hw
    obtain ⟨m, hm, hv⟩ := exec_pushForm s hi
    rw [hm, run_next (hv.trans (push_apply hw)), count_withRegs (quiet_memWrite _ _ _ _ _ _ _ hw)]
  · intro i o g s hi
    obtain ⟨w, n, hsel, hw⟩ := selectorAt_ok o (s.seg g).selector s
    refine ⟨w, n, hsel, fun s1 h1 => ?_⟩
    rw [exec_pushSegForm s hi, run_next (pushSeg_apply hw h1), count_withRegs (quiet_memWrite _ _ _ _ _ _ _ h1)]

/-- The bits POPF writes, in the words of spec/45_data_flags_stack.md R294. -/
theorem popfMask_eq (s : State) (o : OSize) :
    popfMask s.pe s.cpl s.flags.iopl o =
      0x4DD5 ||| (if s.pe = false ∨ s.cpl = 0 then 0x3000 else 0) |||
        (if s.pe = false ∨ s.cpl.toNat ≤ s.flags.iopl.toNat then 0x0200 else 0) |||
        (match o with | .o16 => 0 | .o32 => 0x00250000) := by
  simp only [popfMask, Bool.or_eq_true, Bool.not_eq_true', beq_iff_eq, decide_eq_true_eq] <;> rfl

theorem popReg_apply {o : OSize} {v : Word} {s s1 : State} (hr : peek o 0 s = .ok v s1) (r : Reg) :
    popReg o r s =
      .ok () { s1 with regs := (s.setSp (s.spTrunc (s.sp + BitVec.ofNat 32 o.bytes))).regs.put o.size r v } := by
  rw [popReg, M.bind_ok (pop_apply hr)]
  rfl

theorem popFlags_apply {o : OSize} {v : Word} {s s1 : State} (hr : peek o 0 s = .ok v s1) :
    popFlags o s =
      .ok ()
        { s1 with
          regs := (s.setSp (s.spTrunc (s.sp + BitVec.ofNat 32 o.bytes))).regs
          flags := s1.flags.write v (popfMask s.pe s.cpl s.flags.iopl o) } := by
  rw [popFlags, getS_bind, M.bind_ok (pop_apply hr)]
  rfl

/-- Settles O43: a pop reads its slot first, so what its load raises finds the stack pointer unmoved. -/
theorem popForms : Obligations.PopForms := by
  intro o v s s1 hr
  have hq := quiet_peek _ _ _ _ _ hr
  refine ⟨fun r => ?_, fun i g hi => ?_, ?_⟩
  · exact (run_next (popReg_apply hr r)).trans (congrArg _ (count_withRegs hq _))
  · simp only [exec_popSegForm s hi]
    refine ⟨fun hp => popSeg_next hr (loadSeg_real ((congrArg State.pe hq).trans hp) g _), fun s2 hl => popSeg_next hr hl,
      fun e s2 hl => popSeg_takes hr hl, fun hp => ?_⟩
    have hp1 := (congrArg State.pe hq).trans hp
    refine ⟨?_, fun h0 hg => ?_, fun e s2 h0 hd => ?_, fun d s2 h0 hd => ⟨fun e ht => ?_, fun e s3 ht hm => ?_, fun s3 ht hm => ?_⟩⟩
    · rintro h0 rfl
      exact popSeg_takes hr (loadSeg_ss_null hp1 h0)
    · refine (popSeg_next hr (loadSeg_data_null hp1 hg h0)).trans ?_
      rw [inhibitNext_setSeg_data hq hg]
    all_goals
      have ho : LoadOutcomes g (v.setWidth 16) s1.cpl s1 := loadOutcomes hp1 h0
      rw [show s1.cpl = s.cpl from (congrArg State.cpl hq).trans rfl] at ho
    · exact popSeg_takes hr (ho.descRaises _ s2 hd)
    · exact popSeg_takes hr (ho.testRaises d s2 e hd ht)
    · obtain ⟨w, hw⟩ := ho.markRaises d s2 e s3 hd ht hm
      exact (popSeg_takes hr hw).trans (takeException_setSeg hm.newTask s s3 g w)
    · exact popSeg_next hr (ho.loads d s2 s3 hd ht hm)
  · refine (run_next (popFlags_apply hr)).trans ?_
    rw [popfMask_eq, hq]
    rfl

end Sys2Proof.Machine

end

section

namespace Sys2Proof.Machine

/-! ## Linear accesses, by whether they straddle (spec/20_memory.md R76, R84) -/

theorem straddles_false {s : State} {l : Word} {n : Nat} (h : s.pg = false ∨ l.toNat % 4096 + n ≤ 4096) :
    s.straddles l n = false := by
  unfold State.straddles
  rcases h with h | h
  · rw [h, Bool.false_and]
  · rw [decide_eq_false (by omega), Bool.and_false]

theorem straddles_true {s : State} {l : Word} {n : Nat} (hp : s.pg = true) (h : 4096 < l.toNat % 4096 + n) :
    s.straddles l n = true := by
  rw [State.straddles, hp, decide_eq_true h, Bool.true_and]

theorem translate_off {s : State} (hp : s.pg = false) (l : Word) (a : Acc) : translate l a s = .ok l s := by
  rw [translate, getS_bind, if_neg (by simp [hp])]
  rfl

theorem translate_on {s : State} (hp : s.pg = true) (l : Word) (a : Acc) : translate l a s = walk l a s := by
  rw [translate, getS_bind, if_pos hp]

theorem linRead_whole {s : State} {l : Word} {n : Nat} (h : s.straddles l n = false) (a : Acc) :
    linRead l n a s = (translate l a >>= fun p => physRead p n) s := by
  rw [linRead, getS_bind, if_neg (by simp [h])]

theorem linRead_split {s : State} {l : Word} {n : Nat} (h : s.straddles l n = true) (a : Acc) :
    linRead l n a s = linReadBytes l a n s := by
  rw [linRead, getS_bind, if_pos h]

theorem linWrite_whole {s : State} {l : Word} {n : Nat} (h : s.straddles l n = false) (v : Quad) (a : Acc) :
    linWrite l n v a s = (translate l a >>= fun p => physWrite p n v) s := by
  rw [linWrite, getS_bind, if_neg (by simp [h])]

theorem linWrite_split_bytewise {s : State} {l : Word} {n : Nat} (h : s.straddles l n = true)
    (hc : s.params.straddle = .bytewise) (v : Quad) (a : Acc) : linWrite l n v a s = linWriteBytes l a n v s := by
  rw [linWrite, getS_bind, if_pos h, hc]

theorem linWrite_split_allOrNothing {s : State} {l : Word} {n : Nat} (h : s.straddles l n = true)
    (hc : s.params.straddle = .allOrNothing) (v : Quad) (a : Acc) :
    linWrite l n v a s = (translateBytes l a n >>= fun ps => modS fun s => s.writeEach ps v) s := by
  rw [linWrite, getS_bind, if_pos h, hc]

theorem linPlace_whole {s : State} {l : Word} {n : Nat} (h : s.straddles l n = false) (a : Acc) :
    linPlace l n a s = (translate l a >>= fun p => pure (.run p)) s := by
  rw [linPlace, getS_bind, if_neg (by simp [h])]

theorem linPlace_split {s : State} {l : Word} {n : Nat} (h : s.straddles l n = true) (a : Acc) :
    linPlace l n a s = (translateBytes l a n >>= fun ps => pure (.bytes ps)) s := by
  rw [linPlace, getS_bind, if_pos h]

theorem linRead_off {s : State} (hp : s.pg = false) (l : Word) (n : Nat) (a : Acc) :
    linRead l n a s = .ok (s.physRead l n).1 (s.physRead l n).2 := by
  rw [linRead_whole (straddles_false (.inl hp)), M.bind_ok (translate_off hp l a)]
  rfl

theorem linWrite_off {s : State} (hp : s.pg = false) (l : Word) (n : Nat) (v : Quad) (a : Acc) :
    linWrite l n v a s = .ok () (s.physWrite l n v) := by
  rw [linWrite_whole (straddles_false (.inl hp)), M.bind_ok (translate_off hp l a)]
  rfl

theorem linPlace_off {s : State} (hp : s.pg = false) (l : Word) (n : Nat) (a : Acc) :
    linPlace l n a s = .ok (.run l) s := by
  rw [linPlace_whole (straddles_false (.inl hp)), M.bind_ok (translate_off hp l a)]
  rfl

/-! ## Accesses through a segment (spec/20_memory.md R85 to R88, R115) -/

theorem segCheckAs_apply (e : Exc) (c : SegCache) (isCs : Bool) (off n : Nat) (k : AccKind) (s : State) :
    segCheckAs e c isCs off n k s = if segAllows c isCs s.pe off n k then .ok () s else .error (.exc e) s := by
  rw [segCheckAs, getS_bind, raiseIf_apply]
  cases segAllows c isCs s.pe off n k <;> rfl

theorem segCheckAs_bind {β : Type} (e : Exc) (c : SegCache) (isCs : Bool) (off n : Nat) (k : AccKind) (f : Unit → M β)
    (s : State) :
    (segCheckAs e c isCs off n k >>= f) s =
      if segAllows c isCs s.pe off n k then f () s else .error (.exc e) s := by
  rw [M.bind_apply, segCheckAs_apply]
  cases segAllows c isCs s.pe off n k <;> rfl

theorem memRead_apply (g : SReg) (off n : Nat) (s : State) :
    memRead g off n s =
      if segAllows (s.seg g).cache (decide (g = .cs)) s.pe off n .read then
        linRead (s.linAt g off) n (accAt .read s.cpl) s
      else .error (.exc (segFault (s.seg g).cache)) s := by
  rw [memRead, getS_bind]
  exact segCheckAs_bind _ _ _ _ _ _ _ s

theorem memWrite_apply (g : SReg) (off n : Nat) (v : Quad) (s : State) :
    memWrite g off n v s =
      if segAllows (s.seg g).cache (decide (g = .cs)) s.pe off n .write then
        linWrite (s.linAt g off) n v (accAt .write s.cpl) s
      else .error (.exc (segFault (s.seg g).cache)) s := by
  rw [memWrite, getS_bind]
  exact segCheckAs_bind _ _ _ _ _ _ _ s

theorem memOpen_apply (g : SReg) (off n : Nat) (s : State) :
    memOpen g off n s =
      if segAllows (s.seg g).cache (decide (g = .cs)) s.pe off n .rmw then
        linPlace (s.linAt g off) n (accAt .rmw s.cpl) s
      else .error (.exc (segFault (s.seg g).cache)) s := by
  rw [memOpen, getS_bind]
  exact segCheckAs_bind _ _ _ _ _ _ _ s

theorem memWriteVia_apply (e : Exc) (c : SegCache) (cpl : BitVec 2) (off n : Nat) (v : Quad) (s : State) :
    memWriteVia e c cpl off n v s =
      if segAllows c false s.pe off n .write then linWrite (segLinear c off) n v (accAt .write cpl) s
      else .error (.exc e) s :=
  segCheckAs_bind _ _ _ _ _ _ _ s

theorem allows_mem (s : State) (sz : Size) (k : AccKind) (g : SReg) (off : Nat) :
    s.allows sz k (.mem g off) = segAllows (s.seg g).cache (decide (g = .cs)) s.pe off sz.bytes k := rfl

theorem readLoc_mem (sz : Size) (g : SReg) (off : Nat) (s : State) :
    readLoc sz (.mem g off) s =
      if s.allows sz .read (.mem g off) then
        (linRead (s.linAt g off) sz.bytes (accAt .read s.cpl) >>= fun q => pure (q.setWidth 32)) s
      else .error (.exc (s.placeFault (.mem g off))) s := by
  rw [readLoc, M.bind_apply, memRead_apply, allows_mem, M.bind_apply]
  cases segAllows (s.seg g).cache (decide (g = .cs)) s.pe off sz.bytes .read <;> rfl

theorem writeLoc_mem (sz : Size) (v : Word) (g : SReg) (off : Nat) (s : State) :
    writeLoc sz v (.mem g off) s =
      if s.allows sz .write (.mem g off) then
        linWrite (s.linAt g off) sz.bytes (v.setWidth 64) (accAt .write s.cpl) s
      else .error (.exc (s.placeFault (.mem g off))) s :=
  memWrite_apply g off sz.bytes _ s

theorem openLoc_mem (sz : Size) (g : SReg) (off : Nat) (s : State) :
    openLoc sz (.mem g off) s =
      if s.allows sz .rmw (.mem g off) then
        (linPlace (s.linAt g off) sz.bytes (accAt .rmw s.cpl) >>= fun pl => pure (.mem pl)) s
      else .error (.exc (s.placeFault (.mem g off))) s := by
  rw [openLoc, M.bind_apply, memOpen_apply, allows_mem, M.bind_apply]
  cases segAllows (s.seg g).cache (decide (g = .cs)) s.pe off sz.bytes .rmw <;> rfl

/-- Paging off, an operand place is read exactly when the segment check lets it (R88). -/
theorem readLoc_off {s : State} (hp : s.pg = false) (sz : Size) (l : Loc) :
    readLoc sz l s =
      if s.allows sz .read l then .ok (s.loaded sz l).1 (s.loaded sz l).2 else .error (.exc (s.placeFault l)) s := by
  cases l with
  | reg8 r => rfl
  | reg r => rfl
  | mem g off =>
    rw [readLoc_mem, M.bind_ok (linRead_off hp _ _ _)]
    rfl

theorem writeLoc_off {s : State} (hp : s.pg = false) (sz : Size) (v : Word) (l : Loc) :
    writeLoc sz v l s =
      if s.allows sz .write l then .ok () (s.stored sz v l) else .error (.exc (s.placeFault l)) s := by
  cases l with
  | reg8 r => rfl
  | reg r => rfl
  | mem g off =>
    rw [writeLoc_mem, linWrite_off hp]
    rfl

theorem openLoc_off {s : State} (hp : s.pg = false) (sz : Size) (l : Loc) :
    openLoc sz l s = if s.allows sz .rmw l then .ok (s.opened l) s else .error (.exc (s.placeFault l)) s := by
  cases l with
  | reg8 r => rfl
  | reg r => rfl
  | mem g off =>
    rw [openLoc_mem, M.bind_ok (linPlace_off hp _ _ _)]
    rfl

/-- In real mode the limit alone decides (R87). -/
theorem allows_real {s : State} (hp : s.pe = false) (sz : Size) (g : SReg) (off : Nat) (k : AccKind) :
    s.allows sz k (.mem g off) = true ↔ off + sz.bytes - 1 ≤ (s.seg g).cache.limit.toNat := by
  simp [State.allows, segAllows, wrongKind, outsideLimit, hp]

/-! ## Byte by byte: what the next byte adds, and what a fault says (spec/20_memory.md R84) -/

section Bytes

variable {l p : Word} {a : Acc} {n : Nat} {s t u : State} {x : Abort}

theorem linReadBytes_raises (h : translate l a s = .error x t) : linReadBytes l a (n + 1) s = .error x t :=
  M.bind_error h

theorem linWriteBytes_raises {v : Quad} (h : translate l a s = .error x t) : linWriteBytes l a (n + 1) v s = .error x t :=
  M.bind_error h

theorem translateBytes_raises (h : translate l a s = .error x t) : translateBytes l a (n + 1) s = .error x t :=
  M.bind_error h

theorem linReadBytes_next (h : translate l a s = .ok p t) :
    linReadBytes l a (n + 1) s =
      (linReadBytes (l + 1) a n >>= fun hi => pure ((t.physRead p 1).1 ||| (hi <<< 8))) (t.physRead p 1).2 :=
  M.bind_ok h

theorem linWriteBytes_next {v : Quad} (h : translate l a s = .ok p t) :
    linWriteBytes l a (n + 1) v s = linWriteBytes (l + 1) a n (v >>> 8) (t.physWrite p 1 (v &&& 0xFF)) :=
  M.bind_ok h

theorem translateBytes_next (h : translate l a s = .ok p t) :
    translateBytes l a (n + 1) s = (translateBytes (l + 1) a n >>= fun ps => pure (p :: ps)) t :=
  M.bind_ok h

end Bytes

/-- The page faults at the linear address l. -/
def FaultsAt (l : Word) (x : Abort) (t : State) : Prop :=
  ∀ e, x = .exc e → t.cr2 = l ∧ e.vector = 14 ∧ e.addr = some l

theorem faultsAt_pageFault {α : Type} {l : Word} {a : Acc} {b : Bool} {s t : State} {x : Abort}
    (h : (pageFault l a b : M α) s = .error x t) : FaultsAt l x t := by
  cases h
  rintro _ ⟨⟩
  exact ⟨rfl, rfl, rfl⟩

theorem physRead_apply (p : Word) (n : Nat) (s : State) : physRead p n s = .ok (s.physRead p n).1 (s.physRead p n).2 := rfl

theorem whenM_physWrite (c : Prop) [Decidable c] (p : Word) (n : Nat) (v : Quad) (s : State) :
    whenM c (physWrite p n v) s = .ok () (if c then s.physWrite p n v else s) := by
  rw [whenM_apply]
  split <;> rfl

theorem shiftLeft_two (x : Word) : x <<< 2 = x * 4 := BitVec.shiftLeft_eq_mul_twoPow x 2

/-- The walk: the directory entry, the table entry, their bits, then the accessed and dirty bits (R77, R78). -/
theorem walk_apply (l : Word) (a : Acc) (s : State) :
    let pdeAddr := (s.cr3 &&& 0xFFFFF000) ||| (l >>> 22) * 4
    let pde : Word := (s.physRead pdeAddr 4).1.setWidth 32
    let s1 := (s.physRead pdeAddr 4).2
    let pteAddr := (pde &&& 0xFFFFF000) ||| ((l >>> 12) &&& 0x3FF) * 4
    let pte : Word := (s1.physRead pteAddr 4).1.setWidth 32
    let s2 := (s1.physRead pteAddr 4).2
    let s3 := if pde.getLsbD 5 = false then s2.physWrite pdeAddr 4 ((pde ||| 0x20).setWidth 64) else s2
    walk l a s =
      if pde.getLsbD 0 = false then pageFault l a false s1
      else if pte.getLsbD 0 = false then pageFault l a false s2
      else if pageAllows a s.wp pde pte = false then pageFault l a true s2
      else
        .ok ((pte &&& 0xFFFFF000) ||| (l &&& 0xFFF))
          (if pte.getLsbD 5 = false ∨ (a.kind.writes = true ∧ pte.getLsbD 6 = false) then
            s3.physWrite pteAddr 4 ((pte ||| 0x20 ||| (if a.kind.writes then 0x40 else 0)).setWidth 64)
          else s3) := by
  intro pdeAddr pde s1 pteAddr pte s2 s3
  rw [walk, getS_bind, shiftLeft_two, shiftLeft_two, M.bind_ok (physRead_apply _ _ _)]
  by_cases h0 : pde.getLsbD 0 = false
  · rw [if_pos h0]
    exact congrFun (if_pos ((Bool.not_eq_true' _).mpr h0)) s1
  rw [if_neg h0]
  refine (congrFun (if_neg (mt (Bool.not_eq_true' _).mp h0)) s1).trans ?_
  rw [M.bind_ok (physRead_apply _ _ _)]
  by_cases h1 : pte.getLsbD 0 = false
  · rw [if_pos h1]
    exact congrFun (if_pos ((Bool.not_eq_true' _).mpr h1)) s2
  rw [if_neg h1]
  refine (congrFun (if_neg (mt (Bool.not_eq_true' _).mp h1)) s2).trans ?_
  by_cases h2 : pageAllows a s.wp pde pte = false
  · rw [if_pos h2]
    exact congrFun (if_pos ((Bool.not_eq_true' _).mpr h2)) s2
  rw [if_neg h2]
  refine (congrFun (if_neg (mt (Bool.not_eq_true' _).mp h2)) s2).trans ?_
  rw [M.bind_ok (whenM_physWrite _ _ _ _ _), M.bind_ok (whenM_physWrite _ _ _ _ _)]
  rfl

/-- What a translation raises is a page fault at its address (R77, R78). -/
theorem faultsAt_translate {l : Word} {a : Acc} {s t : State} {x : Abort} (h : translate l a s = .error x t) :
    FaultsAt l x t := by
  cases hp : s.pg with
  | false => rw [translate_off hp] at h; cases h
  | true =>
    rw [translate_on hp, walk_apply] at h
    split at h
    · exact faultsAt_pageFault h
    split at h
    · exact faultsAt_pageFault h
    split at h
    · exact faultsAt_pageFault h
    · cases h

/-- A fault of one of the n bytes from l on: CR2 and the exception hold its address (R84). -/
def FaultsWithin (l : Word) (n : Nat) (x : Abort) (t : State) : Prop :=
  ∃ i, i < n ∧ FaultsAt (l + BitVec.ofNat 32 i) x t

theorem FaultsAt.within {l : Word} {n : Nat} {x : Abort} {t : State} (h : FaultsAt l x t) : FaultsWithin l (n + 1) x t :=
  ⟨0, by omega, by simpa using h⟩

theorem FaultsWithin.succ {l : Word} {n : Nat} {x : Abort} {t : State} (h : FaultsWithin (l + 1) n x t) :
    FaultsWithin l (n + 1) x t := by
  obtain ⟨i, hi, h⟩ := h
  refine ⟨i + 1, by omega, ?_⟩
  rwa [BitVec.add_assoc, show (1 : Word) + BitVec.ofNat 32 i = BitVec.ofNat 32 (i + 1) by
    rw [Nat.add_comm, BitVec.ofNat_add]
    rfl] at h

/-- An operation made byte by byte faults at its first byte or within the others. -/
theorem faultsWithin_bind {β : Type} {l : Word} {a : Acc} {n : Nat} {f : Word → M β} {s t : State} {x : Abort}
    (hf : ∀ p s, f p s = .error x t → FaultsWithin (l + 1) n x t) (h : (translate l a >>= f) s = .error x t) :
    FaultsWithin l (n + 1) x t := by
  cases e : translate l a s with
  | error y u =>
    rw [M.bind_error e] at h
    cases h
    exact (faultsAt_translate e).within
  | ok p u =>
    rw [M.bind_ok e] at h
    exact (hf p u h).succ

/-- An answer that is only passed on adds no fault. -/
theorem M.bind_pure_error {α β : Type} {m : M α} {f : α → β} {s t : State} {x : Abort}
    (h : (m >>= fun a => pure (f a)) s = .error x t) : m s = .error x t := by
  cases e : m s with
  | error y u =>
    rw [M.bind_error e] at h
    cases h
    rfl
  | ok a u =>
    rw [M.bind_ok e] at h
    cases h

theorem faultsWithin_linReadBytes {l : Word} {a : Acc} {n : Nat} {s t : State} {x : Abort}
    (h : linReadBytes l a n s = .error x t) : FaultsWithin l n x t := by
  induction n generalizing l s with
  | zero => cases h
  | succ n ih => exact faultsWithin_bind (fun p s h => ih (M.bind_pure_error h)) h

theorem faultsWithin_linWriteBytes {l : Word} {a : Acc} {n : Nat} {v : Quad} {s t : State} {x : Abort}
    (h : linWriteBytes l a n v s = .error x t) : FaultsWithin l n x t := by
  induction n generalizing l v s with
  | zero => cases h
  | succ n ih => exact faultsWithin_bind (fun p s h => ih h) h

theorem faultsWithin_translateBytes {l : Word} {a : Acc} {n : Nat} {s t : State} {x : Abort}
    (h : translateBytes l a n s = .error x t) : FaultsWithin l n x t := by
  induction n generalizing l s with
  | zero => cases h
  | succ n ih => exact faultsWithin_bind (fun p s h => ih (M.bind_pure_error h)) h

/-- Settles O26: each access is the segment check and a linear access, which goes by one translation or byte by byte. -/
theorem operandAccess : Obligations.OperandAccess := by
  refine ⟨fun s sz l v hp => ⟨readLoc_off hp sz l, writeLoc_off hp sz v l, openLoc_off hp sz l⟩,
    fun s sz g off k hp => allows_real hp sz g off k, fun s t sz l v h => quiet_readLoc sz l s v t h,
    fun s t sz l p h => quiet_openLoc sz l s p t h, fun s t sz g off v h => quiet_memWrite g off _ _ s () t h,
    fun s sz g off v => ⟨?_, writeLoc_mem sz v g off s, ?_⟩, fun s l n v a h => ⟨fun p t ht => ?_, fun x t ht => ?_⟩,
    fun s l n v a hp h => ?_, fun s l n v a => ⟨fun x t ht => ⟨?_, ?_, ?_⟩, fun p t ht => ⟨?_, ?_, ?_, ?_, ?_⟩⟩,
    fun s t l n v a e h => ?_⟩
  · rw [readLoc_mem, M.bind_apply]
    cases linRead (s.linAt g off) sz.bytes (accAt .read s.cpl) s <;> rfl
  · rw [openLoc_mem, M.bind_apply]
    cases linPlace (s.linAt g off) sz.bytes (accAt .rmw s.cpl) s <;> rfl
  · have hs := straddles_false h
    rw [linRead_whole hs, linWrite_whole hs, linPlace_whole hs, M.bind_ok ht, M.bind_ok ht, M.bind_ok ht]
    exact ⟨rfl, rfl, rfl⟩
  · have hs := straddles_false h
    rw [linRead_whole hs, linWrite_whole hs, linPlace_whole hs, M.bind_error ht, M.bind_error ht, M.bind_error ht]
    exact ⟨rfl, rfl, rfl⟩
  · have hs := straddles_true hp h
    rw [linRead_split hs, linPlace_split hs]
    refine ⟨rfl, fun hc => linWrite_split_bytewise hs hc v a, fun hc => ?_, fun ps t ht => M.bind_ok ht,
      fun x t ht => M.bind_error ht⟩
    rw [linWrite_split_allOrNothing hs hc]
    exact ⟨fun ps t ht => M.bind_ok ht, fun x t ht => M.bind_error ht⟩
  · exact linReadBytes_raises ht
  · exact linWriteBytes_raises ht
  · exact translateBytes_raises ht
  · exact fun hi u hu => (linReadBytes_next ht).trans (M.bind_ok hu)
  · exact fun x u hu => (linReadBytes_next ht).trans (M.bind_error hu)
  · exact linWriteBytes_next ht
  · exact fun ps u hu => (translateBytes_next ht).trans (M.bind_ok hu)
  · exact fun x u hu => (translateBytes_next ht).trans (M.bind_error hu)
  · have hw : FaultsWithin l n (.exc e) t := by
      rcases h with h | h | h
      · exact faultsWithin_linReadBytes h
      · exact faultsWithin_linWriteBytes h
      · exact faultsWithin_translateBytes h
    obtain ⟨i, hi, hf⟩ := hw
    obtain ⟨hc, hv, ha⟩ := hf e rfl
    exact ⟨i, hi, hc, hv, ha.trans (congrArg some hc.symm)⟩

theorem AccKind.writes_eq (k : AccKind) : k.writes = decide (k = .write ∨ k = .rmw) := by cases k <;> rfl

/-- The two levels' U/S and R/W bits deny an access (R78). -/
theorem not_pageAllows (a : Acc) (wp : Bool) (pde pte : Word) :
    (!pageAllows a wp pde pte) =
      ((a.user && (!pde.getLsbD 2 || !pte.getLsbD 2)) ||
        (decide (a.kind = .write ∨ a.kind = .rmw) && (a.user || wp) && (!pde.getLsbD 1 || !pte.getLsbD 1))) := by
  rw [pageAllows, AccKind.writes_eq]
  simp only [Bool.not_and, Bool.not_or, Bool.not_not]

theorem getLsbD_pfCode (present : Bool) (a : Acc) {i : Nat} (hi : i < 16) :
    (pfCode present a).getLsbD i =
      ((i == 0 && present) || (i == 1 && decide (a.kind = .write ∨ a.kind = .rmw)) || (i == 2 && a.user) ||
        (i == 4 && decide (a.kind = .fetch))) := by
  obtain ⟨k, u⟩ := a
  interval_cases i <;> cases present <;> cases u <;> cases k <;> decide

theorem ite_unaccessed (b : Bool) (x y : State) : (if b = false then x else y) = if b then y else x := by
  cases b <;> rfl

/-- An entry is written back when a bit it needs is missing. -/
theorem ite_unmarked (accessed write dirty : Bool) (x y : State) :
    (if accessed = false ∨ (write = true ∧ dirty = false) then x else y) = if accessed && (!write || dirty) then y else x := by
  cases accessed <;> cases write <;> cases dirty <;> rfl

/-- Settles O28: the walk's branches are those of R77 and R78, and the error code has a bit for each of its facts. -/
theorem pageWalk : Obligations.PageWalk := by
  refine ⟨fun s l a => ⟨fun hp => translate_off hp l a, fun hp => ?_⟩, fun present a i hi => getLsbD_pfCode present a hi,
    fun k cpl => ⟨rfl, rfl⟩⟩
  intro pdeAddr pde s1 pteAddr pte s2 write denied
  have hw := translate_on hp l a
  rw [walk_apply] at hw
  have hd : denied = !pageAllows a s.wp pde pte := (not_pageAllows a s.wp pde pte).symm
  refine ⟨fun h0 => ?_, fun h0 h1 => ?_, fun h0 h1 h2 => ?_, fun h0 h1 h2 => ?_⟩
  · exact hw.trans (if_pos h0)
  all_goals replace hw := hw.trans (if_neg (ne_false_of_eq_true h0))
  · exact hw.trans (if_pos h1)
  all_goals replace hw := hw.trans (if_neg (ne_false_of_eq_true h1))
  · exact hw.trans (if_pos (by rwa [hd, Bool.not_eq_true'] at h2))
  · refine (hw.trans (if_neg (ne_false_of_eq_true (by rwa [hd, Bool.not_eq_false'] at h2)))).trans ?_
    rw [ite_unmarked, ite_unaccessed, AccKind.writes_eq]

end Sys2Proof.Machine

end

section

namespace Sys2Proof.Machine

/-! ## Physical accesses, byte by byte (spec/20_memory.md R71, R73, R74) -/

/-- The masked address of the byte at q; past the last physical address it stays where nothing is (R71, log 10). -/
def State.maskedAddr (s : State) (q : Nat) : Nat := if q < 2 ^ 32 then (s.maskA20 (BitVec.ofNat 32 q)).toNat else q

theorem State.byteAt_eq (s : State) (p : Word) (i : Nat) : s.byteAt p i = s.maskedAddr (p.toNat + i) := rfl

theorem State.maskedAddr_lt {s : State} {q : Nat} (h : q < 2 ^ 32) :
    s.maskedAddr q = (s.maskA20 (BitVec.ofNat 32 q)).toNat := if_pos h

theorem State.maskedAddr_toNat (s : State) (p : Word) : s.maskedAddr p.toNat = (s.maskA20 p).toNat := by
  rw [State.maskedAddr_lt p.isLt, BitVec.ofNat_toNat, BitVec.setWidth_eq]

/-- Masking clears bit 20 alone, so that bytes less than 2^20 apart stay apart. -/
theorem State.maskedAddr_injective {s : State} {q i j : Nat} (hi : q + i < 2 ^ 32) (hj : q + j < 2 ^ 32)
    (hd : i < 2 ^ 20 ∧ j < 2 ^ 20) (h : s.maskedAddr (q + i) = s.maskedAddr (q + j)) : i = j := by
  have low (x : Word) : (s.maskA20 x).setWidth 20 = x.setWidth 20 := by
    unfold State.maskA20
    split
    · rfl
    · rw [BitVec.setWidth_and, show (0xFFEFFFFF : Word).setWidth 20 = BitVec.allOnes 20 by decide, BitVec.and_allOnes]
  rw [State.maskedAddr_lt hi, State.maskedAddr_lt hj, ← BitVec.toNat_eq] at h
  have h20 := congrArg BitVec.toNat ((low _).symm.trans ((congrArg (BitVec.setWidth 20) h).trans (low _)))
  simp only [BitVec.toNat_setWidth, BitVec.toNat_ofNat] at h20
  omega

/-- What holds of n + 1 addresses from q on holds of the n from q + 1 on. -/
theorem rest_of_range {P : Nat → Prop} {q n : Nat} (h : ∀ i, i < n + 1 → P (q + i)) (i : Nat) (hi : i < n) :
    P (q + 1 + i) := by
  rw [Nat.add_assoc, Nat.add_comm 1]
  exact h (i + 1) (by omega)

/-- The byte at q is RAM, and no provider's. -/
structure State.RamByte (s : State) (q : Nat) : Prop where
  lt : q < 2 ^ 32
  noProvider : s.provider (s.maskedAddr q) = none
  inRam : s.maskedAddr q < s.params.ramSize

theorem dispatchRead_ramByte {s : State} {q : Nat} (h : s.RamByte q) :
    s.dispatchRead (BitVec.ofNat 32 q) 1 = ((s.mem.read (s.maskedAddr q)).setWidth 64, s) := by
  obtain ⟨h1, h2, h3⟩ := h
  rw [State.maskedAddr_lt h1] at h2 h3 ⊢
  simp [State.dispatchRead, h2, h3, Memory.readBytes]

theorem dispatchWrite_ramByte {s : State} {q : Nat} (v : Quad) (h : s.RamByte q) :
    s.dispatchWrite (BitVec.ofNat 32 q) 1 v = s.withMem (s.mem.write (s.maskedAddr q) (v.setWidth 8)) := by
  obtain ⟨h1, h2, h3⟩ := h
  rw [State.maskedAddr_lt h1] at h2 h3 ⊢
  simp [State.dispatchWrite, h2, h3, Memory.writeBytes]

/-- An access that is made whole and is no provider's has one byte at most (R74). -/
theorem le_one_of_not_splits {s : State} {a n : Nat} (h : ¬s.splits a n = true) (hp : s.provider a = none) : n ≤ 1 := by
  have : ¬1 < n := by simpa [State.splits, State.inOneBlock, hp] using h
  omega

/-- An access whose first byte is no provider's is made byte by byte. -/
theorem physRead_each {s : State} {p : Word} {n : Nat} (hn : 1 ≤ n) (h : s.provider (s.maskedAddr p.toNat) = none) :
    s.physRead p n = s.physReadEach p.toNat n := by
  rw [State.maskedAddr_toNat] at h
  unfold State.physRead
  split
  · rfl
  · rename_i hs
    obtain rfl : n = 1 := le_antisymm (le_one_of_not_splits hs h) hn
    simp [State.physReadEach, p.isLt]

theorem physWrite_each {s : State} {p : Word} {n : Nat} (v : Quad) (hn : 1 ≤ n)
    (h : s.provider (s.maskedAddr p.toNat) = none) : s.physWrite p n v = s.physWriteEach p.toNat n v := by
  rw [State.maskedAddr_toNat] at h
  unfold State.physWrite
  split
  · rfl
  · rename_i hs
    obtain rfl : n = 1 := le_antisymm (le_one_of_not_splits hs h) hn
    simp [State.physWriteEach, p.isLt]

theorem physReadEach_state {s : State} {q n : Nat} (h : ∀ i, i < n → s.RamByte (q + i)) : (s.physReadEach q n).2 = s := by
  induction n generalizing q with
  | zero => rfl
  | succ n ih =>
    have h0 : s.RamByte q := h 0 (by omega)
    rw [State.physReadEach, if_pos h0.lt, dispatchRead_ramByte h0]
    exact ih (rest_of_range h)

/-- Bit j of a read of RAM is bit j mod 8 of its byte j / 8: little-endian (R73). -/
theorem getLsbD_physReadEach {s : State} {q n : Nat} (h : ∀ i, i < n → s.RamByte (q + i)) {j : Nat} (hj : j < 64) :
    (s.physReadEach q n).1.getLsbD j = (decide (j < 8 * n) && (s.mem.read (s.maskedAddr (q + j / 8))).getLsbD (j % 8)) := by
  induction n generalizing q j with
  | zero => simp [State.physReadEach]
  | succ n ih =>
    have h0 : s.RamByte q := h 0 (by omega)
    rw [State.physReadEach, if_pos h0.lt, dispatchRead_ramByte h0]
    simp only [BitVec.getLsbD_or, BitVec.getLsbD_shiftLeft, BitVec.getLsbD_setWidth, hj, decide_true, Bool.true_and]
    by_cases h8 : j < 8
    · have : j < 8 * (n + 1) := by omega
      simp [h8, this, Nat.div_eq_of_lt h8, Nat.mod_eq_of_lt h8]
    · rw [ih (rest_of_range h) (by omega), BitVec.getLsbD_of_ge _ j (by omega), show q + 1 + (j - 8) / 8 = q + j / 8 by omega,
        show (j - 8) % 8 = j % 8 by omega]
      have : j - 8 < 8 * n ↔ j < 8 * (n + 1) := by omega
      simp [h8, this]

/-- A store byte by byte of RAM changes memory only, and each of its bytes holds that byte of the value (R73, R74). -/
theorem physWriteEach_ramBytes {s : State} {q n : Nat} (v : Quad) (hn : n ≤ 8) (h : ∀ i, i < n → s.RamByte (q + i))
    (hw : s.mem.wf = true) :
    ∃ m : Memory, s.physWriteEach q n v = s.withMem m ∧
      (∀ a, (∀ i, i < n → a ≠ s.maskedAddr (q + i)) → m.read a = s.mem.read a) ∧
      ∀ i, i < n → m.read (s.maskedAddr (q + i)) = (v >>> (8 * i)).setWidth 8 := by
  induction n generalizing s q v with
  | zero => exact ⟨s.mem, rfl, fun _ _ => rfl, fun i hi => by omega⟩
  | succ n ih =>
    have h0 : s.RamByte q := h 0 (by omega)
    have hs : ∀ i, q + 1 + i = q + (i + 1) := fun i => by omega
    have h1 : ∀ i, i < n → (s.withMem (s.mem.write (s.maskedAddr q) (v.setWidth 8))).RamByte (q + 1 + i) := fun i hi =>
      have ⟨a, b, c⟩ := rest_of_range h i hi
      ⟨a, b, c⟩
    obtain ⟨m, hm, hother, hbytes⟩ := ih (v >>> 8) (by omega) h1 (Memory.wf_write _ _ hw)
    refine ⟨m, ?_, fun a ha => ?_, fun i hi => ?_⟩
    · rw [State.physWriteEach, if_pos h0.lt, dispatchWrite_ramByte v h0, hm]
      rfl
    · rw [hother a fun i hi => by rw [hs]; exact ha (i + 1) (by omega)]
      exact Memory.read_write_other _ _ _ (ha 0 (by omega)) hw
    · cases i with
      | zero =>
        rw [Nat.add_zero, hother _ fun i hi heq => ?_]
        · exact Memory.read_write_same _ _ hw
        · rw [hs] at heq
          have := State.maskedAddr_injective (i := 0) h0.lt (h (i + 1) (by omega)).lt (by omega) heq
          omega
      | succ i =>
        rw [← hs]
        refine (hbytes i (by omega)).trans ?_
        rw [← BitVec.shiftRight_add, Nat.mul_succ, Nat.add_comm]

/-- Whatever the byte at q is, a store there leaves every other address alone. -/
theorem read_dispatchWrite_other {s : State} {p : Word} {n : Nat} {v : Quad} {a : Nat} (hw : s.mem.wf = true)
    (ha : s.provider (s.maskA20 p).toNat = none → ∀ i, i < n → a ≠ (s.maskA20 p).toNat + i) :
    (s.dispatchWrite p n v).mem.read a = s.mem.read a := by
  unfold State.dispatchWrite
  dsimp only
  split
  · rfl
  · rename_i hp
    split
    · exact Memory.read_writeBytes_other _ _ _ _ (ha hp) hw
    · rfl

theorem read_physWriteEach_other {s : State} {q n : Nat} {v : Quad} {a : Nat} (hw : s.mem.wf = true)
    (ha : ∀ i, i < n → a ≠ s.maskedAddr (q + i)) : (s.physWriteEach q n v).mem.read a = s.mem.read a := by
  induction n generalizing s q v with
  | zero => rfl
  | succ n ih =>
    rw [State.physWriteEach]
    have hs := rest_of_range (P := fun b => a ≠ s.maskedAddr b) ha
    split
    · rename_i hq
      have hm := memStep_dispatchWrite s (BitVec.ofNat 32 q) 1 v (splits_one s _)
      rw [ih (hm.wf hw) fun i hi => by rw [hm.same]; exact hs i hi]
      refine read_dispatchWrite_other hw fun _ i hi => ?_
      rw [← State.maskedAddr_lt hq, show i = 0 by omega]
      exact ha 0 (by omega)
    · exact ih hw hs

/-- Nothing is at the byte q: it is at or above RAM and above the providers' window, or past the last address. -/
def State.EmptyByte (s : State) (q : Nat) : Prop :=
  q < 2 ^ 32 → s.params.ramSize ≤ s.maskedAddr q ∧ 0x100000 ≤ s.maskedAddr q

theorem State.EmptyByte.noProvider {s : State} {q : Nat} (h : s.EmptyByte q) (hq : q < 2 ^ 32) :
    s.provider (s.maskedAddr q) = none := if_neg (by have := h hq; omega)

theorem physReadEach_empty {s : State} {q n : Nat} (h : ∀ i, i < n → s.EmptyByte (q + i)) : s.physReadEach q n = (0, s) := by
  induction n generalizing q with
  | zero => rfl
  | succ n ih =>
    have h0 : (if q < 2 ^ 32 then s.dispatchRead (BitVec.ofNat 32 q) 1 else (0, s)) = (0, s) := by
      split
      · rename_i hq
        have hn := (h 0 (by omega)).noProvider hq
        have hr := (h 0 (by omega) hq).1
        rw [Nat.add_zero, State.maskedAddr_lt hq] at hn hr
        simp [State.dispatchRead, hn, hr]
      · rfl
    rw [State.physReadEach, h0]
    simp [ih (rest_of_range h)]

theorem physWriteEach_empty {s : State} {q n : Nat} (v : Quad) (h : ∀ i, i < n → s.EmptyByte (q + i)) :
    s.physWriteEach q n v = s := by
  induction n generalizing q v with
  | zero => rfl
  | succ n ih =>
    have h0 : (if q < 2 ^ 32 then s.dispatchWrite (BitVec.ofNat 32 q) 1 v else s) = s := by
      split
      · rename_i hq
        have hn := (h 0 (by omega)).noProvider hq
        have hr := (h 0 (by omega) hq).1
        rw [Nat.add_zero, State.maskedAddr_lt hq] at hn hr
        simp [State.dispatchWrite, hn, hr]
      · rfl
    rw [State.physWriteEach, h0]
    exact ih _ (rest_of_range h)

theorem getLsbD_lowMask64 {k : Nat} (hk : k ≤ 64) (i : Nat) :
    (BitVec.ofNat 64 (2 ^ k - 1)).getLsbD i = decide (i < k) := by
  rw [BitVec.getLsbD_ofNat, Nat.testBit_two_pow_sub_one]
  by_cases h : i < k
  · simp [h, show i < 64 by omega]
  · simp [h]

/-- An access of n bytes of RAM (R71): what a store there leaves, and what a load there reads. -/
theorem physWrite_ramBytes {s : State} {p : Word} {n : Nat} (v : Quad) (hn : 1 ≤ n) (hn8 : n ≤ 8)
    (h : ∀ i, i < n → s.RamByte (p.toNat + i)) (hw : s.mem.wf = true) :
    ∃ m : Memory, s.physWrite p n v = s.withMem m ∧
      (∀ a, (∀ i, i < n → a ≠ s.maskedAddr (p.toNat + i)) → m.read a = s.mem.read a) ∧
      ∀ i, i < n → m.read (s.maskedAddr (p.toNat + i)) = (v >>> (8 * i)).setWidth 8 := by
  rw [physWrite_each v hn (h 0 hn).noProvider]
  exact physWriteEach_ramBytes v hn8 h hw

theorem physRead_state {s : State} {p : Word} {n : Nat} (hn : 1 ≤ n) (h : ∀ i, i < n → s.RamByte (p.toNat + i)) :
    (s.physRead p n).2 = s := by
  rw [physRead_each hn (h 0 hn).noProvider]
  exact physReadEach_state h

theorem getLsbD_physRead {s : State} {p : Word} {n : Nat} (hn : 1 ≤ n) (h : ∀ i, i < n → s.RamByte (p.toNat + i)) {j : Nat}
    (hj : j < 64) :
    (s.physRead p n).1.getLsbD j =
      (decide (j < 8 * n) && (s.mem.read (s.maskedAddr (p.toNat + j / 8))).getLsbD (j % 8)) := by
  rw [physRead_each hn (h 0 hn).noProvider]
  exact getLsbD_physReadEach h hj

/-- A load of RAM whose bytes are those of a value is that value, cut to its width. -/
theorem physRead_of_bytes {s : State} {p : Word} {n : Nat} {v : Quad} (hn : 1 ≤ n) (hn8 : n ≤ 8)
    (h : ∀ i, i < n → s.RamByte (p.toNat + i))
    (hb : ∀ i, i < n → s.mem.read (s.maskedAddr (p.toNat + i)) = (v >>> (8 * i)).setWidth 8) :
    s.physRead p n = (v &&& BitVec.ofNat 64 (2 ^ (8 * n) - 1), s) := by
  refine Prod.ext (BitVec.eq_of_getLsbD_eq fun k hk => ?_) (physRead_state hn h)
  rw [BitVec.getLsbD_and, getLsbD_physRead hn h hk, getLsbD_lowMask64 (by omega)]
  by_cases h8 : k < 8 * n
  · rw [hb (k / 8) (by omega), BitVec.getLsbD_setWidth, BitVec.getLsbD_ushiftRight, show 8 * (k / 8) + k % 8 = k by omega]
    simp [h8, show k % 8 < 8 by omega]
  · simp [h8]

/-- A load reads back what a store to the same RAM wrote, cut to its width. -/
theorem physRead_physWrite {s : State} {p : Word} {n : Nat} (v : Quad) (hn : 1 ≤ n) (hn8 : n ≤ 8)
    (h : ∀ i, i < n → s.RamByte (p.toNat + i)) (hw : s.mem.wf = true) :
    (s.physWrite p n v).physRead p n = (v &&& BitVec.ofNat 64 (2 ^ (8 * n) - 1), s.physWrite p n v) := by
  obtain ⟨m, hm, -, hbytes⟩ := physWrite_ramBytes v hn hn8 h hw
  rw [hm]
  exact physRead_of_bytes hn hn8 (fun i hi => have ⟨x, y, z⟩ := h i hi; ⟨x, y, z⟩) hbytes

/-- Settles O27: an access of RAM, of nothing, or of bytes of any kind, each followed byte by byte. -/
theorem storeThenLoad : Obligations.StoreThenLoad := by
  refine ⟨fun s p => rfl, fun s p n v hn hn8 hw hp => ?_, fun s p n v a hw ha => ?_, fun s p n v hn h => ?_⟩
  · intro a hram
    have hr : ∀ i, i < n → s.RamByte (p.toNat + i) := fun i hi =>
      have hlt : p.toNat + i < 2 ^ 32 := by omega
      ⟨hlt, by rw [State.maskedAddr_lt hlt]; exact (hram i hi).1, by rw [State.maskedAddr_lt hlt]; exact (hram i hi).2⟩
    have ha : ∀ i, i < n → a i = s.maskedAddr (p.toNat + i) := fun i hi => (State.maskedAddr_lt (hr i hi).lt).symm
    refine ⟨fun i hi => ?_, ?_, physRead_state hn hr,
      congrArg Prod.fst (physRead_physWrite v hn hn8 hr hw), ?_⟩
    · apply BitVec.eq_of_getLsbD_eq
      intro k hk
      rw [BitVec.getLsbD_setWidth, BitVec.getLsbD_ushiftRight, getLsbD_physRead hn hr (by omega), ha i hi]
      simp [hk, show 8 * i + k < 8 * n by omega, show (8 * i + k) / 8 = i by omega, show (8 * i + k) % 8 = k by omega]
    · apply BitVec.eq_of_getLsbD_eq
      intro k hk
      rw [BitVec.getLsbD_and, getLsbD_physRead hn hr hk, getLsbD_lowMask64 (by omega)]
      cases decide (k < 8 * n) <;> simp
    · obtain ⟨m, hm, hother, hbytes⟩ := physWrite_ramBytes v hn hn8 hr hw
      rw [hm]
      refine ⟨fun i hi => ?_, fun b hb => hother b fun i hi => ?_, rfl⟩
      · rw [ha i hi]
        exact hbytes i hi
      · rw [← ha i hi]
        exact hb i hi
  · unfold State.physWrite
    split
    · exact read_physWriteEach_other hw ha
    · rename_i hs
      refine read_dispatchWrite_other hw fun hp i hi => ?_
      have := le_one_of_not_splits hs hp
      obtain rfl : i = 0 := by omega
      rw [← State.maskedAddr_toNat]
      exact ha 0 hi
  · have hn0 : s.provider (s.maskedAddr p.toNat) = none := State.EmptyByte.noProvider (h 0 (by omega)) p.isLt
    rw [physRead_each hn hn0, physWrite_each v hn hn0]
    exact ⟨physReadEach_empty h, physWriteEach_empty v h⟩

/-! ## A stack in plain RAM (spec/20_memory.md R91 to R93) -/

theorem State.PlainRam.ramByte {s : State} {b k q : Nat} (h : s.PlainRam b k) (hq : q < b + k) : s.RamByte q := by
  obtain ⟨-, hp, ha, hr, hw⟩ := h
  have hlt : q < 2 ^ 32 := by omega
  have hm : s.maskedAddr q = q := by
    rw [State.maskedAddr_lt hlt, State.maskA20, if_pos ha, BitVec.toNat_ofNat, Nat.mod_eq_of_lt hlt]
  refine ⟨hlt, ?_, by omega⟩
  unfold State.provider
  rw [hp]
  split <;> rfl

theorem State.spTrunc_toNat (s : State) (v : Word) : (s.spTrunc v).toNat = if s.sp32 then v.toNat else v.toNat % 2 ^ 16 := by
  unfold State.spTrunc
  split
  · rfl
  · rw [BitVec.toNat_and]
    exact Nat.and_two_pow_sub_one_eq_mod v.toNat 16

theorem State.spTrunc_of_le {s : State} {v : Word} (h : v.toNat ≤ s.sp.toNat) : s.spTrunc v = v := by
  apply BitVec.eq_of_toNat_eq
  rw [State.sp, State.spTrunc_toNat] at h
  rw [State.spTrunc_toNat]
  split <;> rename_i hs
  · rfl
  · rw [if_neg hs] at h
    omega

/-- k bytes below a stack pointer of at least k nothing wraps. -/
theorem State.spTrunc_sub {s : State} {k : Nat} (h : k ≤ s.sp.toNat) :
    s.spTrunc (s.sp - BitVec.ofNat 32 k) = s.sp - BitVec.ofNat 32 k ∧
      (s.sp - BitVec.ofNat 32 k).toNat = s.sp.toNat - k := by
  have hlt := s.sp.isLt
  have hk : (s.sp - BitVec.ofNat 32 k).toNat = s.sp.toNat - k := by
    rw [BitVec.toNat_sub_of_le (by rw [BitVec.le_def, BitVec.toNat_ofNat]; omega), BitVec.toNat_ofNat]
    omega
  exact ⟨State.spTrunc_of_le (by omega), hk⟩

/-- The width the stack pointer is written at (R92, R93). -/
def State.spSize (s : State) : Size := if s.sp32 then .d else .w

theorem State.spTrunc_eq_cut (s : State) (v : Word) : s.spTrunc v = cut s.spSize v := by
  unfold State.spTrunc State.spSize
  split <;> rfl

theorem merge_merge (sz : Size) (old v w : Word) : merge sz (merge sz old v) w = merge sz old w := by
  apply BitVec.eq_of_getLsbD_eq
  intro i _
  rw [getLsbD_merge, getLsbD_merge, getLsbD_merge]
  split <;> rfl

theorem merge_cut_self (sz : Size) (v : Word) : merge sz v (cut sz v) = v := by
  apply BitVec.eq_of_getLsbD_eq
  intro i _
  rw [getLsbD_merge, getLsbD_cut]
  split <;> simp_all

theorem Regs.set_set (x : Regs) (r : Reg) (v w : Word) : (x.set r v).set r w = x.set r w := by cases r <;> rfl

theorem Regs.set_get (x : Regs) (r : Reg) : x.set r (x.get r) = x := by cases r <;> rfl

theorem Regs.put_put (x : Regs) (sz : Size) (r : Reg) (v w : Word) : (x.put sz r v).put sz r w = x.put sz r w := by
  unfold Regs.put
  rw [Regs.get_set_same, merge_merge, Regs.set_set]

theorem Regs.put_view (x : Regs) (sz : Size) (r : Reg) : x.put sz r (x.view sz r) = x := by
  unfold Regs.put Regs.view
  rw [merge_cut_self, Regs.set_get]

end Sys2Proof.Machine

end

section

namespace Sys2Proof.Machine

/-! ## A push and a pop in a stack window (spec/20_memory.md R93, spec/45_data_flags_stack.md R286, R289) -/

/-- An access at the offset off of a stack window: allowed, and in plain RAM. -/
theorem State.StackWindow.access {s : State} {k off n : Nat} (h : s.StackWindow k) (hlow : s.sp.toNat ≤ off + k)
    (hhigh : off + n ≤ s.sp.toNat) (hn : 1 ≤ n) :
    (segAllows s.ss.cache false s.pe off n .write = true ∧ segAllows s.ss.cache false s.pe off n .read = true) ∧
      ∀ i, i < n → s.RamByte ((s.linAt .ss off).toNat + i) := by
  refine ⟨h.allowed off n hlow hhigh hn, fun i hi => h.ram.ramByte ?_⟩
  have hw := h.ram.noWrap
  have hl : (s.linAt .ss off).toNat = s.ss.cache.base.toNat + off := by
    rw [State.linAt, segLinear, BitVec.toNat_add, BitVec.toNat_ofNat]
    show (s.ss.cache.base.toNat + off % 2 ^ 32) % 2 ^ 32 = s.ss.cache.base.toNat + off
    omega
  omega

theorem State.spBelow_window {s : State} {k : Nat} (h : k ≤ s.sp.toNat) : s.spBelow k = s.sp.toNat - k := by
  obtain ⟨h1, h2⟩ := State.spTrunc_sub h
  rw [State.spBelow, h1, h2]

/-- The state after a push in a stack window: the stack pointer n bytes lower, other memory. -/
def State.pushed (s : State) (n : Nat) (m : Memory) : State :=
  { s with mem := m, regs := (s.setSp (s.sp - BitVec.ofNat 32 n)).regs, cycles := s.cycles + 1 }

theorem osize_bounds (o : OSize) : 1 ≤ o.bytes ∧ o.bytes ≤ 8 ∧ o.size.bits = 8 * o.bytes := by
  cases o <;> decide

theorem exec_pushRv_window {o : OSize} {s : State} (r : Reg) (h : s.StackWindow o.bytes) :
    ∃ m : Memory, exec (.pushRv o r) s = .next (s.pushed o.bytes m) ∧
      ∀ i, i < o.bytes → m.read (s.maskedAddr ((s.linAt .ss (s.sp.toNat - o.bytes)).toNat + i)) =
        (((s.regs.view o.size r).setWidth 64 : Quad) >>> (8 * i)).setWidth 8 := by
  obtain ⟨hn, hn8, -⟩ := osize_bounds o
  have hk := h.noWrap
  obtain ⟨⟨ha, -⟩, hram⟩ := h.access (off := s.sp.toNat - o.bytes) (n := o.bytes) (by omega) (by omega) hn
  obtain ⟨m, hm, -, hb⟩ := physWrite_ramBytes ((s.regs.view o.size r).setWidth 64) hn hn8 hram h.ram.canonical
  refine ⟨m, ?_, hb⟩
  have hw : memWrite .ss (s.spBelow o.bytes) o.bytes ((s.regs.view o.size r).setWidth 64) s = .ok () (s.withMem m) := by
    rw [State.spBelow_window hk, memWrite_apply, linWrite_off h.noPaging, hm]
    exact if_pos ha
  have hp := (M.bind_ok (readReg_apply _ _ s)).trans (push_apply hw)
  rw [(State.spTrunc_sub hk).1] at hp
  exact run_next (body := pushReg o r) hp

theorem State.sp_pushed {s : State} {n : Nat} {m : Memory} (h : n ≤ s.sp.toNat) :
    (s.pushed n m).sp = s.sp - BitVec.ofNat 32 n := by
  have hv : (s.pushed n m).sp = (s.setSp (s.sp - BitVec.ofNat 32 n)).regs.view s.spSize .esp := s.spTrunc_eq_cut _
  rw [hv]
  refine (Regs.view_put_same s.regs s.spSize .esp _).trans ?_
  rw [← State.spTrunc_eq_cut, (State.spTrunc_sub h).1]

/-- A pop after a push in a stack window finds the stack pointer where it was. -/
theorem State.setSp_pushed {s : State} {n : Nat} {m : Memory} (h : n ≤ s.sp.toNat) :
    ((s.pushed n m).setSp ((s.pushed n m).spTrunc ((s.pushed n m).sp + BitVec.ofNat 32 n))).regs = s.regs := by
  rw [State.sp_pushed h, BitVec.sub_add_cancel]
  refine (Regs.put_put s.regs s.spSize .esp _ _).trans ?_
  have hv : (s.pushed n m).spTrunc s.sp = s.regs.view s.spSize .esp := (State.spTrunc_of_le le_rfl).trans (s.spTrunc_eq_cut _)
  rw [hv, Regs.put_view]

theorem State.spAt_pushed {s : State} {n : Nat} {m : Memory} (h : n ≤ s.sp.toNat) :
    (s.pushed n m).spAt 0 = s.sp.toNat - n := by
  rw [State.spAt, BitVec.add_zero, State.spTrunc_of_le le_rfl, State.sp_pushed h]
  exact (State.spTrunc_sub h).2

/-- A view of a register is as wide as its slot on the stack. -/
theorem setWidth_view_slot (o : OSize) (x : Regs) (r : Reg) :
    ((x.view o.size r).setWidth 64 &&& BitVec.ofNat 64 (2 ^ (8 * o.bytes) - 1) : Quad).setWidth 32 = x.view o.size r := by
  obtain ⟨-, hn8, hbits⟩ := osize_bounds o
  apply BitVec.eq_of_getLsbD_eq
  intro i hi
  rw [BitVec.getLsbD_setWidth, BitVec.getLsbD_and, BitVec.getLsbD_setWidth, getLsbD_lowMask64 (by omega), Regs.view,
    getLsbD_cut, hbits]
  by_cases h : i < 8 * o.bytes <;> simp [h, hi, show i < 64 by omega]

theorem cut_view (x : Regs) (sz : Size) (r : Reg) : cut sz (x.view sz r) = x.view sz r := by
  apply BitVec.eq_of_getLsbD_eq
  intro i _
  rw [Regs.view, getLsbD_cut, getLsbD_cut, ← Bool.and_assoc, Bool.and_self]

/-- The slot of a push in a stack window holds its value. -/
theorem peek_pushed {o : OSize} {r : Reg} {s : State} {m : Memory} (h : s.StackWindow o.bytes)
    (hb : ∀ i, i < o.bytes → m.read (s.maskedAddr ((s.linAt .ss (s.sp.toNat - o.bytes)).toNat + i)) =
      (((s.regs.view o.size r).setWidth 64 : Quad) >>> (8 * i)).setWidth 8) :
    peek o 0 (s.pushed o.bytes m) = .ok (s.regs.view o.size r) (s.pushed o.bytes m) := by
  obtain ⟨hn, hn8, -⟩ := osize_bounds o
  have hk := h.noWrap
  obtain ⟨⟨-, ha⟩, hram⟩ := h.access (off := s.sp.toNat - o.bytes) (n := o.bytes) (by omega) (by omega) hn
  have hp := physRead_of_bytes (s := s.pushed o.bytes m) hn hn8 (fun i hi => have ⟨x, y, z⟩ := hram i hi; ⟨x, y, z⟩) hb
  have hl := linRead_off (s := s.pushed o.bytes m) h.noPaging (s.linAt .ss (s.sp.toNat - o.bytes)) o.bytes (accAt .read s.cpl)
  rw [hp] at hl
  have hr := (memRead_apply .ss (s.sp.toNat - o.bytes) o.bytes (s.pushed o.bytes m)).trans ((if_pos ha).trans hl)
  rw [peek, getS_bind, State.spAt_pushed hk, M.bind_ok hr]
  exact congrArg (EStateM.Result.ok · _) (setWidth_view_slot o s.regs r)

/-- Settles O29: the pop reads the bytes the push stored, and the stack pointer is back where it was. -/
theorem pushThenPopCopies : Obligations.PushThenPopCopies := by
  intro o r q s h _
  obtain ⟨m, hpush, hb⟩ := exec_pushRv_window r h
  have hpop := popReg_apply (peek_pushed h hb) q
  rw [State.setSp_pushed h.noWrap] at hpop
  refine ⟨_, _, hpush, run_next (body := popReg o q) hpop, ?_, fun x hx => Regs.get_put_other _ _ _ hx, rfl⟩
  exact (Regs.view_put_same _ _ _ _).trans (cut_view _ _ _)

end Sys2Proof.Machine

end

section

namespace Sys2Proof.Machine

/-! ## Ports (spec/20_memory.md R113, R114) -/

theorem checkPorts_next (bitmap : Word) (q n : Nat) (s : State) :
    checkPorts bitmap q (n + 1) s =
      if s.tr.limit.toNat < bitmap.toNat + q / 8 then .error (.exc (Exc.gp 0)) s
      else
        (sysRead (s.tr.base + BitVec.ofNat 32 (bitmap.toNat + q / 8)) 1 >>= fun b =>
          raiseIf (b.getLsbD (q % 8) = true) (Exc.gp 0) >>= fun _ => checkPorts bitmap (q + 1) n) s := by
  rw [checkPorts, getS_bind, raiseIf_bind]

theorem quiet_checkPorts (bitmap : Word) (q n : Nat) : Quiet (checkPorts bitmap q n) := by
  induction n generalizing q with
  | zero => exact Quiet.pure ()
  | succ n ih =>
    exact Quiet.bind Quiet.getS fun _ => Quiet.bind (Quiet.raiseIf _ _) fun _ => Quiet.bind (quiet_linRead _ _ _) fun _ =>
      Quiet.bind (Quiet.raiseIf _ _) fun _ => ih _

theorem quiet_checkPort (port : Half) (n : Nat) : Quiet (checkPort port n) :=
  Quiet.bind Quiet.getS fun _ => Quiet.ite (Quiet.bind (Quiet.raiseIf _ _) fun _ => Quiet.bind (quiet_linRead _ _ _) fun _ =>
    quiet_checkPorts _ _ _) (Quiet.pure ())

theorem checkPort_free {s : State} (h : s.pe = false ∨ s.cpl.toNat ≤ s.flags.iopl.toNat) (port : Half) (n : Nat) :
    checkPort port n s = .ok () s := by
  have hg : ¬s.portsGuarded = true := by
    rcases h with h | h <;> simp [State.portsGuarded, h]
  rw [checkPort, getS_bind, if_neg hg]
  rfl

/-- With CPL above IOPL a 16-bit TSS denies, and a 32-bit one has a bitmap (R114). -/
theorem checkPort_guarded {s : State} (hp : s.pe = true) (hi : s.flags.iopl.toNat < s.cpl.toNat) (port : Half) (n : Nat) :
    checkPort port n s =
      if s.tr.is32 = false then .error (.exc (Exc.gp 0)) s
      else (sysRead (s.tr.base + 0x66) 2 >>= fun b => checkPorts (b.setWidth 32) port.toNat n) s := by
  rw [checkPort, getS_bind, if_pos (by simp [State.portsGuarded, hp, hi]), raiseIf_bind]

theorem portIn_apply {sz : Size} {port : Half} {s s1 : State} (h : checkPort port sz.bytes s = .ok () s1) :
    portIn sz port s =
      .ok () ((s1.logPort port (.portRead port sz.bytes)).putReg sz .eax (s1.portValue sz port)) := by
  rw [portIn, M.bind_ok (a := s1.portValue sz port) (s' := s1.logPort port (.portRead port sz.bytes))]
  · rfl
  · rw [ioRead, M.bind_ok h]
    rfl

theorem portOut_apply {sz : Size} {port : Half} {s s1 : State} (h : checkPort port sz.bytes s = .ok () s1) :
    portOut sz port s = .ok () (s1.logPort port (.portWrite port sz.bytes (s.regs.view sz .eax))) := by
  rw [portOut, M.bind_ok (readReg_apply _ _ s), ioWrite, M.bind_ok h]
  rfl

/-- An access that is denied raises what the check raises, input or output. -/
theorem exec_portForm_takes {i : Instr} {inp : Bool} {sz : Size} {port : State → Half} {e : Exc} {s s1 : State}
    (hi : portForm i = some (inp, sz, port)) (h : checkPort (port s) sz.bytes s = .error (.exc e) s1) :
    exec i s = takeException e s s1 := by
  rw [exec_portForm s hi]
  refine run_takes ?_
  cases inp with
  | true => exact M.bind_error (m := ioRead sz (port s)) (M.bind_error h)
  | false => exact (M.bind_ok (readReg_apply _ _ s)).trans (M.bind_error h)

theorem merge_cut (sz : Size) (old v : Word) : merge sz old (cut sz v) = merge sz old v := by
  apply BitVec.eq_of_getLsbD_eq
  intro i _
  rw [getLsbD_merge, getLsbD_merge, getLsbD_cut]
  split <;> simp_all

theorem Regs.put_cut (x : Regs) (sz : Size) (r : Reg) (v : Word) : x.put sz r (cut sz v) = x.put sz r v := by
  rw [Regs.put, merge_cut, Regs.put]

/-! ## The bitmap in plain memory (spec/20_memory.md R114) -/

theorem provider_none {s : State} (h : s.params.providers = []) (a : Nat) : s.provider a = none := by
  unfold State.provider
  rw [h]
  split <;> rfl

theorem dispatchRead_noProviders {s : State} (h : s.params.providers = []) (p : Word) (n : Nat) :
    s.dispatchRead p n = (if (s.maskA20 p).toNat < s.params.ramSize then s.mem.readBytes (s.maskA20 p).toNat n else 0, s) := by
  simp only [State.dispatchRead, provider_none h]

theorem physReadEach_noProviders {s : State} (h : s.params.providers = []) (q n : Nat) :
    (s.physReadEach q n).2 = s ∧ ∀ j, 8 * n ≤ j → (s.physReadEach q n).1.getLsbD j = false := by
  induction n generalizing q with
  | zero => exact ⟨rfl, fun j _ => by simp [State.physReadEach]⟩
  | succ n ih =>
    obtain ⟨v, hv, h8⟩ : ∃ v : Quad, (if q < 2 ^ 32 then s.dispatchRead (BitVec.ofNat 32 q) 1 else (0, s)) = (v, s) ∧
        ∀ j, 8 ≤ j → v.getLsbD j = false := by
      rw [dispatchRead_noProviders h]
      split
      · refine ⟨_, rfl, fun j hj => ?_⟩
        split
        · simp [Memory.readBytes, BitVec.getLsbD_of_ge _ j hj]
        · simp
      · exact ⟨0, rfl, fun j _ => by simp⟩
    rw [State.physReadEach, hv]
    refine ⟨(ih (q + 1)).1, fun j hj => ?_⟩
    dsimp only
    rw [BitVec.getLsbD_or, h8 j (by omega), BitVec.getLsbD_shiftLeft, (ih (q + 1)).2 (j - 8) (by omega)]
    simp

/-- Without providers a read changes nothing. -/
theorem physRead_noProviders {s : State} (h : s.params.providers = []) (p : Word) {n : Nat} (hn : 1 ≤ n) :
    (s.physRead p n).2 = s ∧ ∀ j, 8 * n ≤ j → (s.physRead p n).1.getLsbD j = false := by
  rw [physRead_each hn (provider_none h _)]
  exact physReadEach_noProviders h _ n

theorem sysRead_plain {s : State} (hp : s.pg = false) (h : s.params.providers = []) (l : Word) {n : Nat} (hn : 1 ≤ n) :
    sysRead l n s = .ok (s.physRead l n).1 s :=
  (linRead_off hp l n _).trans (by rw [(physRead_noProviders h l hn).1])

theorem toNat_setWidth_of_high {x : Quad} (h : ∀ j, 32 ≤ j → x.getLsbD j = false) : (x.setWidth 32).toNat = x.toNat := by
  have e : (x.setWidth 32).setWidth 64 = x := by
    apply BitVec.eq_of_getLsbD_eq
    intro j hj
    by_cases h32 : j < 32
    · simp [hj, h32]
    · simp [h j (by omega), h32]
  have hn := congrArg BitVec.toNat e
  rw [BitVec.toNat_setWidth] at hn ⊢
  omega

/-- The bitmap at the offset m of the TSS denies the port q: its bit is beyond TR.limit, or set. -/
def State.PortDenied (s : State) (m q : Nat) : Prop :=
  s.tr.limit.toNat < m + q / 8 ∨ (s.physRead (s.tr.base + BitVec.ofNat 32 (m + q / 8)) 1).1.getLsbD (q % 8) = true

/-- The first denied port of an access decides; an access with none passes. -/
theorem checkPorts_plain {s : State} (hp : s.pg = false) (h : s.params.providers = []) (bitmap : Word) (q n : Nat) :
    ((∃ k, k < n ∧ s.PortDenied bitmap.toNat (q + k)) → checkPorts bitmap q n s = .error (.exc (Exc.gp 0)) s) ∧
    ((∀ k, k < n → ¬s.PortDenied bitmap.toNat (q + k)) → checkPorts bitmap q n s = .ok () s) := by
  induction n generalizing q with
  | zero => exact ⟨fun ⟨k, hk, _⟩ => by omega, fun _ => rfl⟩
  | succ n ih =>
    by_cases h0 : s.PortDenied bitmap.toNat q
    · refine ⟨fun _ => ?_, fun hall => absurd h0 (hall 0 (by omega))⟩
      rw [checkPorts_next]
      split
      · rfl
      · rename_i hl
        rw [M.bind_ok (sysRead_plain hp h _ le_rfl), raiseIf_bind, if_pos (h0.resolve_left hl)]
    · obtain ⟨hl, hb⟩ := not_or.mp h0
      have hs : ∀ k, q + (k + 1) = q + 1 + k := fun k => by omega
      rw [checkPorts_next, if_neg hl, M.bind_ok (sysRead_plain hp h _ le_rfl), raiseIf_bind, if_neg hb]
      refine ⟨fun ⟨k, hk, hd⟩ => (ih (q + 1)).1 ?_, fun hall => (ih (q + 1)).2 fun k hk => ?_⟩
      · cases k with
        | zero => exact absurd hd h0
        | succ k => exact ⟨k, by omega, hs k ▸ hd⟩
      · exact hs k ▸ hall (k + 1) (by omega)

/-- Settles O59: an access is the check, then what the device sees; the check goes port by port through the bitmap. -/
theorem portForms : Obligations.PortForms := by
  refine ⟨fun i inp sz port s s1 hi hc => ?_, fun s port n h => checkPort_free h port n,
    fun i inp sz port s hi hp hl ht => ?_, fun i inp sz port e s s1 hi h => exec_portForm_takes hi h,
    fun s port n hp hl ht => ?_, fun s bitmap q n => ⟨rfl, fun hl => ?_, fun hl => ⟨fun b s1 hr => ?_, fun x s1 hr => ?_⟩⟩,
    fun s port n hp hl ht hg hv => ?_⟩
  · have hq := quiet_checkPort _ _ _ _ _ hc
    have hclaim : s1.claimed (port s) = s.params.ports.contains (port s) := by rw [hq]; rfl
    have hcy : s1.cycles = s.cycles := by rw [hq]
    rw [exec_portForm s hi]
    refine ⟨fun hn => ⟨?_, ?_⟩, fun hn => ⟨?_, ?_⟩⟩ <;> rintro rfl
    all_goals rw [hn] at hclaim
    · refine (run_next (portIn_apply hc)).trans ?_
      simp only [State.logPort, State.portValue, hclaim, Bool.false_eq_true, if_false, State.putReg_eq, Regs.put_cut]
      rw [State.count, ← hcy]
      rfl
    · refine (run_next (portOut_apply hc)).trans ?_
      simp only [State.logPort, hclaim, Bool.false_eq_true, if_false]
      rw [State.count, hcy]
    · refine (run_next (portIn_apply hc)).trans ?_
      simp only [State.logPort, State.portValue, hclaim, if_true, State.putReg_eq, Regs.put_cut]
      rw [State.count, ← hcy]
      rfl
    · refine (run_next (portOut_apply hc)).trans ?_
      simp only [State.logPort, hclaim, if_true]
      rw [State.count, ← hcy]
      rfl
  · exact exec_portForm_takes hi ((checkPort_guarded hp hl _ _).trans (if_pos ht))
  · rw [checkPort_guarded hp hl, if_neg (ne_false_of_eq_true ht)]
    exact ⟨fun b s1 hr => M.bind_ok hr, fun x s1 hr => M.bind_error hr⟩
  · rw [checkPorts_next, if_pos hl]
  · rw [checkPorts_next, if_neg (by omega), M.bind_ok hr, raiseIf_bind]
  · rw [checkPorts_next, if_neg (by omega), M.bind_error hr]
  · intro off denied
    have hb : ((s.physRead (s.tr.base + 0x66) 2).1.setWidth 32).toNat = (s.physRead (s.tr.base + 0x66) 2).1.toNat :=
      toNat_setWidth_of_high fun j hj => (physRead_noProviders hv _ (by omega)).2 j (by omega)
    have h := checkPorts_plain hg hv ((s.physRead (s.tr.base + 0x66) 2).1.setWidth 32) port.toNat n
    rw [checkPort_guarded hp hl, if_neg (ne_false_of_eq_true ht), M.bind_ok (sysRead_plain hg hv _ (by omega))]
    rw [hb] at h
    exact h

end Sys2Proof.Machine

end

section

namespace Sys2Proof.Machine

/-! ## Moving the stack pointer and entering CS and SS -/

/-- The general registers, SS and the mode are the same, so that stack operations find the same stack. -/
def State.sameStack (s t : State) : Prop := t.regs = s.regs ∧ t.ss = s.ss ∧ t.cr0 = s.cr0

theorem State.sameButMemory.sameStack {s t : State} (h : s.sameButMemory t) : s.sameStack t := by
  rw [h]
  exact ⟨rfl, rfl, rfl⟩

theorem State.sameStack.trans {s t u : State} (h : s.sameStack t) (k : t.sameStack u) : s.sameStack u :=
  ⟨k.1.trans h.1, k.2.1.trans h.2.1, k.2.2.trans h.2.2⟩

theorem sameStack_selectorAt {o : OSize} {sel : Half} {w : Word} {s t : State} (h : selectorAt o sel s = .ok w t) :
    s.sameStack t := by
  rw [(selectorAt_apply h).2]
  exact ⟨rfl, rfl, rfl⟩

theorem moveSp_down {s t : State} (h : s.sameStack t) (k : Nat) :
    moveSp (-(BitVec.ofNat 32 k)) t =
      .ok () { t with regs := (s.setSp (s.spTrunc (s.sp - BitVec.ofNat 32 k))).regs } := by
  obtain ⟨hr, hs, hc⟩ := h
  rw [moveSp, modS_apply, BitVec.sub_eq_add_neg]
  simp only [State.setSp, State.spTrunc, State.sp, State.sp32, State.pe, State.putReg_eq, State.withRegs, hr, hs, hc]
  rfl

/-- The commit of a stack switch ends where the accessed bit of its descriptor has been seen to. -/
theorem enterStack_marked {nss : Half} {ds : Quad} {esp : Word} {s t : State}
    (hm : State.Marked { s with ss := { selector := nss, cache := cacheOf ds true (selRPL nss) } } nss ds t) :
    enterStack nss ds esp s = .ok () { t with regs := s.regs.set .esp esp } := by
  rw [enterStack, M.bind_ok (snapshot_marked (g := .ss) hm rfl rfl), hm.same]
  rfl

/-! ## The stack of an inner level (spec/60_exceptions.md R423) -/

/-- The RPL of the selector of a validated stack is its level. -/
theorem returns_innerStack (n : BitVec 2) : Returns (fun r => selRPL r.1 = n) (innerStack n) :=
  .bind fun _ => .bind fun _ => .bind fun _ => .bind fun _ => .bind fun _ => .bind fun _ => .check fun h => .bind fun _ =>
    .pure (not_not.mp (not_or.mp h).1)

/-- The first value of a push on a stack that is not yet SS. -/
theorem stageVia_next (e : Exc) (c : SegCache) (n : BitVec 2) (nesp : Word) (o : OSize) (k : Nat) (v : Word) (vs : List Word)
    (s : State) :
    stageVia e c n nesp o k (v :: vs) s =
      if segAllows c false s.pe (newStackOff c nesp (k + o.bytes)) o.bytes .write then
        (linWrite (segLinear c (newStackOff c nesp (k + o.bytes))) o.bytes (v.setWidth 64) (accAt .write n) >>= fun _ =>
          stageVia e c n nesp o (k + o.bytes) vs) s
      else .error (.exc e) s := by
  rw [stageVia, M.bind_apply, memWriteVia_apply]
  cases segAllows c false s.pe (newStackOff c nesp (k + o.bytes)) o.bytes .write
  · rfl
  · rw [if_pos rfl, if_pos rfl, M.bind_apply]

/-! ## Through an interrupt or trap gate (spec/60_exceptions.md R421 to R424) -/

theorem isIdtGate_of_kind {g : Quad} (h : descS g = false ∧ descType g ∈ [6, 7, 14, 15]) : isIdtGate g = true := by
  obtain ⟨hs, ht⟩ := h
  simp only [List.mem_cons, List.not_mem_nil, or_false] at ht
  rcases ht with ht | ht | ht | ht <;> simp [isIdtGate, hs, ht]

/-- Where every check passes, the delivery is that of the gate's target, at the privilege the event found. -/
theorem deliverProtected_opens {v : Byte} {src : Src} {err : Option Half} {ret : Word} {g d : Quad} {s t : State}
    (h : s.GateOpens v src g d t) :
    deliverProtected v src err ret (s.deliverOn true (classOf v src)) =
      (if descConforming d = false ∧ (descDPL d).toNat < s.cpl.toNat then
        innerDelivery g (gateSelector g) d (gateOffset g) (gateSize g) err ret
      else sameDelivery g (gateSelector g) d (gateOffset g) (gateSize g) err ret) t := by
  obtain ⟨-, hin, ⟨s1, hr1, hr2⟩, hk, hpriv, ⟨hpg, hpd⟩, hsel, ⟨hS, hC, hD⟩, hoff⟩ := h
  have hq1 := quiet_linRead _ _ _ _ _ _ hr1
  have hcpl : t.cpl = s.cpl := by rw [quiet_descRead _ _ _ _ _ hr2, hq1]; rfl
  have h5 : descType g ≠ 5 := fun h5 => by simp [h5] at hk
  rw [deliverProtected, getS_bind, show (s.deliverOn true (classOf v src)).idtr = s.idtr from rfl,
    show (s.deliverOn true (classOf v src)).cpl = s.cpl from rfl, raiseIf_bind, if_neg (not_lt.mpr hin), M.bind_ok hr1,
    raiseIf_bind, if_neg (by simp [isIdtGate_of_kind hk]), raiseIf_bind, if_neg fun hc => absurd (hpriv hc.1) (not_le.mpr hc.2),
    raiseIf_bind, if_neg (by simp [hpg]), if_neg h5, gateDelivery, raiseIf_bind, if_neg hsel]
  rw [show vGP = 13 from rfl, M.bind_ok hr2, getS_bind, raiseIf_bind, hcpl,
    if_neg (by simp [hS, hC, hD]), raiseIf_bind, if_neg (by simp [hpd]), raiseIf_bind, if_neg (not_lt.mpr hoff)]
  by_cases hi : descConforming d = false ∧ (descDPL d).toNat < s.cpl.toNat
  · rw [if_pos hi, if_pos (by simp [hi])]
  · rw [if_neg hi, if_neg (by simpa using hi)]

/-- The state a gate has been opened in differs from the one the event found in the delivery path's state too. -/
theorem State.GateOpens.same {v : Byte} {src : Src} {g d : Quad} {s t : State} (h : s.GateOpens v src g d t) :
    (s.deliverOn true (classOf v src)).sameButMemory t := by
  obtain ⟨s1, hr1, hr2⟩ := h.reads
  exact sameButMemory_trans (quiet_linRead _ _ _ _ _ _ hr1) (quiet_descRead _ _ _ _ _ hr2)

theorem sameDelivery_apply {g d : Quad} {tsel : Half} {off ret w : Word} {o : OSize} {err : Option Half}
    {s s2 s3 s4 : State} (hw : selectorAt o s.cs.selector s = .ok w s2)
    (hs : stage o 0 ([s.flags.image, w, ret] ++ errWords err) s2 = .ok () s3)
    (hm : State.Marked
      { s3 with
        regs := (s.setSp (s.spTrunc (s.sp -
          BitVec.ofNat 32 (([s.flags.image, w, ret] ++ errWords err : List Word).length * o.bytes)))).regs
        cs := { selector := withRPL tsel s.cpl, cache := cacheOf d false s.cpl } } tsel d s4) :
    sameDelivery g tsel d off o err ret s = .ok () { s4 with eip := off, flags := entryFlags g s.flags } := by
  have hf : s4.flags = s.flags := by rw [hm.same, quiet_stage _ _ _ _ _ _ hs, (selectorAt_apply hw).2]
  rw [sameDelivery, getS_bind, M.bind_ok hw, M.bind_ok hs,
    M.bind_ok (moveSp_down ((sameStack_selectorAt hw).trans (quiet_stage _ _ _ _ _ _ hs).sameStack) _),
    M.bind_ok (enterCs_marked hm), ← hf]
  rfl

/-- A delivery whose steps through the gate's target complete. -/
theorem State.GateOpens.delivers {v : Byte} {src : Src} {err : Option Half} {ret : Word} {g d : Quad} {s t u : State}
    (h : s.GateOpens v src g d t)
    (hu : deliverProtected v src err ret (s.deliverOn true (classOf v src)) = .ok () u) :
    s.Delivers v src err ret (u.deliverOn false (classOf v src)) :=
  .of_deliver <| by rw [deliver_protected h.protectedMode, hu]

/-- A delivery whose steps through the gate's target raise, with EXT for an external interrupt only. -/
theorem State.GateOpens.raises {v : Byte} {src : Src} {err : Option Half} {ret : Word} {e : Exc} {g d : Quad} {s t u : State}
    (h : s.GateOpens v src g d t)
    (hu : deliverProtected v src err ret (s.deliverOn true (classOf v src)) = .error (.exc e) u) :
    s.DeliveryRaises v src err ret (if src = .external then e.withExt else e) u :=
  .of_deliver <| by
    rw [deliver_protected h.protectedMode, hu]
    by_cases hx : src = .external
    · simp only [if_pos hx, Abort.withExt]
    · simp only [if_neg hx]

/-- Settles O21: the pushes, the entry of CS and the flags, from the state the gate's reads leave. -/
theorem sameLevelDelivery : Obligations.SameLevelDelivery := by
  intro v src err ret w g d s s1 s2 s3 s4 h hl o hw vs hs hm
  have hi : ¬(descConforming d = false ∧ (descDPL d).toNat < s.cpl.toNat) := by
    rcases hl with hc | hc <;> simp [hc]
  have hd := deliverProtected_opens (err := err) (ret := ret) h
  rw [if_neg hi] at hd
  obtain ⟨m, ev, rfl⟩ : ∃ m ev, s1 = { s.deliverOn true (classOf v src) with mem := m, events := ev } := ⟨_, _, h.same⟩
  exact ⟨(selectorAt_apply hw).1, h.delivers (hd.trans (sameDelivery_apply hw hs hm))⟩

/-- The width of the fields of a stack in the current TSS. -/
def State.stackWidth (s : State) : Nat := if s.tr.is32 then 4 else 2

/-- The offset of the stack of level n in the current TSS. -/
def State.stackField (s : State) (n : BitVec 2) : Nat := if s.tr.is32 then 4 + 8 * n.toNat else 2 + 4 * n.toNat

/-- The limit test of the TSS, then the stack's two fields, then the rest (R423). -/
theorem innerStack_apply (n : BitVec 2) (s : State) :
    innerStack n s =
      if s.tr.limit.toNat < s.stackField n + s.stackWidth + 1 then .error (.exc (Exc.ts (selCode s.tr.selector))) s
      else
        (sysRead (s.tr.base + BitVec.ofNat 32 (s.stackField n)) s.stackWidth >>= fun nesp =>
          sysRead (s.tr.base + BitVec.ofNat 32 (s.stackField n + s.stackWidth)) 2 >>= fun nssQ =>
            raiseIf (selIndex (nssQ.setWidth 16) = 0) (Exc.ts 0) >>= fun _ =>
              descRead (nssQ.setWidth 16) 10 >>= fun ds =>
                raiseIf (selRPL (nssQ.setWidth 16) ≠ n ∨ isWritableData ds = false ∨ descDPL ds ≠ n)
                  (Exc.ts (selCode (nssQ.setWidth 16))) >>= fun _ =>
                  raiseIf (descP ds = false) (Exc.ss (selCode (nssQ.setWidth 16))) >>= fun _ =>
                    pure (nssQ.setWidth 16, nesp.setWidth 32, ds)) s := by
  rw [innerStack, getS_bind, raiseIf_bind]
  rfl

/-- The tests of a stack read from the TSS, its selector in the segment it names (R423). -/
theorem innerStack_tests {n : BitVec 2} {nesp nssQ ds : Quad} {s s1 s2 s3 : State}
    (hl : s.stackField n + s.stackWidth + 1 ≤ s.tr.limit.toNat)
    (h1 : sysRead (s.tr.base + BitVec.ofNat 32 (s.stackField n)) s.stackWidth s = .ok nesp s1)
    (h2 : sysRead (s.tr.base + BitVec.ofNat 32 (s.stackField n + s.stackWidth)) 2 s1 = .ok nssQ s2)
    (h0 : selIndex (nssQ.setWidth 16) ≠ 0) (hd : descRead (nssQ.setWidth 16) 10 s2 = .ok ds s3) :
    innerStack n s =
      checked
        [(decide (selRPL (nssQ.setWidth 16) ≠ n) || !descS ds || descCode ds || !descWritable ds || decide (descDPL ds ≠ n),
          Exc.ts (selCode (nssQ.setWidth 16))),
         (!descP ds, Exc.ss (selCode (nssQ.setWidth 16)))] (nssQ.setWidth 16, nesp.setWidth 32, ds) s3 := by
  rw [innerStack_apply, if_neg (not_lt.mpr hl), M.bind_ok h1, M.bind_ok h2, raiseIf_bind, if_neg h0, M.bind_ok hd,
    checked_eq_bind]
  refine raiseIf_tests ?_ fun _ => raiseIf_tests (by simp) fun _ => rfl
  rw [Bool.decide_or, Bool.decide_or, decide_notWritableData]
  simp [Bool.or_assoc]

/-- A delivery to an inner level, from the stack it validated to its last step. -/
theorem innerDelivery_apply {g d ds : Quad} {tsel nss : Half} {off ret nesp ss cs : Word} {o : OSize} {err : Option Half}
    {s s2 s3 s4 s5 s6 s7 : State} (hi : innerStack (descDPL d) s = .ok (nss, nesp, ds) s2)
    (hss : selectorAt o s.ss.selector s2 = .ok ss s3) (hcs : selectorAt o s.cs.selector s3 = .ok cs s4)
    (hs : stageVia (Exc.ss (selCode nss)) (cacheOf ds true (descDPL d)) (descDPL d) nesp o 0
      ([ss, s.regs.esp, s.flags.image, cs, ret] ++ errWords err) s4 = .ok () s5)
    (hm : State.Marked { s5 with ss := { selector := nss, cache := cacheOf ds true (descDPL d) } } nss ds s6)
    (hc : State.Marked
      { s6 with
        regs := s.regs.set .esp
          (newEsp (cacheOf ds true (descDPL d)) s.regs.esp nesp
            (([ss, s.regs.esp, s.flags.image, cs, ret] ++ errWords err : List Word).length * o.bytes))
        cs := { selector := withRPL tsel (descDPL d), cache := cacheOf d false (descDPL d) } } tsel d s7) :
    innerDelivery g tsel d off o err ret s = .ok () { s7 with eip := off, flags := entryFlags g s.flags } := by
  have hrpl : selRPL nss = descDPL d := returns_innerStack _ _ _ _ hi
  obtain ⟨m, ev, rfl⟩ : ∃ m ev, s2 = { s with mem := m, events := ev } := ⟨_, _, quiet_innerStack _ _ _ _ hi⟩
  have h5 : s5.regs = s.regs ∧ s5.flags = s.flags := by
    rw [quiet_stageVia _ _ _ _ _ _ _ _ _ _ hs, (selectorAt_apply hcs).2, (selectorAt_apply hss).2]
    exact ⟨rfl, rfl⟩
  have h7 : s7.flags = s.flags := by rw [hc.same, hm.same]; exact h5.2
  rw [innerDelivery, M.bind_ok hi, getS_bind, M.bind_ok hss, M.bind_ok hcs, hrpl, M.bind_ok hs,
    M.bind_ok (enterStack_marked (by rw [hrpl]; exact hm)), h5.1, M.bind_ok (enterCs_marked hc), ← h7]
  rfl

/-- What validating the inner stack, or a push on it, raises is what the delivery to that level raises. -/
theorem innerDelivery_stackRaises {g d : Quad} {tsel : Half} {off ret : Word} {o : OSize} {err : Option Half} {x : Abort}
    {s t : State} (hi : innerStack (descDPL d) s = .error x t) : innerDelivery g tsel d off o err ret s = .error x t := by
  rw [innerDelivery, M.bind_error hi]

theorem innerDelivery_pushRaises {g d ds : Quad} {tsel nss : Half} {off ret nesp ss cs : Word} {o : OSize}
    {err : Option Half} {x : Abort} {s s2 s3 s4 s5 : State} (hi : innerStack (descDPL d) s = .ok (nss, nesp, ds) s2)
    (hss : selectorAt o s.ss.selector s2 = .ok ss s3) (hcs : selectorAt o s.cs.selector s3 = .ok cs s4)
    (hs : stageVia (Exc.ss (selCode nss)) (cacheOf ds true (descDPL d)) (descDPL d) nesp o 0
      ([ss, s.regs.esp, s.flags.image, cs, ret] ++ errWords err) s4 = .error x s5) :
    innerDelivery g tsel d off o err ret s = .error x s5 := by
  have hrpl : selRPL nss = descDPL d := returns_innerStack _ _ _ _ hi
  obtain ⟨m, ev, rfl⟩ : ∃ m ev, s2 = { s with mem := m, events := ev } := ⟨_, _, quiet_innerStack _ _ _ _ hi⟩
  rw [innerDelivery, M.bind_ok hi, getS_bind, M.bind_ok hss, M.bind_ok hcs, hrpl, M.bind_error hs]

/-- Settles O22: the inner stack's tests in order, a push on it value by value, then the delivery's steps. -/
theorem innerLevelDelivery : Obligations.InnerLevelDelivery := by
  refine ⟨fun n s => ?_, fun e c n nesp o k v vs s => ⟨fun h => ?_, fun h => ⟨fun x t hw => ?_, fun t hw => ?_⟩⟩,
    fun v src err ret g d s s1 h hc hl => ?_, fun v src err ret nesp ss cs nss g d ds s s1 s2 s3 s4 s5 s6 s7 h hc hl => ?_⟩
  · have hn (hl : s.stackField n + s.stackWidth + 1 ≤ s.tr.limit.toNat) :=
      (innerStack_apply n s).trans (if_neg (not_lt.mpr hl))
    exact ⟨fun hl => (innerStack_apply n s).trans (if_pos hl), fun e s1 hl h1 => (hn hl).trans (M.bind_error h1),
      fun nesp e s1 s2 hl h1 h2 => (hn hl).trans ((M.bind_ok h1).trans (M.bind_error h2)), fun nesp nssQ s1 s2 hl h1 h2 =>
        ⟨fun h0 => (hn hl).trans ((M.bind_ok h1).trans ((M.bind_ok h2).trans ((raiseIf_bind ..).trans (if_pos h0)))),
          fun e s3 h0 hd => (hn hl).trans ((M.bind_ok h1).trans ((M.bind_ok h2).trans
            ((raiseIf_bind ..).trans ((if_neg h0).trans (M.bind_error hd))))),
          fun ds s3 h0 hd => innerStack_tests hl h1 h2 h0 hd⟩⟩
  · exact (stageVia_next ..).trans (if_neg (Bool.eq_false_iff.mp h))
  · exact (stageVia_next ..).trans ((if_pos h).trans (M.bind_error hw))
  · exact (stageVia_next ..).trans ((if_pos h).trans (M.bind_ok hw))
  · have hd := deliverProtected_opens (err := err) (ret := ret) h
    rw [if_pos ⟨hc, hl⟩] at hd
    obtain ⟨m, ev, rfl⟩ : ∃ m ev, s1 = { s.deliverOn true (classOf v src) with mem := m, events := ev } := ⟨_, _, h.same⟩
    exact ⟨fun e s2 hi => h.raises (hd.trans (innerDelivery_stackRaises hi)),
      fun nss nesp ds ss cs e s2 s3 s4 s5 hi hss hcs hs => h.raises (hd.trans (innerDelivery_pushRaises hi hss hcs hs))⟩
  · intro o n hi hss hcs vs hs hm hk
    have hd := deliverProtected_opens (err := err) (ret := ret) h
    rw [if_pos ⟨hc, hl⟩] at hd
    obtain ⟨m, ev, rfl⟩ : ∃ m ev, s1 = { s.deliverOn true (classOf v src) with mem := m, events := ev } := ⟨_, _, h.same⟩
    exact ⟨(selectorAt_apply hss).1, (selectorAt_apply hcs).1,
      h.delivers (hd.trans (innerDelivery_apply hi hss hcs hs hm hk))⟩

end Sys2Proof.Machine

end
section

namespace Sys2Proof.Machine

/-! ## Far transfers (spec/46_control.md R326 to R329) -/

/-- The kind of a far transfer: CALL or JMP. -/
def farKind (call : Bool) : TaskKind := if call then .call else .jmp

theorem farKind_jmp (call : Bool) : farKind call = .jmp ↔ call = false := by cases call <;> simp [farKind]

theorem exec_farForm (call : Bool) (imm : ImmV) (sel : Half) (s : State) :
    exec (if call then .callFar imm sel else .jmpFar imm sel) s =
      run (farTransfer (farKind call) imm.osize sel (immVal imm)) s := by
  cases call <;> rfl

/-- An immediate is within its own operand size. -/
theorem cutTarget_immVal (i : ImmV) : cutTarget i.osize (immVal i) = immVal i := by
  cases i with
  | i16 v =>
    refine BitVec.eq_of_toNat_eq ((BitVec.toNat_and ..).trans (Nat.and_two_pow_sub_one_of_lt_two_pow (n := 16) ?_))
    rw [immVal, BitVec.toNat_setWidth_of_le (by decide)]
    exact v.isLt
  | i32 v => rfl

/-- A refused body. -/
theorem run_refused {body : M Unit} {s s1 : State} {r : Refusal} (h : body s = .error (.stop r) s1) :
    run body s = .refused r := by
  rw [run, h]

theorem pushFarReturn_apply {o : OSize} {w : Word} {s s1 s2 : State} (hw : selectorAt o s.cs.selector s = .ok w s1)
    (hs : stage o 0 [w, s.eip] s1 = .ok () s2) :
    pushFarReturn o s =
      .ok () { s2 with regs := (s.setSp (s.spTrunc (s.sp - BitVec.ofNat 32 (2 * o.bytes)))).regs } := by
  rw [pushFarReturn, getS_bind, M.bind_ok hw, M.bind_ok hs]
  exact moveSp_down ((sameStack_selectorAt hw).trans (quiet_stage _ _ _ _ _ _ hs).sameStack) _

/-- The return address of a far CALL is CS with a free upper half, then EIP (log 4). -/
theorem pushFarReturn_ok (o : OSize) (s : State) :
    ∃ (w : Word) (n : Nat), w.setWidth 16 = s.cs.selector ∧ ∀ s1, stage o 0 [w, s.eip] { s with draws := n } = .ok () s1 →
      pushFarReturn o s =
        .ok () { s1 with regs := (s.setSp (s.spTrunc (s.sp - BitVec.ofNat 32 (2 * o.bytes)))).regs } := by
  obtain ⟨w, n, hsel, hw⟩ := selectorAt_ok o s.cs.selector s
  exact ⟨w, n, hsel, fun s1 hs => pushFarReturn_apply hw hs⟩

/-! ### In real mode -/

theorem farTransfer_real {s : State} (hp : s.pe = false) (kind : TaskKind) (o : OSize) (sel : Half) (off : Word) :
    farTransfer kind o sel off s =
      if 0xFFFF < (cutTarget o off).toNat then .error (.exc (Exc.gp 0)) s
      else
        (whenM (kind = .call) (pushFarReturn o) >>= fun _ => loadReal .cs sel >>= fun _ => writeEip (cutTarget o off)) s := by
  rw [farTransfer, getS_bind, if_pos (by simp [hp]), raiseIf_bind]
  rfl

theorem exec_farForm_realBeyond {s : State} (hp : s.pe = false) {imm : ImmV} (h : 0xFFFF < (immVal imm).toNat) (call : Bool)
    (sel : Half) :
    exec (if call then .callFar imm sel else .jmpFar imm sel) s = takeException (Exc.gp 0) s s := by
  rw [exec_farForm]
  exact run_takes ((farTransfer_real hp _ _ _ _).trans (by rw [cutTarget_immVal, if_pos h]))

theorem farTransfer_realWithin {s : State} (hp : s.pe = false) {imm : ImmV} (h : (immVal imm).toNat ≤ 0xFFFF)
    (kind : TaskKind) (sel : Half) :
    farTransfer kind imm.osize sel (immVal imm) s =
      (whenM (kind = .call) (pushFarReturn imm.osize) >>= fun _ => loadReal .cs sel >>= fun _ => writeEip (immVal imm)) s := by
  rw [farTransfer_real hp, cutTarget_immVal, if_neg (not_lt.mpr h)]

/-- RETF in real mode: CS is loaded, then EIP is checked against its new limit (R331, R320). -/
theorem farReturn_real {o : OSize} {extra off sel : Word} {s s1 s2 : State} (hp : s.pe = false)
    (h1 : peek o 0 s = .ok off s1) (h2 : peek o o.bytes s1 = .ok sel s2) :
    farReturn o extra s =
      if 0xFFFF < (cut o.size off).toNat then
        .error (.exc (Exc.gp 0)) (s2.setSeg .cs (SegReg.realOf .cs (sel.setWidth 16)))
      else
        moveSp (BitVec.ofNat 32 (2 * o.bytes) + extra)
          ((s2.setSeg .cs (SegReg.realOf .cs (sel.setWidth 16))).withEip (cut o.size off)) := by
  have hb : farReturn o extra s =
      (setEip o off >>= fun _ => moveSp (BitVec.ofNat 32 (2 * o.bytes) + extra))
        (s2.setSeg .cs (SegReg.realOf .cs (sel.setWidth 16))) := by
    rw [farReturn, getS_bind, M.bind_ok h1, M.bind_ok h2, if_pos (by simp [hp])]
    rfl
  have hl : (s2.setSeg .cs (SegReg.realOf .cs (sel.setWidth 16))).cs.cache.limit.toNat = 0xFFFF := rfl
  rw [hb, M.bind_apply, setEip_apply, hl]
  by_cases h : 0xFFFF < (cut o.size off).toNat
  · rw [if_pos h, if_pos h]
  · rw [if_neg h, if_neg h]

theorem farReturn_realWithin {o : OSize} {extra off sel : Word} {s s1 s2 : State} (hp : s.pe = false)
    (h1 : peek o 0 s = .ok off s1) (h2 : peek o o.bytes s1 = .ok sel s2) (h : (cut o.size off).toNat ≤ 0xFFFF) :
    farReturn o extra s =
      .ok ()
        { s2 with
          regs := (s.setSp (s.spTrunc (s.sp + (BitVec.ofNat 32 (2 * o.bytes) + extra)))).regs
          cs := SegReg.realOf .cs (sel.setWidth 16), eip := cut o.size off } := by
  rw [farReturn_real hp h1 h2, if_neg (not_lt.mpr h)]
  obtain ⟨m, ev, rfl⟩ : ∃ m ev, s2 = { s with mem := m, events := ev } :=
    ⟨_, _, sameButMemory_trans (quiet_peek _ _ _ _ _ h1) (quiet_peek _ _ _ _ _ h2)⟩
  rfl

theorem exec_retfForm {i : Instr} {o : OSize} {imm : Half} (hi : (i = .retf o ∧ imm = 0) ∨ i = .retfImm16 o imm) (s : State) :
    exec i s = run (farReturn o (imm.setWidth 32)) s := by
  rcases hi with ⟨rfl, rfl⟩ | rfl <;> rfl

/-- Settles O51: the offset is checked first for JMP and CALL, and after CS is loaded for RETF. -/
theorem farTransfersInRealMode : Obligations.FarTransfersInRealMode := by
  refine fun s hp => ⟨fun imm sel h => ⟨exec_farForm_realBeyond hp h false sel, exec_farForm_realBeyond hp h true sel⟩,
    fun imm sel h => ?_, fun imm sel h => ?_, fun i o imm off sel s1 s2 hi h1 h2 => ?_⟩
  · exact run_next (farTransfer_realWithin hp h .jmp sel)
  · obtain ⟨w, n, hsel, hw⟩ := pushFarReturn_ok imm.osize s
    refine ⟨w, n, hsel, fun s1 hs => ?_⟩
    obtain ⟨m, ev, rfl⟩ : ∃ m ev, s1 = { s with draws := n, mem := m, events := ev } := ⟨_, _, quiet_stage _ _ _ _ _ _ hs⟩
    exact run_next ((farTransfer_realWithin hp h .call sel).trans (M.bind_ok (hw _ hs)))
  · rw [exec_retfForm hi]
    constructor
    · intro h
      have hc : s2.cycles = s.cycles := by rw [quiet_peek _ _ _ _ _ h2, quiet_peek _ _ _ _ _ h1]
      rw [run_next (farReturn_realWithin hp h1 h2 h), BitVec.ofNat_add, BitVec.ofNat_toNat, ← hc]
      rfl
    · exact fun h => ⟨_, run_takes ((farReturn_real hp h1 h2).trans (if_pos h)), rfl, rfl⟩

end Sys2Proof.Machine

end

section

namespace Sys2Proof.Machine

/-! ## Far transfers in protected mode by the kind of descriptor (spec/46_control.md R326, spec/20_memory.md R107) -/

theorem checkDirectCs_tests {sel : Half} {off : Word} {d : Quad} {s s1 : State} (hi : selIndex sel ≠ 0)
    (hd : descRead sel 13 s = .ok d s1) :
    checkDirectCs sel off s =
      checked
        [(!descS d || !descCode d, Exc.gp (selCode sel)),
         (descConforming d && decide (s.cpl.toNat < (descDPL d).toNat), Exc.gp (selCode sel)),
         (!descConforming d && (decide (descDPL d ≠ s.cpl) || decide (s.cpl.toNat < (selRPL sel).toNat)),
          Exc.gp (selCode sel)),
         (!descP d, Exc.np (selCode sel)), (decide ((descLimit d).toNat < off.toNat), Exc.gp 0)] d s1 := by
  rw [checkDirectCs, raiseIf_bind, if_neg hi, show vGP = 13 from rfl, M.bind_ok hd, getS_bind, cpl_descRead hd, checked_eq_bind]
  exact raiseIf_tests (by simp) fun _ => raiseIf_tests (by simp) fun _ => raiseIf_tests (by simp) fun _ =>
    raiseIf_tests (by simp) fun _ => raiseIf_tests rfl fun _ => rfl

/-- What a far transfer with sel does when its descriptor d is read, by the kind of d (R326). -/
theorem farTransfer_kind {kind : TaskKind} {o : OSize} {sel : Half} {off : Word} {d : Quad} {s s1 : State} (hp : s.pe = true)
    (hi : selIndex sel ≠ 0) (hd : descRead sel 13 s = .ok d s1) :
    farTransfer kind o sel off s =
      (if descS d && descCode d then codeTransfer kind o sel (cutTarget o off)
      else if isCallGate d then gateTransfer kind sel d
      else if isTaskGate d || isAvailableTss d then taskTransfer kind sel d
      else raise (Exc.gp (selCode sel))) s1 := by
  rw [farTransfer, getS_bind, if_neg (by simp [hp]), raiseIf_bind, if_neg hi, show vGP = 13 from rfl, M.bind_ok hd]

theorem farTransfer_null {kind : TaskKind} {o : OSize} {sel : Half} {off : Word} {s : State} (hp : s.pe = true)
    (hi : selIndex sel = 0) : farTransfer kind o sel off s = .error (.exc (Exc.gp 0)) s := by
  rw [farTransfer, getS_bind, if_neg (by simp [hp]), raiseIf_bind, if_pos hi]

theorem farTransfer_descRaises {kind : TaskKind} {o : OSize} {sel : Half} {off : Word} {x : Abort} {s s1 : State}
    (hp : s.pe = true) (hi : selIndex sel ≠ 0) (hd : descRead sel 13 s = .error x s1) :
    farTransfer kind o sel off s = .error x s1 := by
  rw [farTransfer, getS_bind, if_neg (by simp [hp]), raiseIf_bind, if_neg hi, show vGP = 13 from rfl, M.bind_error hd]

/-- A task gate or an available TSS is no call gate; its tests, then the task switch (R326). -/
theorem taskTransfer_tests (kind : TaskKind) (sel : Half) (d : Quad) (s : State) :
    taskTransfer kind sel d s =
      (runTests
        [(decide ((descDPL d).toNat < s.cpl.toNat) || decide ((descDPL d).toNat < (selRPL sel).toNat), Exc.gp (selCode sel)),
         (!descP d, Exc.np (selCode sel))] >>= fun _ =>
        taskSwitch (if isTaskGate d then gateSelector d else sel) kind s.eip) s := by
  rw [taskTransfer, getS_bind]
  exact raiseIf_tests (by simp) fun _ => raiseIf_tests (by simp) fun _ => rfl

theorem farTransfer_code {kind : TaskKind} {o : OSize} {sel : Half} {off : Word} {d : Quad} {s s1 : State} (hp : s.pe = true)
    (hi : selIndex sel ≠ 0) (hd : descRead sel 13 s = .ok d s1) (hs : descS d = true) (hc : descCode d = true) :
    farTransfer kind o sel off s = codeTransfer kind o sel (cutTarget o off) s1 := by
  rw [farTransfer_kind hp hi hd, if_pos (by simp [hs, hc])]

theorem farTransfer_gate {kind : TaskKind} {o : OSize} {sel : Half} {off : Word} {d : Quad} {s s1 : State} (hp : s.pe = true)
    (hi : selIndex sel ≠ 0) (hd : descRead sel 13 s = .ok d s1) (hs : descS d = false) (ht : descType d ∈ [4, 12]) :
    farTransfer kind o sel off s = gateTransfer kind sel d s1 := by
  have hg : isCallGate d = true := by simpa [isCallGate, hs] using ht
  rw [farTransfer_kind hp hi hd, if_neg (by simp [hs]), if_pos hg]

theorem farTransfer_task {kind : TaskKind} {o : OSize} {sel : Half} {off : Word} {d : Quad} {s s1 : State} (hp : s.pe = true)
    (hi : selIndex sel ≠ 0) (hd : descRead sel 13 s = .ok d s1) (hs : descS d = false) (ht : descType d ∈ [1, 5, 9]) :
    farTransfer kind o sel off s = taskTransfer kind sel d s1 := by
  simp only [List.mem_cons, List.not_mem_nil, or_false] at ht
  have hg : isCallGate d = false := by rcases ht with ht | ht | ht <;> simp [isCallGate, ht]
  have hk : (isTaskGate d || isAvailableTss d) = true := by
    rcases ht with ht | ht | ht <;> simp [isTaskGate, isAvailableTss, hs, ht]
  rw [farTransfer_kind hp hi hd, if_neg (by simp [hs]), if_neg (by simp [hg]), if_pos hk]

theorem farTransfer_other {kind : TaskKind} {o : OSize} {sel : Half} {off : Word} {d : Quad} {s s1 : State} (hp : s.pe = true)
    (hi : selIndex sel ≠ 0) (hd : descRead sel 13 s = .ok d s1)
    (ho : descS d = true ∧ descCode d = false ∨ descS d = false ∧ descType d ∉ [1, 4, 5, 9, 12]) :
    farTransfer kind o sel off s = .error (.exc (Exc.gp (selCode sel))) s1 := by
  have hn : (descS d && descCode d) = false ∧ isCallGate d = false ∧ (isTaskGate d || isAvailableTss d) = false := by
    rcases ho with ⟨hs, hc⟩ | ⟨hs, ht⟩
    · simp [hs, hc, isCallGate, isTaskGate, isAvailableTss]
    · simp only [List.mem_cons, List.not_mem_nil, or_false, not_or] at ht
      simp [hs, isCallGate, isTaskGate, isAvailableTss, ht]
  obtain ⟨hn, hg, hk⟩ := hn
  rw [farTransfer_kind hp hi hd, if_neg (by simp [hn]), if_neg (by simp [hg]), if_neg (by simp [hk])]
  rfl

/-! ### A code segment -/

theorem codeTransfer_raises {kind : TaskKind} {o : OSize} {sel : Half} {off : Word} {x : Abort} {s s1 : State}
    (hc : checkDirectCs sel off s = .error x s1) : codeTransfer kind o sel off s = .error x s1 := by
  rw [codeTransfer, M.bind_error hc]

theorem codeTransfer_jmp {o : OSize} {sel : Half} {off : Word} {d : Quad} {s s1 s2 : State}
    (hc : checkDirectCs sel off s = .ok d s1)
    (hm : State.Marked { s1 with cs := { selector := withRPL sel s1.cpl, cache := cacheOf d false s1.cpl } } sel d s2) :
    codeTransfer .jmp o sel off s = .ok () { s2 with eip := off } := by
  rw [codeTransfer, M.bind_ok hc]
  exact enterCs_marked hm

theorem codeTransfer_call {o : OSize} {sel : Half} {off : Word} {d : Quad} {s s1 s2 s3 : State}
    (hc : checkDirectCs sel off s = .ok d s1) (hf : pushFarReturn o s1 = .ok () s2)
    (hm : State.Marked { s2 with cs := { selector := withRPL sel s2.cpl, cache := cacheOf d false s2.cpl } } sel d s3) :
    codeTransfer .call o sel off s = .ok () { s3 with eip := off } := by
  rw [codeTransfer, M.bind_ok hc, M.bind_apply, whenM_apply, if_pos rfl, hf]
  exact enterCs_marked hm

/-- CS entered at the current privilege leaves the privilege as it was. -/
theorem State.Marked.cpl {s s1 t : State} {sel : Half} {d : Quad} (hm : s1.Marked sel d t) (hp : s1.pe = s.pe)
    (hx : s1.cs.cache.rpl = s.cpl) : t.cpl = s.cpl := by
  rw [hm.same]
  show (if s1.pe then s1.cs.cache.rpl else 0) = s.cpl
  rw [hp, hx, State.cpl]
  cases s.pe <;> rfl

/-- Settles O53: the kind of the descriptor decides, and a code segment is entered at the current privilege. -/
theorem farTransfersInProtectedMode : Obligations.FarTransfersInProtectedMode := by
  refine ⟨fun sel off d s s1 hi hd => checkDirectCs_tests hi hd, fun call imm sel s hp => ?_⟩
  simp only [exec_farForm]
  refine ⟨fun hi => run_takes (farTransfer_null hp hi), fun e s1 hi hd => run_takes (farTransfer_descRaises hp hi hd),
    fun d s1 hi hd => ⟨fun hs hc => ?_, fun hs ht => ?_, fun ho => run_takes (farTransfer_other hp hi hd ho)⟩⟩
  · have hx : farTransfer (farKind call) imm.osize sel (immVal imm) s =
        codeTransfer (farKind call) imm.osize sel (immVal imm) s1 := by
      rw [farTransfer_code hp hi hd hs hc, cutTarget_immVal]
    refine ⟨fun e s2 hk => run_takes (hx.trans (codeTransfer_raises hk)), fun d2 s2 hk => ?_⟩
    obtain ⟨m, ev, rfl⟩ : ∃ m ev, s2 = { s with mem := m, events := ev } :=
      ⟨_, _, sameButMemory_trans (quiet_descRead _ _ _ _ _ hd) (quiet_checkDirectCs _ _ _ _ _ hk)⟩
    refine ⟨?_, ?_⟩
    · rintro s3 rfl hm
      have hcy : s3.cycles = s.cycles := by rw [hm.same]
      refine ⟨(run_next (hx.trans (codeTransfer_jmp hk hm))).trans ?_, hm.cpl rfl rfl⟩
      rw [← hcy]
      rfl
    · rintro rfl
      obtain ⟨w, n, hsel, hw⟩ := pushFarReturn_ok imm.osize { s with mem := m, events := ev }
      refine ⟨w, n, hsel, fun s3 s4 hst hm => ?_⟩
      obtain ⟨m3, ev3, rfl⟩ : ∃ m3 ev3, s3 = { s with draws := n, mem := m3, events := ev3 } :=
        ⟨_, _, quiet_stage _ _ _ _ _ _ hst⟩
      have hcy : s4.cycles = s.cycles := by rw [hm.same]
      refine ⟨(run_next (hx.trans (codeTransfer_call hk (hw _ hst) hm))).trans ?_, hm.cpl rfl rfl⟩
      rw [← hcy]
      rfl
  · obtain ⟨m, ev, rfl⟩ : ∃ m ev, s1 = { s with mem := m, events := ev } := ⟨_, _, quiet_descRead _ _ _ _ _ hd⟩
    have hg : (if isTaskGate d then gateSelector d else sel) = if descType d = 5 then gateSelector d else sel := by
      simp [isTaskGate, hs]
    have hx := (farTransfer_task (kind := farKind call) (o := imm.osize) (off := immVal imm) hp hi hd hs ht).trans
      (taskTransfer_tests _ _ _ _)
    rw [hg] at hx
    exact ⟨fun e hk => run_takes (hx.trans (M.bind_error hk)), fun hk =>
      ⟨fun t hsw => run_next (hx.trans ((M.bind_ok hk).trans hsw)),
        fun e t hsw => run_takes (hx.trans ((M.bind_ok hk).trans hsw))⟩⟩

end Sys2Proof.Machine

end

section

namespace Sys2Proof.Machine

/-! ## Transfers through a call gate (spec/46_control.md R328, R329) -/

/-- The last step of a transfer through the call gate g, whose target d has passed its tests at the privilege cpl (R328). -/
def enterGate (kind : TaskKind) (g : Quad) (cpl : BitVec 2) (d : Quad) : M Unit :=
  if kind = .call ∧ descConforming d = false ∧ (descDPL d).toNat < cpl.toNat then innerCall g (gateSelector g) d
  else whenM (kind = .call) (pushFarReturn (gateSize g)) >>= fun _ => enterCs (gateSelector g) cpl d (gateOffset g)

/-- The tests of the gate g, selected by gsel, at the privilege cpl (R328). -/
def gateTests (gsel : Half) (g : Quad) (cpl : BitVec 2) : List (Bool × Exc) :=
  [(decide ((descDPL g).toNat < cpl.toNat) || decide ((descDPL g).toNat < (selRPL gsel).toNat), Exc.gp (selCode gsel)),
   (!descP g, Exc.np (selCode gsel)), (decide (selIndex (gateSelector g) = 0), Exc.gp 0)]

/-- The tests of the target d of the gate g at the privilege cpl (R328). -/
def gateTargetTests (call : Bool) (g : Quad) (cpl : BitVec 2) (d : Quad) : List (Bool × Exc) :=
  [(!descS d || !descCode d || decide (cpl.toNat < (descDPL d).toNat), Exc.gp (selCode (gateSelector g))),
   (!call && !descConforming d && decide (descDPL d ≠ cpl), Exc.gp (selCode (gateSelector g))),
   (!descP d, Exc.np (selCode (gateSelector g))), (decide ((descLimit d).toNat < (gateOffset g).toNat), Exc.gp 0)]

/-- The transfer through the call gate g after the gate's own tests (R328). -/
def throughGate (kind : TaskKind) (g : Quad) (cpl : BitVec 2) : M Unit := do
  let d ← descRead (gateSelector g) 13
  raiseIf (descS d = false ∨ descCode d = false ∨ cpl.toNat < (descDPL d).toNat) (Exc.gp (selCode (gateSelector g)))
  raiseIf (kind = .jmp ∧ descConforming d = false ∧ descDPL d ≠ cpl) (Exc.gp (selCode (gateSelector g)))
  raiseIf (descP d = false) (Exc.np (selCode (gateSelector g)))
  raiseIf ((descLimit d).toNat < (gateOffset g).toNat) (Exc.gp 0)
  enterGate kind g cpl d

theorem gateTransfer_tests (kind : TaskKind) (gsel : Half) (g : Quad) (s : State) :
    gateTransfer kind gsel g s = (runTests (gateTests gsel g s.cpl) >>= fun _ => throughGate kind g s.cpl) s := by
  rw [gateTransfer, getS_bind]
  exact raiseIf_tests (by simp) fun _ => raiseIf_tests (by simp) fun _ => raiseIf_tests rfl fun _ => rfl

theorem throughGate_tests {call : Bool} {g d : Quad} {cpl : BitVec 2} {s s1 : State}
    (hd : descRead (gateSelector g) 13 s = .ok d s1) :
    throughGate (farKind call) g cpl s =
      (runTests (gateTargetTests call g cpl d) >>= fun _ => enterGate (farKind call) g cpl d) s1 := by
  rw [throughGate, M.bind_ok hd]
  exact raiseIf_tests (by simp [Bool.or_assoc]) fun _ => raiseIf_tests (by simp [farKind_jmp, Bool.and_assoc]) fun _ =>
    raiseIf_tests (by simp) fun _ => raiseIf_tests rfl fun _ => rfl

/-- A far transfer through a call gate whose own tests pass goes on to the gate's target. -/
theorem farTransfer_throughGate {kind : TaskKind} {o : OSize} {sel : Half} {off : Word} {g : Quad} {s s1 : State}
    (hp : s.pe = true) (hi : selIndex sel ≠ 0) (hd : descRead sel 13 s = .ok g s1) (hs : descS g = false)
    (ht : descType g ∈ [4, 12]) (hg : checked (gateTests sel g s.cpl) () s1 = .ok () s1) :
    farTransfer kind o sel off s = throughGate kind g s.cpl s1 := by
  rw [farTransfer_gate hp hi hd hs ht, gateTransfer_tests, cpl_descRead hd]
  exact M.bind_ok hg

/-- A far transfer through a call gate whose target passes its tests too enters that target. -/
theorem farTransfer_enterGate {call : Bool} {o : OSize} {sel : Half} {off : Word} {g d : Quad} {s s1 s2 : State}
    (hp : s.pe = true) (hi : selIndex sel ≠ 0) (hd : descRead sel 13 s = .ok g s1) (hs : descS g = false)
    (ht : descType g ∈ [4, 12]) (hg : checked (gateTests sel g s.cpl) () s1 = .ok () s1)
    (hd2 : descRead (gateSelector g) 13 s1 = .ok d s2) (hc : checked (gateTargetTests call g s.cpl d) () s2 = .ok () s2) :
    farTransfer (farKind call) o sel off s = enterGate (farKind call) g s.cpl d s2 := by
  rw [farTransfer_throughGate hp hi hd hs ht hg, throughGate_tests hd2]
  exact M.bind_ok hc

theorem enterGate_jmp {g d : Quad} {cpl : BitVec 2} {s t : State}
    (hm : State.Marked { s with cs := { selector := withRPL (gateSelector g) cpl, cache := cacheOf d false cpl } }
      (gateSelector g) d t) :
    enterGate .jmp g cpl d s = .ok () { t with eip := gateOffset g } := by
  rw [enterGate, if_neg (by simp)]
  exact enterCs_marked hm

/-- Whether a CALL at the privilege cpl to d is to a more privileged segment (R328). -/
def callsInner (d : Quad) (cpl : BitVec 2) : Prop := descConforming d = false ∧ (descDPL d).toNat < cpl.toNat

theorem enterGate_same {g d : Quad} {cpl : BitVec 2} {s s1 t : State} (h : ¬callsInner d cpl)
    (hf : pushFarReturn (gateSize g) s = .ok () s1)
    (hm : State.Marked { s1 with cs := { selector := withRPL (gateSelector g) cpl, cache := cacheOf d false cpl } }
      (gateSelector g) d t) :
    enterGate .call g cpl d s = .ok () { t with eip := gateOffset g } := by
  rw [enterGate, if_neg fun hc => h hc.2, M.bind_apply, whenM_apply, if_pos rfl, hf]
  exact enterCs_marked hm

theorem enterGate_inner {g d : Quad} {cpl : BitVec 2} (h : callsInner d cpl) (s : State) :
    enterGate .call g cpl d s = innerCall g (gateSelector g) d s := by
  rw [enterGate, if_pos ⟨rfl, h⟩]

theorem innerCall_parameters {g d : Quad} (h : gateCount g ≠ 0) (tsel : Half) (s : State) :
    innerCall g tsel d s = .error (.stop .callGateParameters) s := by
  rw [innerCall, if_pos h, refuse_apply]

theorem innerCall_stackRaises {g d : Quad} {tsel : Half} {x : Abort} {s t : State} (h0 : gateCount g = 0)
    (hi : innerStack (descDPL d) s = .error x t) : innerCall g tsel d s = .error x t := by
  rw [innerCall, if_neg (not_not.mpr h0), M.bind_error hi]

/-- A CALL to an inner level, from its pushes on the stack it validated (R329). -/
theorem innerCall_pushes {g d ds : Quad} {tsel nss : Half} {nesp ss cs : Word} {s s2 s3 s4 : State} (h0 : gateCount g = 0)
    (hi : innerStack (descDPL d) s = .ok (nss, nesp, ds) s2) (hss : selectorAt (gateSize g) s.ss.selector s2 = .ok ss s3)
    (hcs : selectorAt (gateSize g) s.cs.selector s3 = .ok cs s4) :
    innerCall g tsel d s =
      (stageVia (Exc.ss 0) (cacheOf ds true (descDPL d)) (descDPL d) nesp (gateSize g) 0 [ss, s.regs.esp, cs, s.eip] >>= fun _ =>
        enterStack nss ds (nesp - BitVec.ofNat 32 (4 * (gateSize g).bytes)) >>= fun _ =>
          enterCs tsel (descDPL d) d (gateOffset g)) s4 := by
  have hrpl : selRPL nss = descDPL d := returns_innerStack _ _ _ _ hi
  obtain ⟨m, ev, rfl⟩ : ∃ m ev, s2 = { s with mem := m, events := ev } := ⟨_, _, quiet_innerStack _ _ _ _ hi⟩
  rw [innerCall, if_neg (not_not.mpr h0), M.bind_ok hi, getS_bind, M.bind_ok hss, M.bind_ok hcs, hrpl]

/-- A CALL to an inner level: the stores on its stack, then SS, ESP and CS (R329). -/
theorem innerCall_apply {g d ds : Quad} {tsel nss : Half} {nesp ss cs : Word} {s s2 s3 s4 s5 s6 s7 : State}
    (h0 : gateCount g = 0) (hi : innerStack (descDPL d) s = .ok (nss, nesp, ds) s2)
    (hss : selectorAt (gateSize g) s.ss.selector s2 = .ok ss s3)
    (hcs : selectorAt (gateSize g) s.cs.selector s3 = .ok cs s4)
    (hs : stageVia (Exc.ss 0) (cacheOf ds true (descDPL d)) (descDPL d) nesp (gateSize g) 0 [ss, s.regs.esp, cs, s.eip] s4 =
      .ok () s5)
    (hm : State.Marked { s5 with ss := { selector := nss, cache := cacheOf ds true (descDPL d) } } nss ds s6)
    (hc : State.Marked
      { s6 with
        regs := s.regs.set .esp (nesp - BitVec.ofNat 32 (4 * (gateSize g).bytes))
        cs := { selector := withRPL tsel (descDPL d), cache := cacheOf d false (descDPL d) } } tsel d s7) :
    innerCall g tsel d s = .ok () { s7 with eip := gateOffset g } := by
  have hrpl : selRPL nss = descDPL d := returns_innerStack _ _ _ _ hi
  have h5 : s5.regs = s.regs := by
    rw [quiet_stageVia _ _ _ _ _ _ _ _ _ _ hs, (selectorAt_apply hcs).2, (selectorAt_apply hss).2,
      quiet_innerStack _ _ _ _ hi]
  rw [innerCall_pushes h0 hi hss hcs, M.bind_ok hs, M.bind_ok (enterStack_marked (by rw [hrpl]; exact hm)), h5]
  exact enterCs_marked hc

/-- Settles O54: the gate's tests, its target's, then the entry at the current privilege or at the target's. -/
theorem callGateTransfers : Obligations.CallGateTransfers := by
  intro call imm sel g s s1 hp i hi hd hs ht
  have hx : exec i s = run (farTransfer (farKind call) imm.osize sel (immVal imm)) s := exec_farForm call imm sel s
  refine ⟨fun e hg => ?_, fun e s2 hg hd2 => ?_, fun d s2 hg hd2 => ⟨fun e hc => ?_, ?_, ?_, fun hc hn => ?_⟩⟩
  · rw [hx]
    refine run_takes ((farTransfer_gate hp hi hd hs ht).trans ((gateTransfer_tests _ _ _ _).trans ?_))
    rw [cpl_descRead hd]
    exact M.bind_error hg
  · rw [hx]
    exact run_takes ((farTransfer_throughGate hp hi hd hs ht hg).trans (M.bind_error hd2))
  · rw [hx]
    exact run_takes ((farTransfer_throughGate hp hi hd hs ht hg).trans ((throughGate_tests hd2).trans (M.bind_error hc)))
  all_goals obtain ⟨m, ev, rfl⟩ : ∃ m ev, s2 = { s with mem := m, events := ev } :=
    ⟨_, _, sameButMemory_trans (quiet_descRead _ _ _ _ _ hd) (quiet_descRead _ _ _ _ _ hd2)⟩
  · rintro s3 hc rfl hm
    have hcy : s3.cycles = s.cycles := by rw [hm.same]
    rw [hx, run_next ((farTransfer_enterGate hp hi hd hs ht hg hd2 hc).trans (enterGate_jmp hm)), ← hcy]
    rfl
  · rintro hc rfl hn
    obtain ⟨w, n, hsel, hw⟩ := pushFarReturn_ok (gateSize g) { s with mem := m, events := ev }
    refine ⟨w, n, hsel, fun s3 s4 hst hm => ?_⟩
    have hcy : s4.cycles = s.cycles := by rw [hm.same, quiet_stage _ _ _ _ _ _ hst]
    rw [hx, run_next ((farTransfer_enterGate hp hi hd hs ht hg hd2 hc).trans
      (enterGate_same (fun hc => hn ⟨rfl, hc⟩) (hw _ hst) hm)), ← hcy]
    rfl
  · obtain ⟨rfl, hn⟩ := hn
    have hk := (farTransfer_enterGate (o := imm.osize) (off := immVal imm) hp hi hd hs ht hg hd2 hc).trans
      (enterGate_inner hn _)
    refine ⟨fun h0 => ?_, fun h0 => ⟨fun e s3 hst => ?_, fun nss nesp ds s3 hst => ?_⟩⟩
    · rw [hx]
      exact run_refused (hk.trans (innerCall_parameters h0 _ _))
    · rw [hx]
      exact run_takes (hk.trans (innerCall_stackRaises h0 hst))
    · obtain ⟨ss, k1, hss, h1⟩ := selectorAt_ok (gateSize g) s.ss.selector s3
      obtain ⟨w, k, hcs, h2⟩ := selectorAt_ok (gateSize g) s.cs.selector { s3 with draws := k1 }
      refine ⟨ss, w, k, hss, hcs, fun e s4 hv => ?_, fun s4 s5 s6 hv hm hm2 => ?_⟩
      · rw [hx]
        exact run_takes (hk.trans ((innerCall_pushes h0 hst h1 h2).trans (M.bind_error hv)))
      · have hcy : s6.cycles = s.cycles := by
          rw [hm2.same, hm.same, quiet_stageVia _ _ _ _ _ _ _ _ _ _ hv, quiet_innerStack _ _ _ _ hst]
        rw [hx, run_next (hk.trans (innerCall_apply h0 hst h1 h2 hv hm hm2)), ← hcy]
        rfl

end Sys2Proof.Machine

end

section

namespace Sys2Proof.Machine

/-! ## The task switch's steps (spec/60_exceptions.md R440) -/

theorem quiet_readFields (base : Word) (fs : List (Nat × Nat)) : Quiet (readFields base fs) := by
  induction fs with
  | nil => exact .pure []
  | cons f fs ih => exact .bind (quiet_linRead _ _ _) fun _ => .bind ih fun _ => .pure _

theorem quiet_writeFields (base : Word) (fs : List (Nat × Nat × Word)) : Quiet (writeFields base fs) := by
  induction fs with
  | nil => exact .pure ()
  | cons f fs ih => exact .bind (quiet_linWrite _ _ _ _) fun _ => ih

theorem quiet_checkNewTss (sel : Half) (kind : TaskKind) : Quiet (checkNewTss sel kind) :=
  .bind (.raiseIf _ _) fun _ => .bind (quiet_descRead _ _) fun _ => .bind (.raiseIf _ _) fun _ => .bind (.raiseIf _ _) fun _ =>
    .bind (.raiseIf _ _) fun _ => .bind (.raiseIf _ _) fun _ => .pure _

theorem quiet_moveBusy (sel : Half) (d : Quad) (kind : TaskKind) : Quiet (moveBusy sel d kind) :=
  .bind .getS fun _ => .bind (quiet_linRead _ _ _) fun _ => .bind (quiet_linWrite _ _ _ _) fun _ =>
    .bind (quiet_linWrite _ _ _ _) fun _ => .whenM _ (quiet_linWrite _ _ _ _)

theorem TaskKind.vector_eq (kind : TaskKind) : kind.vector = if kind = .iret then 10 else 13 := by cases kind <;> rfl

theorem TaskKind.links_iff (kind : TaskKind) : kind.links = true ↔ kind = .call ∨ kind = .int := by
  cases kind <;> simp [TaskKind.links]

theorem isTss32_eq (d : Quad) : isTss32 d = decide (descType d ∈ [9, 11]) := by
  simp [isTss32, beq_eq_decide, Bool.decide_or]

theorem decide_notTss (d : Quad) : decide (isTssType d = false) = (descS d || decide (descType d ∉ [1, 3, 9, 11])) := by
  cases hs : descS d <;> simp [isTssType, hs, Bool.and_assoc]

theorem decide_busy (kind : TaskKind) (d : Quad) :
    decide (kind ≠ .iret ∧ isBusyType d = true) = (decide (kind ≠ .iret) && decide (descType d ∈ [3, 11])) := by
  simp [isBusyType]

theorem checkNewTss_noTss {sel : Half} {kind : TaskKind} {s : State} (h : selTI sel = true ∨ selIndex sel = 0) :
    checkNewTss sel kind s = .error (.exc (Exc.coded kind.vector (selCode sel))) s := by
  rw [checkNewTss, raiseIf_bind, if_pos h]

/-- The tests of the new TSS's descriptor, in order (R440 step 1). -/
def newTssTests (sel : Half) (kind : TaskKind) (d : Quad) : List (Bool × Exc) :=
  [(descS d || decide (descType d ∉ [1, 3, 9, 11]), Exc.coded kind.vector (selCode sel)),
   (decide (kind ≠ .iret) && decide (descType d ∈ [3, 11]), Exc.gp (selCode sel)), (!descP d, Exc.np (selCode sel)),
   (decide ((descLimit d).toNat < if isTss32 d then 0x67 else 0x2B), Exc.ts (selCode sel))]

theorem checkNewTss_tests {sel : Half} {kind : TaskKind} {d : Quad} {s s1 : State} (ht : selTI sel = false)
    (hi : selIndex sel ≠ 0) (hd : descRead sel kind.vector s = .ok d s1) :
    checkNewTss sel kind s = (runTests (newTssTests sel kind d) >>= fun _ => pure d) s1 := by
  rw [checkNewTss, raiseIf_bind, if_neg (by simp [ht, hi]), M.bind_ok hd]
  exact raiseIf_tests (decide_notTss d) fun _ => raiseIf_tests (decide_busy kind d) fun _ => raiseIf_tests (by simp) fun _ =>
    raiseIf_tests rfl fun _ => rfl

/-- The fields of a TSS as a task switch reads them (R441). -/
theorem State.TssRead.fields {s s1 : State} {base : Word} {is32 : Bool} {t : TssImage} (h : s.TssRead base is32 t s1) :
    ∃ vs, readFields base (tssFields is32) s = .ok vs s1 ∧ tssImage is32 vs = t := by
  cases h with
  | tss32 h => exact ⟨_, h, rfl⟩
  | tss16 h => exact ⟨_, h, rfl⟩

theorem State.TssRead.same {s s1 : State} {base : Word} {is32 : Bool} {t : TssImage} (h : s.TssRead base is32 t s1) :
    s.sameButMemory s1 := by
  obtain ⟨vs, hf, -⟩ := h.fields
  exact quiet_readFields _ _ _ _ _ hf

/-- A task switch after the checks and the reads of the new TSS (R440 steps 3 to 6). -/
theorem taskSwitch_reads {sel : Half} {kind : TaskKind} {ret : Word} {d : Quad} {t : TssImage} {s s1 s2 : State}
    (hc : checkNewTss sel kind s = .ok d s1) (hr : s1.TssRead (descBase d) (isTss32 d) t s2) :
    taskSwitch sel kind ret s =
      if isTss32 d && t.eflags.getLsbD 17 then .error (.stop .virtual8086Task) s2
      else
        (writeFields s2.tr.base
            (savedFields s2 ret (s2.flags.image &&& (if kind = .iret then 0xFFFFBFFF else 0xFFFFFFFF))) >>= fun _ =>
          moveBusy sel d kind >>= fun _ => modS (fun s => s.commitTask sel d kind t) >>= fun _ =>
            inNewTask (loadTaskSegments t)) s2 := by
  obtain ⟨vs, hf, rfl⟩ := hr.fields
  rw [taskSwitch, M.bind_ok hc, M.bind_ok hf]
  by_cases h : (isTss32 d && (tssImage (isTss32 d) vs).eflags.getLsbD 17) = true
  · rw [if_pos h, if_pos h, refuse_apply]
  · rw [if_neg h, if_neg h, getS_bind]

theorem savedImage (kind : TaskKind) (image : Word) :
    image &&& (if kind = .iret then 0xFFFFBFFF else 0xFFFFFFFF) = if kind = .iret then image &&& 0xFFFFBFFF else image := by
  by_cases h : kind = .iret
  · rw [if_pos h, if_pos h]
  · rw [if_neg h, if_neg h]
    exact BitVec.and_allOnes

/-- The busy bits and the link, store by store (R440 step 4). -/
theorem moveBusy_apply {sel : Half} {d old : Quad} {kind : TaskKind} {s s1 s2 s3 s4 : State}
    (hr : sysRead (s.gdtr.base + BitVec.ofNat 32 (selIndex s.tr.selector * 8) + 5) 1 s = .ok old s1)
    (hc : sysWrite (s.gdtr.base + BitVec.ofNat 32 (selIndex s.tr.selector * 8) + 5) 1 (old &&& 0xFD) s1 = .ok () s2)
    (hs : sysWrite (s.gdtr.base + BitVec.ofNat 32 (selIndex sel * 8) + 5) 1 ((descAccess d ||| 2).setWidth 64) s2 = .ok () s3)
    (hl : kind = .call ∨ kind = .int → sysWrite (descBase d) 2 (s.tr.selector.setWidth 64) s3 = .ok () s4)
    (hn : ¬(kind = .call ∨ kind = .int) → s4 = s3) : moveBusy sel d kind s = .ok () s4 := by
  rw [moveBusy, getS_bind, M.bind_ok hr, M.bind_ok hc, M.bind_ok hs, whenM_apply]
  by_cases h : kind.links = true
  · rw [if_pos h]
    exact hl (kind.links_iff.mp h)
  · rw [if_neg h, hn fun k => h (kind.links_iff.mpr k)]

/-- A general register after a switch: a 16-bit TSS keeps its upper half (R440). -/
def taskHalf (is32 : Bool) (old new : Word) : Word := if is32 then new else (old &&& 0xFFFF0000) ||| (new &&& 0xFFFF)

theorem taskRegs_eq (is32 : Bool) (x y : Regs) :
    taskRegs is32 x y =
      { eax := taskHalf is32 x.eax y.eax, ecx := taskHalf is32 x.ecx y.ecx, edx := taskHalf is32 x.edx y.edx
        ebx := taskHalf is32 x.ebx y.ebx, esp := taskHalf is32 x.esp y.esp, ebp := taskHalf is32 x.ebp y.ebp
        esi := taskHalf is32 x.esi y.esi, edi := taskHalf is32 x.edi y.edi } := by
  cases is32 <;> rfl

theorem commitFlags_eq (kind : TaskKind) (f : Flags) :
    (if kind.links then { f with nt := true } else f) = { f with nt := f.nt || decide (kind = .call ∨ kind = .int) } := by
  cases kind <;> simp [TaskKind.links]

/-- The commit of a task switch, field by field (R440 step 5). -/
theorem commitTask_eq {d : Quad} {is32 : Bool} (h : isTss32 d = is32) (s : State) (sel : Half) (kind : TaskKind) (t : TssImage) :
    s.commitTask sel d kind t =
      { s with
        tr := { selector := sel, base := descBase d, limit := descLimit d, is32 := is32 }
        cr0 := s.cr0 ||| 8, cr3 := if is32 then t.cr3 else s.cr3, eip := t.eip
        flags :=
          { s.flags.write t.eflags (if is32 then 0x003F7FD5 else 0x00007FD5) with
            nt := (s.flags.write t.eflags (if is32 then 0x003F7FD5 else 0x00007FD5)).nt || decide (kind = .call ∨ kind = .int) }
        regs :=
          { eax := taskHalf is32 s.regs.eax t.regs.eax, ecx := taskHalf is32 s.regs.ecx t.regs.ecx
            edx := taskHalf is32 s.regs.edx t.regs.edx, ebx := taskHalf is32 s.regs.ebx t.regs.ebx
            esp := taskHalf is32 s.regs.esp t.regs.esp, ebp := taskHalf is32 s.regs.ebp t.regs.ebp
            esi := taskHalf is32 s.regs.esi t.regs.esi, edi := taskHalf is32 s.regs.edi t.regs.edi }
        ldtr := { selector := t.ldt, base := 0, limit := 0, null := true }
        es := SegReg.nullOf t.es false, cs := SegReg.nullOf t.cs false, ss := SegReg.nullOf t.ss true
        ds := SegReg.nullOf t.ds false, fs := SegReg.nullOf t.fs false, gs := SegReg.nullOf t.gs false } := by
  subst h
  rw [State.commitTask, taskRegs_eq]
  simp only [commitFlags_eq, taskFlagsMask]

theorem inNewTask_ok {m : M Unit} {s t : State} (h : m s = .ok () t) : inNewTask m s = .ok () t := by rw [inNewTask, h]

theorem inNewTask_raises {m : M Unit} {e : Exc} {s t : State} (h : m s = .error (.exc e) t) :
    inNewTask m s = .error (.exc { e with newTask := true }) t := by
  rw [inNewTask, h]
  rfl

/-- A task switch from its commit on, where every store of steps 3 and 4 succeeds (R440). -/
theorem taskSwitch_commits {sel : Half} {kind : TaskKind} {ret : Word} {d : Quad} {t : TssImage} {s s1 s2 s3 s4 : State}
    (hc : checkNewTss sel kind s = .ok d s1) (hr : s1.TssRead (descBase d) (isTss32 d) t s2)
    (hv : (isTss32 d && t.eflags.getLsbD 17) ≠ true)
    (hw : writeFields s2.tr.base
      (savedFields s2 ret (s2.flags.image &&& (if kind = .iret then 0xFFFFBFFF else 0xFFFFFFFF))) s2 = .ok () s3)
    (hb : moveBusy sel d kind s3 = .ok () s4) :
    taskSwitch sel kind ret s = inNewTask (loadTaskSegments t) (s4.commitTask sel d kind t) := by
  rw [taskSwitch_reads hc hr, if_neg hv, M.bind_ok hw, M.bind_ok hb, modS_bind]

/-! ## The new task's segments (spec/60_exceptions.md R443) -/

theorem taskLdtr_tests {sel : Half} {d : Quad} {s s1 : State} (hi : selIndex sel ≠ 0) (ht : selTI sel = false)
    (hd : descRead sel 10 s = .ok d s1) :
    taskLdtr sel s =
      (runTests [(descS d || decide (descType d ≠ 2), Exc.ts (selCode sel)), (!descP d, Exc.ts (selCode sel))] >>= fun _ =>
        writeLdtr sel d) s1 := by
  rw [taskLdtr, if_neg hi, raiseIf_bind, if_neg (by simp [ht]), show vTS = 10 from rfl, M.bind_ok hd]
  exact raiseIf_tests (by simp) fun _ => raiseIf_tests (by simp) fun _ => rfl

theorem taskCs_tests {sel : Half} {d : Quad} {s s1 : State} (hi : selIndex sel ≠ 0) (hd : descRead sel 10 s = .ok d s1) :
    taskCs sel s =
      (runTests
        [(!descS d || !descCode d, Exc.ts (selCode sel)),
         (!descConforming d && decide (descDPL d ≠ selRPL sel), Exc.ts (selCode sel)),
         (descConforming d && decide ((selRPL sel).toNat < (descDPL d).toNat), Exc.ts (selCode sel)),
         (!descP d, Exc.np (selCode sel))] >>= fun _ => snapshot .cs sel d) s1 := by
  rw [taskCs, raiseIf_bind, if_neg hi, show vTS = 10 from rfl, M.bind_ok hd]
  exact raiseIf_tests (by simp) fun _ => raiseIf_tests (by simp) fun _ => raiseIf_tests (by simp) fun _ =>
    raiseIf_tests (by simp) fun _ => rfl

theorem taskSs_tests {sel : Half} {d : Quad} {s s1 : State} (hi : selIndex sel ≠ 0) (hd : descRead sel 10 s = .ok d s1) :
    taskSs sel s =
      (runTests
        [(decide (selRPL sel ≠ s.cpl) || decide (descDPL d ≠ s.cpl) || !descS d || descCode d || !descWritable d,
          Exc.ts (selCode sel)),
         (!descP d, Exc.ss (selCode sel))] >>= fun _ => snapshot .ss sel d) s1 := by
  rw [taskSs, raiseIf_bind, if_neg hi, show vTS = 10 from rfl, M.bind_ok hd, getS_bind, cpl_descRead hd]
  refine raiseIf_tests ?_ fun _ => raiseIf_tests (by simp) fun _ => rfl
  rw [Bool.decide_or, Bool.decide_or, decide_notWritableData]
  simp [Bool.or_assoc]

theorem taskCs_null {sel : Half} {s : State} (hi : selIndex sel = 0) :
    taskCs sel s = .error (.exc (Exc.ts (selCode sel))) s := by
  rw [taskCs, raiseIf_bind, if_pos hi]

theorem taskSs_null {sel : Half} {s : State} (hi : selIndex sel = 0) : taskSs sel s = .error (.exc (Exc.ts 0)) s := by
  rw [taskSs, raiseIf_bind, if_pos hi]

theorem taskCs_descRaises {sel : Half} {x : Abort} {s s1 : State} (hi : selIndex sel ≠ 0)
    (hd : descRead sel 10 s = .error x s1) : taskCs sel s = .error x s1 := by
  rw [taskCs, raiseIf_bind, if_neg hi, show vTS = 10 from rfl, M.bind_error hd]

theorem taskSs_descRaises {sel : Half} {x : Abort} {s s1 : State} (hi : selIndex sel ≠ 0)
    (hd : descRead sel 10 s = .error x s1) : taskSs sel s = .error x s1 := by
  rw [taskSs, raiseIf_bind, if_neg hi, show vTS = 10 from rfl, M.bind_error hd]

/-- What tests made in order, then the Snapshot of g, lead to: a fault of the accessed bit's write puts g back (R103). -/
theorem snapshotAfter_outcomes {m : M Unit} {g : SReg} {sel : Half} {d : Quad} {ts : List (Bool × Exc)} {s s1 : State}
    (hd : descRead sel 10 s = .ok d s1) (hm : m s = (runTests ts >>= fun _ => snapshot g sel d) s1) :
    let loaded := s1.setSeg g { selector := sel, cache := cacheOf d (decide (g = .ss)) (selRPL sel) }
    (∀ e, checked ts () s1 = .error (.exc e) s1 → m s = .error (.exc e) s1) ∧
    (∀ e s2, checked ts () s1 = .ok () s1 → loaded.MarkRaises sel d e s2 → m s = .error (.exc e) (s2.setSeg g (s.seg g))) ∧
    (∀ s2, checked ts () s1 = .ok () s1 → loaded.Marked sel d s2 → m s = .ok () s2) := by
  have hg : s1.seg g = s.seg g := by
    rw [quiet_descRead _ _ _ _ _ hd]
    cases g <;> rfl
  refine ⟨fun e ht => hm.trans (M.bind_error ht), fun e s2 ht hk => ?_, fun s2 ht hk =>
    hm.trans ((M.bind_ok ht).trans (snapshot_marked hk rfl rfl))⟩
  rw [← hg]
  exact hm.trans ((M.bind_ok ht).trans (snapshot_raises hk))

/-- Settles O55: the switch step by step, then the new task's segments, each as its tests lead to its Snapshot. -/
theorem taskSwitch_holds : Obligations.TaskSwitch := by
  refine ⟨fun sel kind ret s => ⟨fun h => ?_, fun d s1 ht hi hd => ?_⟩, fun t s => rfl, fun sel s =>
    ⟨fun hi => ?_, fun hi ht => ?_, fun d s1 hi ht hd => ?_⟩, fun g sel s => ⟨fun hi => ?_, fun e s1 hi hd => ?_,
      fun d s1 hi hd => ?_⟩⟩
  · rw [Machine.taskSwitch, M.bind_error (checkNewTss_noTss h), kind.vector_eq]
    rfl
  · rw [← kind.vector_eq] at hd
    rw [← kind.vector_eq, ← isTss32_eq]
    intro is32 tests
    have hx : checkNewTss sel kind s = (runTests tests >>= fun _ => pure d) s1 := checkNewTss_tests ht hi hd
    refine ⟨fun e hc => M.bind_error (hx.trans (M.bind_error hc)), fun t s2 hc hr => ?_⟩
    have hk : checkNewTss sel kind s = .ok d s1 := hx.trans (M.bind_ok hc)
    refine ⟨fun hv => (taskSwitch_reads hk hr).trans (if_pos (Bool.and_eq_true_iff.mpr hv)), ?_⟩
    intro hv old s3 s4 s5 s6 s7 image x w hw outByte hold hclear hset hlink hnolink f half y u
    have h2 : s.sameButMemory s2 := sameButMemory_trans (quiet_checkNewTss _ _ _ _ _ hk) hr.same
    have h3 : s.sameButMemory s3 := sameButMemory_trans h2 (quiet_writeFields _ _ _ _ _ hw)
    obtain ⟨m2, ev2, rfl⟩ : ∃ m ev, s2 = { s with mem := m, events := ev } := ⟨_, _, h2⟩
    obtain ⟨m3, ev3, rfl⟩ : ∃ m ev, s3 = { s with mem := m, events := ev } := ⟨_, _, h3⟩
    have hb := moveBusy_apply hold hclear hset hlink hnolink
    have h7 : s.sameButMemory s7 := sameButMemory_trans h3 (quiet_moveBusy _ _ _ _ _ _ hb)
    obtain ⟨m7, ev7, rfl⟩ : ∃ m ev, s7 = { s with mem := m, events := ev } := ⟨_, _, h7⟩
    have hs : taskSwitch sel kind ret s = inNewTask (loadTaskSegments t) u :=
      (taskSwitch_commits hk hr (fun h => hv (Bool.and_eq_true_iff.mp h)) (by rw [savedImage]; exact hw) hb).trans
        (congrArg _ (commitTask_eq rfl _ sel kind t))
    exact ⟨fun u' hl => hs.trans (inNewTask_ok hl), fun e u' hl => hs.trans (inNewTask_raises hl)⟩
  · rw [taskLdtr, if_pos hi]
    rfl
  · rw [taskLdtr, if_neg hi, raiseIf_bind, if_pos ht]
    rfl
  · have hx := taskLdtr_tests hi ht hd
    exact ⟨fun e hc => hx.trans (M.bind_error hc), fun hc => hx.trans (M.bind_ok hc)⟩
  · cases g with
    | cs => exact taskCs_null hi
    | ss => exact taskSs_null hi
    | es | ds | fs | gs => exact loadData_null hi
  · cases g with
    | cs => exact taskCs_descRaises hi hd
    | ss => exact taskSs_descRaises hi hd
    | es | ds | fs | gs => exact loadData_descRaises hi hd
  · cases g with
    | cs => exact snapshotAfter_outcomes hd (taskCs_tests hi hd)
    | ss => exact snapshotAfter_outcomes hd (taskSs_tests hi hd)
    | es | ds | fs | gs => exact snapshotAfter_outcomes hd (loadData_tests hi hd)

end Sys2Proof.Machine

end

section

namespace Sys2Proof

/-! ## Fields and register numbers (spec/30_encoding.md R146 to R150) -/

@[simp] theorem modField_modrmByte (md : BitVec 2) (reg rm : BitVec 3) : modField (modrmByte md reg rm) = md := by
  rw [modField, modrmByte, BitVec.append_assoc]
  exact BitVec.extractLsb'_append_eq_left

@[simp] theorem regField_modrmByte (md : BitVec 2) (reg rm : BitVec 3) : regField (modrmByte md reg rm) = reg := by
  rw [regField, modrmByte, BitVec.extractLsb'_append_eq_of_le (by decide)]
  exact BitVec.extractLsb'_append_eq_right

@[simp] theorem rmField_modrmByte (md : BitVec 2) (reg rm : BitVec 3) : rmField (modrmByte md reg rm) = rm :=
  BitVec.extractLsb'_append_eq_right

/-- A SIB byte has the layout of a ModR/M byte. -/
theorem sibByte_eq (ss : BitVec 2) (index base : BitVec 3) : sibByte ss index base = modrmByte ss index base := rfl

@[simp] theorem Reg.ofBits_toBits (r : Reg) : Reg.ofBits r.toBits = r := by cases r <;> rfl

@[simp] theorem Reg8.ofBits_toBits (r : Reg8) : Reg8.ofBits r.toBits = r := by cases r <;> rfl

@[simp] theorem SReg.ofBits_toBits (g : SReg) : SReg.ofBits g.toBits = some g := by cases g <;> rfl

@[simp] theorem CReg.ofBits_toBits (n : CReg) : CReg.ofBits n.toBits = some n := by cases n <;> rfl

@[simp] theorem DReg.ofBits_toBits (n : DReg) : DReg.ofBits n.toBits = n := by cases n <;> rfl

@[simp] theorem Base16.ofBits_toBits (b : Base16) : Base16.ofBits b.toBits = b := by cases b <;> rfl

@[simp] theorem Scale.ofBits_toBits (s : Scale) : Scale.ofBits s.toBits = s := by cases s <;> rfl

@[simp] theorem Index.ofBits_toBits (i : Index) : Index.ofBits i.toBits = some i := by cases i <;> rfl

/-! ## Reading immediates and displacements (spec/30_encoding.md R152, R154, R158) -/

section Immediates

variable {α : Type}

@[simp] theorem Dec.run_done (a : α) (bs : List Byte) : (Dec.done a).run bs = .ok a bs := rfl

@[simp] theorem Dec.run_ask (k : Byte → Dec α) (b : Byte) (bs : List Byte) : (Dec.ask k).run (b :: bs) = (k b).run bs := rfl

@[simp] theorem run_askHalf (k : Half → Dec α) (v : Half) (bs : List Byte) :
    (askHalf k).run (halfBytes v ++ bs) = (k v).run bs :=
  congrArg (fun v => (k v).run bs) BitVec.extractLsb'_append_extractLsb'

@[simp] theorem run_askWord (k : Word → Dec α) (v : Word) (bs : List Byte) :
    (askWord k).run (wordBytes v ++ bs) = (k v).run bs := by
  have hl : v.extractLsb' 8 8 ++ v.extractLsb' 0 8 = v.extractLsb' 0 16 :=
    BitVec.extractLsb'_append_extractLsb'_eq_extractLsb' rfl
  have hh : v.extractLsb' 24 8 ++ v.extractLsb' 16 8 = v.extractLsb' 16 16 :=
    BitVec.extractLsb'_append_extractLsb'_eq_extractLsb' rfl
  have hv : (v.extractLsb' 24 8 ++ v.extractLsb' 16 8) ++ (v.extractLsb' 8 8 ++ v.extractLsb' 0 8) = v := by
    rw [hl, hh]
    exact BitVec.extractLsb'_append_extractLsb'
  exact congrArg (fun v => (k v).run bs) hv

theorem run_askImmV {c : DecodeCtx} (k : ImmV → Dec α) (i : ImmV) (bs : List Byte) (h : c.osize = i.osize) :
    (askImmV c k).run (i.bytes ++ bs) = (k i).run bs := by
  rw [askImmV, h]
  cases i with
  | i16 v => exact run_askHalf _ v bs
  | i32 v => exact run_askWord _ v bs

/-! ## Reading addresses (spec/30_encoding.md R148 to R150) -/

/-- The displacement of a 16-bit form with a base: only BP needs one. -/
theorem run_askAddr16 (k : Addr → Dec α) (b : Base16) (x : Disp16) (bs : List Byte) (h : (Addr.base16 b x).wf = true) :
    (askAddr16 x.enc.1 b.toBits k).run (x.enc.2 ++ bs) = (k (.base16 b x)).run bs := by
  have hb : b.toBits = 6 → b = .bp := by cases b <;> decide
  cases x with
  | none =>
    have h6 : b.toBits ≠ 6 := by
      intro h6
      rw [hb h6] at h
      cases h
    simp only [askAddr16, Disp16.enc, if_true, if_neg h6, List.nil_append, Base16.ofBits_toBits]
  | d8 v => simp [askAddr16, Disp16.enc]
  | d16 v => simp [askAddr16, Disp16.enc]

theorem run_askDisp32 (k : Disp32 → Dec α) (x : Disp32) (bs : List Byte) :
    (askDisp32 x.enc.1 k).run (x.enc.2 ++ bs) = (k x).run bs := by
  cases x <;> simp [askDisp32, Disp32.enc]

/-- A base EBP is encoded with a displacement, so its form is not the one without a base. -/
theorem disp32_ne_none {b : Reg} {i : Option (Index × Scale)} {x : Disp32} (h : (Addr.base32 b i x).wf = true) :
    ¬(x.enc.1 = 0 ∧ b.toBits = 5) := by
  rintro ⟨hx, hb⟩
  have he : b.toBits = 5 → b = .ebp := by cases b <;> decide
  cases x with
  | none =>
    rw [he hb] at h
    cases h
  | d8 v => exact absurd hx (by decide : ¬(1 : BitVec 2) = 0)
  | d32 v => exact absurd hx (by decide : ¬(2 : BitVec 2) = 0)

end Immediates

/-- A ModR/M byte with a memory form and the bytes after it, which askMem reads as the address form a. -/
structure ReadsAddr (reg : BitVec 3) (a : Addr) (b : Byte) (tl : List Byte) : Prop where
  bytes : a.bytes reg = b :: tl
  reg : regField b = reg
  memory : modField b ≠ 3
  read : ∀ (c : DecodeCtx) (k : MemOp → Dec Instr) (bs : List Byte), c.asize = a.asize →
    (askMem c b k).run (tl ++ bs) = (k { seg := c.latch.seg, addr := a }).run bs

theorem Disp16.enc_ne (x : Disp16) : x.enc.1 ≠ 3 := by cases x <;> simp [Disp16.enc]

theorem Disp32.enc_ne (x : Disp32) : x.enc.1 ≠ 3 := by cases x <;> simp [Disp32.enc]

theorem run_askMem16 {c : DecodeCtx} {b : Byte} (k : MemOp → Dec Instr) (bs : List Byte) (h : c.asize = .o16) :
    (askMem c b k).run bs = (askAddr16 (modField b) (rmField b) fun a => k { seg := c.latch.seg, addr := a }).run bs := by
  rw [askMem, h]

theorem run_askMem32 {c : DecodeCtx} {b : Byte} (k : MemOp → Dec Instr) (bs : List Byte) (h : c.asize = .o32) :
    (askMem c b k).run bs = (askAddr32 (modField b) (rmField b) fun a => k { seg := c.latch.seg, addr := a }).run bs := by
  rw [askMem, h]

/-- A SIB byte, without or with an index, and the displacement of its base. -/
theorem run_askSib (k : Addr → Dec Instr) (b : Reg) (n : BitVec 3) (s : BitVec 2) (i : Option (Index × Scale)) (x : Disp32)
    (bs : List Byte) (h : (Addr.base32 b i x).wf = true) (hi : (Index.ofBits n).map (fun j => (j, Scale.ofBits s)) = i) :
    (askSib x.enc.1 k).run (sibByte s n b.toBits :: (x.enc.2 ++ bs)) = (k (.base32 b i x)).run bs := by
  simp only [askSib, Dec.run_ask, sibByte_eq, regField_modrmByte, modField_modrmByte, rmField_modrmByte, hi,
    if_neg (disp32_ne_none h), run_askDisp32, Reg.ofBits_toBits]

/-- What the encoder writes of an address form is read as that form. -/
theorem Addr.reads (a : Addr) (reg : BitVec 3) (h : a.wf = true) : ∃ b tl, ReadsAddr reg a b tl := by
  cases a with
  | abs16 d =>
    exact ⟨modrmByte 0 reg 6, halfBytes d, rfl, by simp, by simp, fun c k bs hc => by simp [run_askMem16 k _ hc, askAddr16]⟩
  | base16 b x =>
    exact ⟨modrmByte x.enc.1 reg b.toBits, x.enc.2, rfl, by simp, by simpa using x.enc_ne, fun c k bs hc => by
      rw [run_askMem16 k _ hc, modField_modrmByte, rmField_modrmByte, run_askAddr16 _ b x bs h]⟩
  | abs32 i d =>
    rcases i with _ | ⟨i, s⟩
    · exact ⟨modrmByte 0 reg 5, wordBytes d, rfl, by simp, by simp, fun c k bs hc => by
        simp [run_askMem32 k _ hc, askAddr32]⟩
    · exact ⟨modrmByte 0 reg 4, sibByte s.toBits i.toBits 5 :: wordBytes d, rfl, by simp, by simp, fun c k bs hc => by
        simp [run_askMem32 k _ hc, askAddr32, askSib, sibByte_eq]⟩
  | base32 b i x =>
    have hsib (c : DecodeCtx) (k : MemOp → Dec Instr) (bs : List Byte) (hc : c.asize = .o32) (n : BitVec 3) (s : BitVec 2)
        (hi : (Index.ofBits n).map (fun j => (j, Scale.ofBits s)) = i) :
        (askMem c (modrmByte x.enc.1 reg 4) k).run (sibByte s n b.toBits :: (x.enc.2 ++ bs)) =
          (k { seg := c.latch.seg, addr := .base32 b i x }).run bs := by
      rw [run_askMem32 k _ hc, modField_modrmByte, rmField_modrmByte, askAddr32, if_pos rfl, run_askSib _ b n s i x bs h hi]
    rcases i with _ | ⟨i, s⟩
    · by_cases hb : b = .esp
      · subst hb
        exact ⟨modrmByte x.enc.1 reg 4, sibByte 0 4 4 :: x.enc.2, rfl, by simp, by simpa using x.enc_ne, fun c k bs hc =>
          hsib c k bs hc 4 0 rfl⟩
      · have h4 : b.toBits ≠ 4 := by revert hb; cases b <;> decide
        refine ⟨modrmByte x.enc.1 reg b.toBits, x.enc.2, ?_, by simp, by simpa using x.enc_ne, fun c k bs hc => ?_⟩
        · cases b with
          | esp => exact absurd rfl hb
          | _ => rfl
        · rw [run_askMem32 k _ hc, modField_modrmByte, rmField_modrmByte, askAddr32, if_neg h4, if_neg (disp32_ne_none h),
            run_askDisp32, Reg.ofBits_toBits]
    · refine ⟨modrmByte x.enc.1 reg 4, sibByte s.toBits i.toBits b.toBits :: x.enc.2, ?_, by simp, by simpa using x.enc_ne,
        fun c k bs hc => hsib c k bs hc i.toBits s.toBits (by simp)⟩
      cases b <;> rfl

end Sys2Proof

end

section

namespace Sys2Proof

/-! ## Prefixes (spec/30_encoding.md R141, R142) -/

/-- Whether a size, where one is asked for, is not the default size d of the code, so that 66 or 67 selects it. -/
def needsFlip (d : Bool) : Option OSize → Bool
  | some s => s != sizeOf d false
  | none => false

/-- What decoding depends on after the prefixes that select an operand size o, an address size a and a segment g. -/
def selected (d pe : Bool) (o a : Option OSize) (g : Option SReg) : DecodeCtx :=
  { db := d, pe := pe, latch := { seg := g, opflip := needsFlip d o, adflip := needsFlip d a, rep := none, len := 0 } }

/-- The mark of a size that is not the default selects it, and no mark selects the default. -/
theorem sizeOf_needsFlip (d : Bool) (s : OSize) : sizeOf d (needsFlip d (some s)) = s := by cases d <;> cases s <;> rfl

/-- The context selects an operand size o and an address size a, where they are given, and the segment g. -/
structure DecodeCtx.Selects (c : DecodeCtx) (pe : Bool) (o a : Option OSize) (g : Option SReg) : Prop where
  pe : c.pe = pe
  osize : ∀ s, o = some s → c.osize = s
  asize : ∀ s, a = some s → c.asize = s
  seg : c.latch.seg = g

theorem selected_selects (d pe : Bool) (o a : Option OSize) (g : Option SReg) : (selected d pe o a g).Selects pe o a g where
  pe := rfl
  osize := by
    rintro s rfl
    exact sizeOf_needsFlip d s
  asize := by
    rintro s rfl
    exact sizeOf_needsFlip d s
  seg := rfl

theorem prefixBytes_eq (d : Bool) (o a : Option OSize) (g : Option SReg) :
    prefixBytes d o a g = (g.map SReg.overrideByte).toList ++ (if needsFlip d o then [0x66] else []) ++
      (if needsFlip d a then [0x67] else []) := by
  have size (s : Option OSize) (b : Byte) :
      (match s with | some s => if s = sizeOf d false then [] else [b] | none => []) = if needsFlip d s then [b] else [] := by
    cases s with
    | none => rfl
    | some s => by_cases hs : s = sizeOf d false <;> simp [needsFlip, hs]
  have seg : (match g with | some s => [s.overrideByte] | none => []) = (g.map SReg.overrideByte).toList := by
    cases g <;> rfl
  exact congrArg₂ _ (congrArg₂ _ seg (size o 0x66)) (size a 0x67)

theorem run_decodeFrom_override (n : Nat) (c : DecodeCtx) (g : SReg) (bs : List Byte) :
    (decodeFrom (n + 1) c).run (g.overrideByte :: bs) =
      (decodeFrom n { c with latch := { c.latch with seg := some g } }).run bs := by cases g <;> rfl

theorem run_decodeFrom_opsize (n : Nat) (c : DecodeCtx) (bs : List Byte) :
    (decodeFrom (n + 1) c).run (0x66 :: bs) = (decodeFrom n { c with latch := { c.latch with opflip := true } }).run bs := rfl

theorem run_decodeFrom_addrsize (n : Nat) (c : DecodeCtx) (bs : List Byte) :
    (decodeFrom (n + 1) c).run (0x67 :: bs) = (decodeFrom n { c with latch := { c.latch with adflip := true } }).run bs := rfl

/-- The encoder's prefixes latch what they select. -/
theorem run_prefixBytes {d pe : Bool} {o a : Option OSize} {g : Option SReg} {bs : List Byte} {r : DecodeResult Instr}
    (h : ∀ n, (decodeFrom (n + 1) (selected d pe o a g)).run bs = r) :
    (decodeFrom 16 { db := d, pe := pe, latch := Latch.empty }).run (prefixBytes d o a g ++ bs) = r := by
  rw [prefixBytes_eq]
  unfold selected at h
  generalize needsFlip d o = fo at h ⊢
  generalize needsFlip d a = fa at h ⊢
  cases fo <;> cases fa <;> cases g
  all_goals
    simp only [Option.map_none, Option.map_some, Option.toList_none, Option.toList_some, if_true, Bool.false_eq_true,
      if_false, List.append_nil, List.nil_append, List.cons_append, run_decodeFrom_override, run_decodeFrom_opsize,
      run_decodeFrom_addrsize]
    exact h _

/-! ## Encodings that are read back -/

/-- In code of default size d, under CR0.PE = pe, the bytes are no longer than an instruction may be, and read as i whatever
follows. -/
def ReadBack (d pe : Bool) (bs : List Byte) (i : Instr) : Prop :=
  bs.length ≤ 15 ∧
    ∀ rest, (decodeFrom 16 { db := d, pe := pe, latch := Latch.empty }).run (bs ++ rest) = .ok i rest

theorem decode_of_readBack {d pe : Bool} {bs : List Byte} {i : Instr} (h : ReadBack d pe bs i) (rest : List Byte) :
    decode { db := d, pe := pe, latch := Latch.empty } (bs ++ rest) = .ok i rest := by
  obtain ⟨hlen, hrun⟩ := h
  rw [decode, List.take_append, List.drop_append, List.take_of_length_le hlen, List.drop_of_length_le hlen, hrun]
  simp

theorem Dec.run_bind_ok {α β : Type} {m : Dec α} {f : α → Dec β} {bs rest : List Byte} {a : α}
    (h : m.run bs = .ok a rest) : (m.bind f).run bs = (f a).run rest := by
  induction m generalizing bs with
  | done b =>
    cases h
    rfl
  | ask k ih =>
    cases bs with
    | nil => cases h
    | cons b bs => exact ih b h
  | invalid => cases h
  | refuse r => cases h

/-- A row that latches nothing ends the instruction. -/
theorem run_decodeFrom_of_decodeOne {c : DecodeCtx} {bs rest : List Byte} {i : Instr} (n : Nat)
    (hi : Latch.empty.after i = none) (h : (decodeOne c).run bs = .ok i rest) : (decodeFrom (n + 1) c).run bs = .ok i rest := by
  have hc : c.latch.after i = none := by
    rw [← Option.not_isSome_iff_eq_none, Machine.Latch.after_isSome _ Latch.empty, hi]
    decide
  rw [decodeFrom, Dec.run_bind_ok h, hc]
  rfl

section Rows

variable {d pe : Bool} {i : Instr}

/-- Prefixes and what follows them: the row is read in a context that selects what they say. -/
theorem readBack_selected {o a : Option OSize} {g : Option SReg} {body : List Byte} (hi : Latch.empty.after i = none)
    (hlen : body.length ≤ 12)
    (h : ∀ (c : DecodeCtx) (rest : List Byte), c.Selects pe o a g → (decodeOne c).run (body ++ rest) = .ok i rest) :
    ReadBack d pe (prefixBytes d o a g ++ body) i := by
  refine ⟨?_, fun rest => ?_⟩
  · have := Laws.prefixBytes_length d o a g
    rw [List.length_append]
    omega
  · rw [List.append_assoc]
    exact run_prefixBytes fun n => run_decodeFrom_of_decodeOne n hi (h _ rest (selected_selects d pe o a g))

/-- A row without prefixes. -/
theorem readBack_plain {bs : List Byte} (hi : Latch.empty.after i = none) (hlen : bs.length ≤ 12)
    (h : ∀ (c : DecodeCtx) (rest : List Byte), (decodeOne c).run (bs ++ rest) = .ok i rest) : ReadBack d pe bs i :=
  readBack_selected (o := none) (a := none) (g := none) hi hlen fun c rest _ => h c rest

/-- A row with an operand size and no memory operand. -/
theorem readBack_encV {o : OSize} {body : List Byte} (hi : Latch.empty.after i = none) (hlen : body.length ≤ 12)
    (h : ∀ (c : DecodeCtx) (rest : List Byte), c.osize = o → (decodeOne c).run (body ++ rest) = .ok i rest) :
    ReadBack d pe (encV d o body) i :=
  readBack_selected hi hlen fun c rest hc => h c rest (hc.osize o rfl)

/-- A row with a memory operand: k goes on from its ModR/M byte and the operand. -/
theorem readBack_encMem {o : Option OSize} {op imm : List Byte} {reg : BitVec 3} {m : MemOp}
    {k : DecodeCtx → Byte → MemOp → Dec Instr} (hi : Latch.empty.after i = none) (hm : m.wf = true)
    (hop : op.length ≤ 2) (himm : imm.length ≤ 4)
    (hrow : ∀ (c : DecodeCtx) (b : Byte) (bs : List Byte), c.pe = pe → regField b = reg → modField b ≠ 3 →
      (decodeOne c).run (op ++ b :: bs) = (askMem c b (k c b)).run bs)
    (hk : ∀ (c : DecodeCtx) (b : Byte) (rest : List Byte), regField b = reg → (∀ s, o = some s → c.osize = s) →
      (k c b m).run (imm ++ rest) = .ok i rest) :
    ReadBack d pe (encMem d o op reg m ++ imm) i := by
  obtain ⟨b, tl, ha⟩ := m.addr.reads reg hm
  have hbody : encMem d o op reg m ++ imm = prefixBytes d o (some m.addr.asize) m.seg ++ (op ++ (b :: tl ++ imm)) := by
    rw [encMem, ha.bytes]
    simp only [List.append_assoc]
  rw [hbody]
  refine readBack_selected hi ?_ fun c rest hc => ?_
  · have := (Laws.Addr.bytes_length reg m.addr).2
    rw [ha.bytes] at this
    simp only [List.length_append] at this ⊢
    omega
  · rw [List.append_assoc, List.append_assoc, List.cons_append, hrow c b _ hc.pe ha.reg ha.memory,
      ha.read c (k c b) _ (hc.asize _ rfl), hc.seg]
    exact hk c b rest ha.reg hc.osize

end Rows

end Sys2Proof

end

section

namespace Sys2Proof

/-! ## Choosing a row (spec/30_encoding.md R145, R159, R161) -/

/-- A byte of the one-byte map: none of the prefixes, and not 0F. -/
def plainByte (b : Byte) : Bool := (prefixRows.all fun r => !(r.1 == b)) && b != 0x0F

/-- A byte that no plain row has and some group row has. -/
def leadsGroup (ops : List OpRow) (grps : List GroupRow) (b : Byte) : Bool :=
  (ops.all fun r => !((b &&& r.mask) == r.opcode)) && grps.any fun g => g.opcode == b

/-- What the group row of an opcode and a reg field reads, from its ModR/M byte b on. -/
def groupParse (grps : List GroupRow) (op : Byte) (reg : BitVec 3) (c : DecodeCtx) (b : Byte) : Dec Instr :=
  match grps.find? fun g => g.opcode == op && g.digit == reg with
  | some g => g.parse c b
  | none => .refuse .groupMemberNotAdmitted

theorem decodeOp_of_leadsGroup {ops : List OpRow} {grps : List GroupRow} {b : Byte} (h : leadsGroup ops grps b = true)
    (c : DecodeCtx) : decodeOp ops grps c b = .ask fun m => groupParse grps b (regField m) c m := by
  rw [leadsGroup, Bool.and_eq_true] at h
  obtain ⟨ho, hg⟩ := h
  have hf : (ops.find? fun r => (b &&& r.mask) == r.opcode) = none := by simpa using ho
  rw [decodeOp, hf]
  exact if_pos hg

theorem run_decodeOne_of_plainByte {b : Byte} (h : plainByte b = true) (c : DecodeCtx) (bs : List Byte) :
    (decodeOne c).run (b :: bs) = (decodeOp opRows groupRows c b).run bs := by
  rw [plainByte, Bool.and_eq_true, bne_iff_ne] at h
  obtain ⟨hp, h0⟩ := h
  have hf : (prefixRows.find? fun r => r.1 == b) = none := by simpa using hp
  rw [decodeOne, Dec.run_ask, hf]
  exact congrArg (Dec.run · bs) (if_neg h0)

theorem run_decodeOne_0F (c : DecodeCtx) (b : Byte) (bs : List Byte) :
    (decodeOne c).run (0x0F :: b :: bs) = (decodeOp op0FRows group0FRows c b).run bs := rfl

/-- op is the opcode of a row that reads what follows as p, which takes no register from the opcode byte. -/
def Opens (op : List Byte) (p : DecodeCtx → Byte → Dec Instr) : Prop :=
  ∀ (c : DecodeCtx) (bs : List Byte), (decodeOne c).run (op ++ bs) = (p c 0).run bs

/-- The low bits of the opcode byte b are a register's number, and the row reads what follows as p. -/
def OpensReg (b : Byte) (p : DecodeCtx → Byte → Dec Instr) : Prop :=
  ∀ (r : Reg) (c : DecodeCtx) (bs : List Byte), (decodeOne c).run ((b ||| r.toByte) :: bs) = (p c r.toByte).run bs

/-- op leads to a row that goes on with its ModR/M byte as p, when that byte's reg field is reg. -/
def OpensModrm (op : List Byte) (reg : BitVec 3) (p : DecodeCtx → Byte → Dec Instr) : Prop :=
  ∀ (c : DecodeCtx) (b : Byte) (bs : List Byte), regField b = reg → (decodeOne c).run (op ++ b :: bs) = (p c b).run bs

theorem opensModrm_group {op : Byte} {reg : BitVec 3} {p : DecodeCtx → Byte → Dec Instr} (hp : plainByte op = true)
    (hg : leadsGroup opRows groupRows op = true) (h : ∀ c b, groupParse groupRows op reg c b = p c b) :
    OpensModrm [op] reg p := by
  rintro c b bs rfl
  rw [List.cons_append, List.nil_append, run_decodeOne_of_plainByte hp, decodeOp_of_leadsGroup hg, Dec.run_ask, h]

theorem opensModrm_group0F {op : Byte} {reg : BitVec 3} {p : DecodeCtx → Byte → Dec Instr}
    (hg : leadsGroup op0FRows group0FRows op = true) (h : ∀ c b, groupParse group0FRows op reg c b = p c b) :
    OpensModrm [0x0F, op] reg p := by
  rintro c b bs rfl
  rw [List.cons_append, List.cons_append, List.nil_append, run_decodeOne_0F, decodeOp_of_leadsGroup hg, Dec.run_ask, h]

/-- A `/r` row takes any reg field. -/
theorem Opens.modrm {op : List Byte} {p q : DecodeCtx → Byte → Dec Instr} (h : Opens op p)
    (hq : ∀ c, p c 0 = .ask (q c)) (reg : BitVec 3) : OpensModrm op reg q := by
  intro c b bs _
  rw [h, hq, Dec.run_ask]

@[simp] theorem Reg.rmField_toByte (r : Reg) : rmField r.toByte = r.toBits := by cases r <;> rfl

@[simp] theorem Reg8.rmField_toByte (r : Reg8) : rmField r.toByte = r.toBits := by cases r <;> rfl

end Sys2Proof

end

section

namespace Sys2Proof

/-! ## Each format is read back (spec/30_encoding.md R164) -/

section Formats

variable {d pe : Bool} {i : Instr} {op : List Byte} {o : OSize}

theorem readBack_pNone (hr : Opens op (pNone i)) (hi : Latch.empty.after i = none) (hop : op.length ≤ 2) :
    ReadBack d pe op i :=
  readBack_plain hi (hop.trans (by decide)) hr

theorem readBack_pV {f : OSize → Instr} (hr : Opens op (pV f)) (hi : Latch.empty.after (f o) = none) (hop : op.length ≤ 2) :
    ReadBack d pe (encV d o op) (f o) :=
  readBack_encV hi (hop.trans (by decide)) fun c rest hc => by rw [hr, pV, hc, Dec.run_done]

theorem readBack_pImm8 {f : Byte → Instr} {b v : Byte} (hr : Opens [b] (pImm8 f)) (hi : Latch.empty.after (f v) = none) :
    ReadBack d pe [b, v] (f v) :=
  readBack_plain hi (by simp) fun c rest => hr c (v :: rest)

theorem readBack_pVImm8 {f : OSize → Byte → Instr} {b v : Byte} (hr : Opens [b] (pVImm8 f))
    (hi : Latch.empty.after (f o v) = none) : ReadBack d pe (encV d o [b, v]) (f o v) :=
  readBack_encV hi (by simp) fun c rest hc => by rw [← hc]; exact hr c (v :: rest)

theorem readBack_pVImm16 {f : OSize → Half → Instr} {b : Byte} {v : Half} (hr : Opens [b] (pVImm16 f))
    (hi : Latch.empty.after (f o v) = none) : ReadBack d pe (encV d o ([b] ++ halfBytes v)) (f o v) :=
  readBack_encV hi (by simp [halfBytes]) fun c rest hc => by
    rw [List.append_assoc, hr, pVImm16, run_askHalf, hc, Dec.run_done]

theorem readBack_pImmV {f : ImmV → Instr} {v : ImmV} (hr : Opens op (pImmV f)) (hi : Latch.empty.after (f v) = none)
    (hop : op.length ≤ 2) : ReadBack d pe (encV d v.osize (op ++ v.bytes)) (f v) :=
  readBack_encV hi (by have := (Laws.ImmV.bytes_length v).2; rw [List.length_append]; omega) fun c rest hc => by
    rw [List.append_assoc, hr, pImmV, run_askImmV _ _ _ hc, Dec.run_done]

theorem readBack_pFar {f : ImmV → Half → Instr} {v : ImmV} {sel : Half} {b : Byte} (hr : Opens [b] (pFar f))
    (hi : Latch.empty.after (f v sel) = none) :
    ReadBack d pe (encV d v.osize ([b] ++ v.bytes ++ halfBytes sel)) (f v sel) :=
  readBack_encV hi (by have := (Laws.ImmV.bytes_length v).2; simp [halfBytes]; omega) fun c rest hc => by
    rw [List.append_assoc, List.append_assoc, hr, pFar, run_askImmV _ _ _ hc, run_askHalf, Dec.run_done]

theorem readBack_pReg {f : OSize → Reg → Instr} {b : Byte} {r : Reg} (hr : OpensReg b (pReg f))
    (hi : Latch.empty.after (f o r) = none) : ReadBack d pe (encV d o [b ||| r.toByte]) (f o r) :=
  readBack_encV hi (by simp) fun c rest hc => (hr r c rest).trans (by simp [pReg, hc])

theorem readBack_pRegImmV {f : Reg → ImmV → Instr} {b : Byte} {r : Reg} {v : ImmV} (hr : OpensReg b (pRegImmV f))
    (hi : Latch.empty.after (f r v) = none) : ReadBack d pe (encV d v.osize ([b ||| r.toByte] ++ v.bytes)) (f r v) :=
  readBack_encV hi (by have := (Laws.ImmV.bytes_length v).2; simp; omega) fun c rest hc =>
    (hr r c (v.bytes ++ rest)).trans (by rw [pRegImmV, run_askImmV _ _ _ hc]; simp)

theorem readBack_pReg8Imm8 {f : Reg8 → Byte → Instr} {b v : Byte} {r : Reg8}
    (hr : ∀ (c : DecodeCtx) (bs : List Byte), (decodeOne c).run ((b ||| r.toByte) :: bs) = (pReg8Imm8 f c r.toByte).run bs)
    (hi : Latch.empty.after (f r v) = none) : ReadBack d pe [b ||| r.toByte, v] (f r v) :=
  readBack_plain hi (by simp) fun c rest => (hr c (v :: rest)).trans (by simp [pReg8Imm8])

theorem readBack_pMoffs {f : OSize → Option SReg → Moffs → Instr} {b : Byte} {o : Option OSize} {g : Option SReg}
    {a : Moffs} (hr : Opens [b] (pMoffs f)) (hi : Latch.empty.after i = none)
    (hf : ∀ s, (∀ t, o = some t → s = t) → f s g a = i) : ReadBack d pe (encMoffs d o g a b) i := by
  have row (s : OSize) (v : List Byte) (hlen : v.length ≤ 4)
      (hv : ∀ c k bs, c.asize = s → (askMoffs c k).run (v ++ bs) = (k a : Dec Instr).run bs) :
      ReadBack d pe (prefixBytes d o (some s) g ++ ([b] ++ v)) i :=
    readBack_selected hi (by simp; omega) fun c rest hc => by
      rw [List.append_assoc, hr, pMoffs, hv c _ _ (hc.asize s rfl), hc.seg, Dec.run_done, hf _ hc.osize]
  cases a with
  | a16 v =>
    rw [encMoffs, List.append_assoc]
    exact row .o16 (halfBytes v) (by simp [halfBytes]) fun c k bs hc => by rw [askMoffs, hc]; exact run_askHalf ..
  | a32 v =>
    rw [encMoffs, List.append_assoc]
    exact row .o32 (wordBytes v) (by simp [wordBytes]) fun c k bs hc => by rw [askMoffs, hc]; exact run_askWord ..

end Formats

end Sys2Proof

end

section

namespace Sys2Proof

/-! ## Formats with a ModR/M byte (spec/30_encoding.md R146 to R153, R164) -/

section Operands

variable {d pe : Bool} {i : Instr} {op imm : List Byte} {reg : BitVec 3}

/-- A row with an r/m8 operand, its register, and what follows it. -/
theorem readBack_encRm8 {m : Rm8} {k : DecodeCtx → Byte → Rm8 → Dec Instr}
    (hr : OpensModrm op reg fun c b => askRm8 c b (k c b)) (hi : Latch.empty.after i = none) (hm : m.wf = true)
    (hop : op.length ≤ 2) (himm : imm.length ≤ 4)
    (hk : ∀ c b rest, regField b = reg → (k c b m).run (imm ++ rest) = .ok i rest) :
    ReadBack d pe (encRm8 d op reg m imm) i := by
  cases m with
  | reg r =>
    refine readBack_plain hi (by simp [encRm8]; omega) fun c rest => ?_
    rw [encRm8, List.append_assoc, List.append_assoc, List.singleton_append, hr c _ _ (regField_modrmByte ..)]
    simp only [askRm8, modField_modrmByte, if_true, rmField_modrmByte, Reg8.ofBits_toBits]
    exact hk c _ rest (regField_modrmByte ..)
  | mem m =>
    refine readBack_encMem (k := fun c b m => k c b (.mem m)) hi hm hop himm (fun c b bs _ hb h3 => ?_)
      fun c b rest hb _ => hk c b rest hb
    rw [hr c b bs hb]
    exact congrArg (Dec.run · bs) (if_neg h3)

/-- An r/mv operand, after the prefixes for the operand size o where there is one: encRmv and encRm16 in one. -/
def encRm (d : Bool) (o : Option OSize) (op : List Byte) (reg : BitVec 3) (m : Rm) (imm : List Byte) : List Byte :=
  match m with
  | .reg r => prefixBytes d o none none ++ (op ++ [modrmByte 3 reg r.toBits] ++ imm)
  | .mem m => encMem d o op reg m ++ imm

theorem encRmv_eq (d : Bool) (o : OSize) (op : List Byte) (reg : BitVec 3) (m : Rm) (imm : List Byte) :
    encRmv d o op reg m imm = encRm d (some o) op reg m imm := by cases m <;> rfl

theorem encRm16_eq (d : Bool) (op : List Byte) (reg : BitVec 3) (m : Rm) :
    encRm16 d op reg m = encRm d none op reg m [] := by
  cases m with
  | reg r => exact (List.append_nil _).symm
  | mem m => exact (List.append_nil _).symm

/-- A row with an r/mv operand, its register, and what follows it. -/
theorem readBack_encRm {o : Option OSize} {m : Rm} {k : DecodeCtx → Byte → Rm → Dec Instr}
    (hr : ∀ c b bs, c.pe = pe → regField b = reg → (decodeOne c).run (op ++ b :: bs) = (askRm c b (k c b)).run bs)
    (hi : Latch.empty.after i = none) (hm : m.wf = true) (hop : op.length ≤ 2) (himm : imm.length ≤ 4)
    (hk : ∀ c b rest, regField b = reg → (∀ s, o = some s → c.osize = s) → (k c b m).run (imm ++ rest) = .ok i rest) :
    ReadBack d pe (encRm d o op reg m imm) i := by
  cases m with
  | reg r =>
    refine readBack_selected hi (by simp; omega) fun c rest hc => ?_
    rw [List.append_assoc, List.append_assoc, List.singleton_append, hr c _ _ hc.pe (regField_modrmByte ..), askRm,
      if_pos (modField_modrmByte ..), rmField_modrmByte, Reg.ofBits_toBits]
    exact hk c _ rest (regField_modrmByte ..) hc.osize
  | mem m =>
    refine readBack_encMem (k := fun c b m => k c b (.mem m)) hi hm hop himm (fun c b bs hp hb h3 => ?_)
      fun c b rest hb ho => hk c b rest hb ho
    rw [hr c b bs hp hb, askRm, if_neg h3]

theorem readBack_encRmv {o : OSize} {m : Rm} {k : DecodeCtx → Byte → Rm → Dec Instr}
    (hr : OpensModrm op reg fun c b => askRm c b (k c b)) (hi : Latch.empty.after i = none) (hm : m.wf = true)
    (hop : op.length ≤ 2) (himm : imm.length ≤ 4)
    (hk : ∀ c b rest, regField b = reg → c.osize = o → (k c b m).run (imm ++ rest) = .ok i rest) :
    ReadBack d pe (encRmv d o op reg m imm) i := by
  rw [encRmv_eq]
  exact readBack_encRm (fun c b bs _ => hr c b bs) hi hm hop himm fun c b rest hb ho => hk c b rest hb (ho o rfl)

theorem readBack_encRm16 {m : Rm} {k : DecodeCtx → Byte → Rm → Dec Instr}
    (hr : ∀ c b bs, c.pe = pe → regField b = reg → (decodeOne c).run (op ++ b :: bs) = (askRm c b (k c b)).run bs)
    (hi : Latch.empty.after i = none) (hm : m.wf = true) (hop : op.length ≤ 2)
    (hk : ∀ c b rest, regField b = reg → (k c b m).run rest = .ok i rest) : ReadBack d pe (encRm16 d op reg m) i := by
  rw [encRm16_eq]
  exact readBack_encRm hr hi hm hop (Nat.zero_le 4) fun c b rest hb _ => hk c b rest hb

/-- A row with an operand that must be memory. -/
theorem readBack_memOnly {o : OSize} {m : MemOp} {k : DecodeCtx → Byte → MemOp → Dec Instr}
    (hr : OpensModrm op reg fun c b => askMemOnly c b (k c b)) (hi : Latch.empty.after i = none) (hm : m.wf = true)
    (hop : op.length ≤ 2) (hk : ∀ c b rest, regField b = reg → c.osize = o → (k c b m).run rest = .ok i rest) :
    ReadBack d pe (encMem d (some o) op reg m) i := by
  rw [← List.append_nil (encMem d (some o) op reg m)]
  refine readBack_encMem hi hm hop (Nat.zero_le 4) (fun c b bs _ hb h3 => ?_) fun c b rest hb ho => hk c b rest hb (ho o rfl)
  rw [hr c b bs hb]
  exact congrArg (Dec.run · bs) (if_neg h3)

end Operands

section Formats

variable {d pe : Bool} {op : List Byte} {digit : BitVec 3} {o : OSize} {m8 : Rm8} {m : Rm} {v : Byte}

theorem readBack_pRm8R8 {f : Rm8 → Reg8 → Instr} {r : Reg8} (hr : Opens op (pRm8R8 f))
    (hi : Latch.empty.after (f m8 r) = none) (hm : m8.wf = true) (hop : op.length ≤ 2) :
    ReadBack d pe (encRm8 d op r.toBits m8 []) (f m8 r) :=
  readBack_encRm8 (hr.modrm (fun _ => rfl) _) hi hm hop (Nat.zero_le 4) fun c b rest hb => by simp [hb]

theorem readBack_pR8Rm8 {f : Reg8 → Rm8 → Instr} {r : Reg8} (hr : Opens op (pRm8R8 fun m r => f r m))
    (hi : Latch.empty.after (f r m8) = none) (hm : m8.wf = true) (hop : op.length ≤ 2) :
    ReadBack d pe (encRm8 d op r.toBits m8 []) (f r m8) := readBack_pRm8R8 hr hi hm hop

theorem readBack_gRm8 {f : Rm8 → Instr} (hr : OpensModrm op digit (gRm8 f)) (hi : Latch.empty.after (f m8) = none)
    (hm : m8.wf = true) (hop : op.length ≤ 2) : ReadBack d pe (encRm8 d op digit m8 []) (f m8) :=
  readBack_encRm8 hr hi hm hop (Nat.zero_le 4) fun _ _ _ _ => rfl

theorem readBack_gRm8Imm8 {f : Rm8 → Byte → Instr} (hr : OpensModrm op digit (gRm8Imm8 f))
    (hi : Latch.empty.after (f m8 v) = none) (hm : m8.wf = true) (hop : op.length ≤ 2) :
    ReadBack d pe (encRm8 d op digit m8 [v]) (f m8 v) :=
  readBack_encRm8 hr hi hm hop (by simp) fun _ _ _ _ => rfl

theorem readBack_pRmvRv {f : OSize → Rm → Reg → Instr} {r : Reg} (hr : Opens op (pRmvRv f))
    (hi : Latch.empty.after (f o m r) = none) (hm : m.wf = true) (hop : op.length ≤ 2) :
    ReadBack d pe (encRmv d o op r.toBits m []) (f o m r) :=
  readBack_encRmv (hr.modrm (fun _ => rfl) _) hi hm hop (Nat.zero_le 4) fun c b rest hb ho => by simp [hb, ho]

theorem readBack_pRvRmv {f : OSize → Reg → Rm → Instr} {r : Reg} (hr : Opens op (pRmvRv fun o m r => f o r m))
    (hi : Latch.empty.after (f o r m) = none) (hm : m.wf = true) (hop : op.length ≤ 2) :
    ReadBack d pe (encRmv d o op r.toBits m []) (f o r m) := readBack_pRmvRv hr hi hm hop

theorem readBack_pRvRmvImm8 {f : OSize → Reg → Rm → Byte → Instr} {r : Reg}
    (hr : Opens op (pRmvRvImm8 fun o m r v => f o r m v)) (hi : Latch.empty.after (f o r m v) = none) (hm : m.wf = true)
    (hop : op.length ≤ 2) : ReadBack d pe (encRmv d o op r.toBits m [v]) (f o r m v) :=
  readBack_encRmv (hr.modrm (fun _ => rfl) _) hi hm hop (by simp) fun c b rest hb ho => by simp [hb, ho]

theorem readBack_pRvRmvImmV {f : Reg → Rm → ImmV → Instr} {r : Reg} {w : ImmV}
    (hr : Opens op (pRmvRvImmV fun m r w => f r m w)) (hi : Latch.empty.after (f r m w) = none) (hm : m.wf = true)
    (hop : op.length ≤ 2) : ReadBack d pe (encRmv d w.osize op r.toBits m w.bytes) (f r m w) :=
  readBack_encRmv (hr.modrm (fun _ => rfl) _) hi hm hop (Laws.ImmV.bytes_length w).2 fun c b rest hb ho => by
    rw [run_askImmV _ _ _ ho, hb, Reg.ofBits_toBits, Dec.run_done]

theorem readBack_gRmv {f : OSize → Rm → Instr} (hr : OpensModrm op digit (gRmv f)) (hi : Latch.empty.after (f o m) = none)
    (hm : m.wf = true) (hop : op.length ≤ 2) : ReadBack d pe (encRmv d o op digit m []) (f o m) :=
  readBack_encRmv hr hi hm hop (Nat.zero_le 4) fun c b rest _ ho => by simp [ho]

theorem readBack_gRmvImm8 {f : OSize → Rm → Byte → Instr} (hr : OpensModrm op digit (gRmvImm8 f))
    (hi : Latch.empty.after (f o m v) = none) (hm : m.wf = true) (hop : op.length ≤ 2) :
    ReadBack d pe (encRmv d o op digit m [v]) (f o m v) :=
  readBack_encRmv hr hi hm hop (by simp) fun c b rest _ ho => by simp [ho]

theorem readBack_gRmvImmV {f : Rm → ImmV → Instr} {w : ImmV} (hr : OpensModrm op digit (gRmvImmV f))
    (hi : Latch.empty.after (f m w) = none) (hm : m.wf = true) (hop : op.length ≤ 2) :
    ReadBack d pe (encRmv d w.osize op digit m w.bytes) (f m w) :=
  readBack_encRmv hr hi hm hop (Laws.ImmV.bytes_length w).2 fun c b rest _ ho => by rw [run_askImmV _ _ _ ho, Dec.run_done]

theorem readBack_pRvMem {f : OSize → Reg → MemOp → Instr} {r : Reg} {a : MemOp} (hr : Opens op (pRvMem f))
    (hi : Latch.empty.after (f o r a) = none) (hm : a.wf = true) (hop : op.length ≤ 2) :
    ReadBack d pe (encMem d (some o) op r.toBits a) (f o r a) :=
  readBack_memOnly (hr.modrm (fun _ => rfl) _) hi hm hop fun c b rest hb ho => by simp [hb, ho]

theorem readBack_gMemV {f : OSize → MemOp → Instr} {a : MemOp} (hr : OpensModrm op digit (gMemV f))
    (hi : Latch.empty.after (f o a) = none) (hm : a.wf = true) (hop : op.length ≤ 2) :
    ReadBack d pe (encMem d (some o) op digit a) (f o a) :=
  readBack_memOnly hr hi hm hop fun c b rest _ ho => by simp [ho]

/-- 8C: every segment register is named by its number. -/
theorem readBack_pRm16Sreg {f : OSize → Rm → SReg → Instr} {g : SReg} (hr : Opens op (pRm16Sreg f))
    (hi : Latch.empty.after (f o m g) = none) (hm : m.wf = true) (hop : op.length ≤ 2) :
    ReadBack d pe (encRmv d o op g.toBits m []) (f o m g) := by
  refine readBack_encRmv (k := fun c _ m => .done (f c.osize m g)) (fun c b bs hb => ?_) hi hm hop (Nat.zero_le 4)
    fun c b rest _ ho => by simp [ho]
  rw [hr.modrm (fun _ => rfl) _ c b bs hb]
  simp only [hb, SReg.ofBits_toBits]

/-- 8E: a segment register other than CS. -/
theorem readBack_pSregRm16 {f : SReg → Rm → Instr} {g : SReg} (hr : Opens op (pSregRm16 f))
    (hi : Latch.empty.after (f g m) = none) (hg : g.loadable = true) (hm : m.wf = true) (hop : op.length ≤ 2) :
    ReadBack d pe (encRm16 d op g.toBits m) (f g m) := by
  refine readBack_encRm16 (k := fun _ _ m => .done (f g m)) (fun c b bs _ hb => ?_) hi hm hop fun c b rest _ => rfl
  rw [hr.modrm (fun _ => rfl) _ c b bs hb]
  simp only [hb, SReg.ofBits_toBits, if_pos hg]

/-- LLDT and LTR, in protected mode. -/
theorem readBack_gRm16Prot {f : Rm → Instr} (hr : OpensModrm op digit (gRm16Prot f)) (hi : Latch.empty.after (f m) = none)
    (hm : m.wf = true) (hop : op.length ≤ 2) : ReadBack d true (encRm16 d op digit m) (f m) := by
  refine readBack_encRm16 (k := fun _ _ m => .done (f m)) (fun c b bs hp hb => ?_) hi hm hop fun c b rest _ => rfl
  rw [hr c b bs hb, gRm16Prot, if_pos hp]

theorem readBack_pCr {f : Reg → CReg → Instr} {b : Byte} {r : Reg} {n : CReg} (hr : Opens [0x0F, b] (pCr f))
    (hi : Latch.empty.after (f r n) = none) : ReadBack d pe [0x0F, b, modrmByte 3 n.toBits r.toBits] (f r n) :=
  readBack_plain hi (by simp) fun c rest => (hr c (_ :: rest)).trans (by simp [pCr])

theorem readBack_pDr {f : Reg → DReg → Instr} {b : Byte} {r : Reg} {n : DReg} (hr : Opens [0x0F, b] (pDr f))
    (hi : Latch.empty.after (f r n) = none) : ReadBack d pe [0x0F, b, modrmByte 3 n.toBits r.toBits] (f r n) :=
  readBack_plain hi (by simp) fun c rest => (hr c (_ :: rest)).trans (by simp [pDr])

end Formats

end Sys2Proof

end

section

namespace Sys2Proof

/-! ## Every instruction is read back (spec/30_encoding.md R168) -/

/-- Each instruction but the rows that latch, by the format of its row. -/
theorem readBack_encode {d pe : Bool} (i : Instr) (hw : i.wf = true) (hp : Machine.needsProtection i = true → pe = true)
    (hi : Latch.empty.after i = none) : ReadBack d pe (encode d i) i := by
  cases i with
  | daa | das | aaa | aas | nop | sahf | lahf | int3 | into | inAlDx | outDxAl | hlt | cmc | clc | stc | cli | sti | cld |
    std | clts =>
    exact readBack_pNone (fun _ _ => rfl) hi (by simp [encode])
  | pushEs | popEs | pushCs | pushSs | popSs | pushDs | popDs | pusha | popa | cbwCwde | cwdCdq | pushf | popf | ret | retf
    | iret | inEaxDx | outDxEax | pushFs | popFs | pushGs | popGs =>
    exact readBack_pV (fun _ _ => rfl) hi (by simp)
  | addAlImm8 | orAlImm8 | adcAlImm8 | sbbAlImm8 | andAlImm8 | subAlImm8 | xorAlImm8 | cmpAlImm8 | testAlImm8 | int | aam |
    aad | inAlImm8 | outImm8Al =>
    exact readBack_pImm8 (fun _ _ => rfl) hi
  | pushSx8 | joRel8 | jnoRel8 | jbRel8 | jaeRel8 | jeRel8 | jneRel8 | jbeRel8 | jaRel8 | jsRel8 | jnsRel8 | jpRel8 |
    jnpRel8 | jlRel8 | jgeRel8 | jleRel8 | jgRel8 | inEaxImm8 | outImm8Eax | jmpRel8 =>
    exact readBack_pVImm8 (fun _ _ => rfl) hi
  | retImm16 | retfImm16 =>
    exact readBack_pVImm16 (fun _ _ => rfl) hi
  | addEaxImmv | orEaxImmv | adcEaxImmv | sbbEaxImmv | andEaxImmv | subEaxImmv | xorEaxImmv | cmpEaxImmv | pushImmv |
    testEaxImmv | callRelv | jmpRelv | joRelv | jnoRelv | jbRelv | jaeRelv | jeRelv | jneRelv | jbeRelv | jaRelv | jsRelv |
    jnsRelv | jpRelv | jnpRelv | jlRelv | jgeRelv | jleRelv | jgRelv =>
    exact readBack_pImmV (fun _ _ => rfl) hi (by simp)
  | callFar | jmpFar =>
    exact readBack_pFar (fun _ _ => rfl) hi
  | incRv | decRv | pushRv | popRv =>
    exact readBack_pReg (fun r _ _ => by cases r <;> rfl) hi
  | movRvImmv =>
    exact readBack_pRegImmV (fun r _ _ => by cases r <;> rfl) hi
  | movR8Imm8 r v =>
    exact readBack_pReg8Imm8 (fun _ _ => by cases r <;> rfl) hi
  | movAlMoffs | movMoffsAl =>
    exact readBack_pMoffs (fun _ _ => rfl) hi fun _ _ => rfl
  | movEaxMoffs | movMoffsEax =>
    exact readBack_pMoffs (fun _ _ => rfl) hi fun s hs => by rw [hs _ rfl]
  | addRm8R8 | orRm8R8 | adcRm8R8 | sbbRm8R8 | andRm8R8 | subRm8R8 | xorRm8R8 | cmpRm8R8 | testRm8R8 | movRm8R8 =>
    exact readBack_pRm8R8 (fun _ _ => rfl) hi hw (by simp)
  | addR8Rm8 | orR8Rm8 | adcR8Rm8 | sbbR8Rm8 | andR8Rm8 | subR8Rm8 | xorR8Rm8 | cmpR8Rm8 | movR8Rm8 =>
    exact readBack_pR8Rm8 (fun _ _ => rfl) hi hw (by simp)
  | rolRm8One | rorRm8One | rclRm8One | rcrRm8One | shlRm8One | shrRm8One | sarRm8One | rolRm8Cl | rorRm8Cl | rclRm8Cl |
    rcrRm8Cl | shlRm8Cl | shrRm8Cl | sarRm8Cl | notRm8 | negRm8 | mulRm8 | imulRm8 | divRm8 | idivRm8 | incRm8 | decRm8 =>
    exact readBack_gRm8 (opensModrm_group rfl rfl fun _ _ => rfl) hi hw (by simp)
  | addRm8Imm8 | orRm8Imm8 | adcRm8Imm8 | sbbRm8Imm8 | andRm8Imm8 | subRm8Imm8 | xorRm8Imm8 | cmpRm8Imm8 | rolRm8Imm8 |
    rorRm8Imm8 | rclRm8Imm8 | rcrRm8Imm8 | shlRm8Imm8 | shrRm8Imm8 | sarRm8Imm8 | movRm8Imm8 | testRm8Imm8 =>
    exact readBack_gRm8Imm8 (opensModrm_group rfl rfl fun _ _ => rfl) hi hw (by simp)
  | addRmvRv | orRmvRv | adcRmvRv | sbbRmvRv | andRmvRv | subRmvRv | xorRmvRv | cmpRmvRv | testRmvRv | movRmvRv =>
    exact readBack_pRmvRv (fun _ _ => rfl) hi hw (by simp)
  | addRvRmv | orRvRmv | adcRvRmv | sbbRvRmv | andRvRmv | subRvRmv | xorRvRmv | cmpRvRmv | movRvRmv | imulRvRmv =>
    exact readBack_pRvRmv (fun _ _ => rfl) hi hw (by simp)
  | imulRvRmvSx8 =>
    exact readBack_pRvRmvImm8 (fun _ _ => rfl) hi hw (by simp)
  | imulRvRmvImmv =>
    exact readBack_pRvRmvImmV (fun _ _ => rfl) hi hw (by simp)
  | rolRmvOne | rorRmvOne | rclRmvOne | rcrRmvOne | shlRmvOne | shrRmvOne | sarRmvOne | rolRmvCl | rorRmvCl | rclRmvCl |
    rcrRmvCl | shlRmvCl | shrRmvCl | sarRmvCl | notRmv | negRmv | mulRmv | imulRmv | divRmv | idivRmv | incRmv | decRmv |
    callRmv | jmpRmv =>
    exact readBack_gRmv (opensModrm_group rfl rfl fun _ _ => rfl) hi hw (by simp)
  | addRmvSx8 | orRmvSx8 | adcRmvSx8 | sbbRmvSx8 | andRmvSx8 | subRmvSx8 | xorRmvSx8 | cmpRmvSx8 | rolRmvImm8 | rorRmvImm8 |
    rclRmvImm8 | rcrRmvImm8 | shlRmvImm8 | shrRmvImm8 | sarRmvImm8 =>
    exact readBack_gRmvImm8 (opensModrm_group rfl rfl fun _ _ => rfl) hi hw (by simp)
  | addRmvImmv | orRmvImmv | adcRmvImmv | sbbRmvImmv | andRmvImmv | subRmvImmv | xorRmvImmv | cmpRmvImmv | movRmvImmv |
    testRmvImmv =>
    exact readBack_gRmvImmV (opensModrm_group rfl rfl fun _ _ => rfl) hi hw (by simp)
  | bound | lea =>
    exact readBack_pRvMem (fun _ _ => rfl) hi hw (by simp)
  | lgdt | lidt =>
    exact readBack_gMemV (opensModrm_group0F rfl fun _ _ => rfl) hi hw (by simp)
  | movRm16Sreg =>
    exact readBack_pRm16Sreg (fun _ _ => rfl) hi hw (by simp)
  | movSregRm16 g m =>
    obtain ⟨hg, hm⟩ := (Bool.and_eq_true _ _).mp hw
    exact readBack_pSregRm16 (fun _ _ => rfl) hi hg hm (by simp)
  | lldt | ltr =>
    obtain rfl := hp rfl
    exact readBack_gRm16Prot (opensModrm_group0F rfl fun _ _ => rfl) hi hw (by simp)
  | movR32Cr =>
    exact readBack_pCr (fun _ _ => rfl) hi
  | movCrR32 =>
    exact readBack_pCr (f := fun r n => .movCrR32 n r) (fun _ _ => rfl) hi
  | movR32Dr =>
    exact readBack_pDr (fun _ _ => rfl) hi
  | movDrR32 =>
    exact readBack_pDr (f := fun r n => .movDrR32 n r) (fun _ _ => rfl) hi
  | prefixEs | prefixCs | prefixSs | prefixDs | prefixFs | prefixGs | prefixOpsize | prefixAddrsize | prefixLock |
    prefixRepne | prefixRep =>
    cases hi

/-- A row that latches is its byte. -/
theorem run_decodeOne_encode_prefix {i : Instr} (hi : Latch.empty.after i ≠ none) (d : Bool) (c : DecodeCtx)
    (rest : List Byte) : (decodeOne c).run (encode d i ++ rest) = .ok i rest := by
  cases i with
  | prefixEs | prefixCs | prefixSs | prefixDs | prefixFs | prefixGs | prefixOpsize | prefixAddrsize | prefixLock |
    prefixRepne | prefixRep => rfl
  | _ => exact absurd rfl hi

/-- Settles O1: the prefixes select what the row then reads, and each format reads what the encoder writes of its operands. -/
theorem decodeOfEncodeIsInstruction : Obligations.DecodeOfEncodeIsInstruction :=
  fun d _ i rest hw hp =>
    ⟨fun hi => decode_of_readBack (readBack_encode i hw hp hi) rest, fun hi => run_decodeOne_encode_prefix hi d _ rest⟩

end Sys2Proof

end

section

namespace Sys2Proof

/-! ## Decodings that stop (spec/30_encoding.md R160, R161) -/

/-- The bytes make an instruction invalid, or not admitted. -/
def DecodeResult.Stops {α : Type} (r : DecodeResult α) : Prop := r = .invalid ∨ ∃ q, r = .refused q

theorem Dec.run_bind_stops {α : Type} {m : Dec α} {f : α → Dec α} {bs : List Byte} (h : (m.run bs).Stops) :
    (m.bind f).run bs = m.run bs := by
  induction m generalizing bs with
  | done a => obtain h | ⟨q, h⟩ := h <;> cases h
  | ask k ih =>
    cases bs with
    | nil => obtain h | ⟨q, h⟩ := h <;> cases h
    | cons b bs => exact ih b h
  | invalid => rfl
  | refuse q => rfl

/-- A first row that stops whatever follows stops the instruction. -/
theorem decode_of_stops {c : DecodeCtx} {bs : List Byte} {r : DecodeResult Instr} (hr : r.Stops) (hlen : bs.length ≤ 15)
    (h : ∀ rest, (decodeOne c).run (bs ++ rest) = r) (rest : List Byte) : decode c (bs ++ rest) = r := by
  rw [decode, List.take_append, List.take_of_length_le hlen, decodeFrom, Dec.run_bind_stops (by rwa [h]), h]
  obtain rfl | ⟨q, rfl⟩ := hr <;> rfl

theorem stops_invalid : (DecodeResult.invalid : DecodeResult Instr).Stops := .inl rfl

theorem stops_refused (q : DecodeRefusal) : (DecodeResult.refused q : DecodeResult Instr).Stops := .inr ⟨q, rfl⟩

/-- A row that stops at its ModR/M byte b. -/
theorem decode_modrm_stops {c : DecodeCtx} {op : List Byte} {b : Byte} {p : DecodeCtx → Byte → Dec Instr}
    {r : DecodeResult Instr} (ho : OpensModrm op (regField b) p) (hop : op.length ≤ 2) (hr : r.Stops)
    (h : ∀ bs, (p c b).run bs = r) (rest : List Byte) : decode c (op ++ b :: rest) = r := by
  rw [List.append_cons]
  refine decode_of_stops hr (by simp; omega) (fun rest => ?_) rest
  rw [List.append_assoc, List.singleton_append, ho c b rest rfl, h]

/-- A `/r` row whose ModR/M byte b makes the instruction invalid. -/
theorem decode_slashR_invalid {c : DecodeCtx} {op : List Byte} {b : Byte} {p : DecodeCtx → Byte → Dec Instr}
    (ho : Opens op p) (hop : op.length ≤ 2) (h : ∀ bs, (p c 0).run (b :: bs) = .invalid) (rest : List Byte) :
    decode c (op ++ b :: rest) = .invalid := by
  rw [List.append_cons]
  refine decode_of_stops stops_invalid (by simp; omega) (fun rest => ?_) rest
  rw [List.append_assoc, List.singleton_append, ho, h]

/-- An operand that must be memory is none where mod = 3 (R160). -/
theorem run_askMemOnly_register {c : DecodeCtx} {b : Byte} (h : modField b = 3) (k : MemOp → Dec Instr) (bs : List Byte) :
    (askMemOnly c b k).run bs = .invalid := by
  rw [askMemOnly, if_pos h]
  rfl

/-! ## What is not admitted (spec/30_encoding.md R161) -/

/-- No group row has the opcode and the reg field. -/
def noMember (grps : List GroupRow) (op : Byte) (reg : BitVec 3) : Bool := grps.all fun g => !(g.opcode == op && g.digit == reg)

theorem groupParse_of_noMember {grps : List GroupRow} {op : Byte} {reg : BitVec 3} (h : noMember grps op reg = true)
    (c : DecodeCtx) (b : Byte) : groupParse grps op reg c b = .refuse .groupMemberNotAdmitted := by
  have hf : (grps.find? fun g => g.opcode == op && g.digit == reg) = none := by
    simpa [noMember, imp_iff_not_or] using h
  rw [groupParse, hf]

/-- A group opcode of the one-byte map without a row for the reg field. -/
def lacksMember (op : Byte) (reg : BitVec 3) : Bool :=
  plainByte op && leadsGroup opRows groupRows op && noMember groupRows op reg

/-- A group opcode of the 0F map without a row for the reg field. -/
def lacksMember0F (op : Byte) (reg : BitVec 3) : Bool := leadsGroup op0FRows group0FRows op && noMember group0FRows op reg

theorem decode_of_lacksMember {op b : Byte} (h : lacksMember op (regField b) = true) (c : DecodeCtx) (rest : List Byte) :
    decode c (op :: b :: rest) = .refused .groupMemberNotAdmitted := by
  rw [lacksMember, Bool.and_eq_true, Bool.and_eq_true] at h
  obtain ⟨⟨hp, hg⟩, hn⟩ := h
  exact decode_modrm_stops (op := [op]) (opensModrm_group hp hg (groupParse_of_noMember hn)) (by simp) (stops_refused _)
    (fun _ => rfl) rest

theorem decode_of_lacksMember0F {op b : Byte} (h : lacksMember0F op (regField b) = true) (c : DecodeCtx) (rest : List Byte) :
    decode c (0x0F :: op :: b :: rest) = .refused .groupMemberNotAdmitted := by
  rw [lacksMember0F, Bool.and_eq_true] at h
  obtain ⟨hg, hn⟩ := h
  exact decode_modrm_stops (op := [0x0F, op]) (opensModrm_group0F hg (groupParse_of_noMember hn)) (by simp)
    (stops_refused _) (fun _ => rfl) rest

/-- A byte of no row. -/
def noRow (ops : List OpRow) (grps : List GroupRow) (b : Byte) : Bool :=
  (ops.all fun r => !((b &&& r.mask) == r.opcode)) && grps.all fun g => !(g.opcode == b)

theorem decodeOp_of_noRow {ops : List OpRow} {grps : List GroupRow} {b : Byte} (h : noRow ops grps b = true) (c : DecodeCtx) :
    decodeOp ops grps c b = .refuse .opcodeNotAdmitted := by
  rw [noRow, Bool.and_eq_true] at h
  obtain ⟨ho, hg⟩ := h
  have hf : (ops.find? fun r => (b &&& r.mask) == r.opcode) = none := by simpa using ho
  have hn : ¬(grps.any fun g => g.opcode == b) = true := by simpa using hg
  rw [decodeOp, hf]
  exact if_neg hn

theorem decode_opcode_refused {b : Byte} (hp : plainByte b = true) (h : noRow opRows groupRows b = true) (c : DecodeCtx)
    (rest : List Byte) : decode c (b :: rest) = .refused .opcodeNotAdmitted :=
  decode_of_stops (bs := [b]) (stops_refused _) (by simp)
    (fun rest => (run_decodeOne_of_plainByte hp c rest).trans (by rw [decodeOp_of_noRow h]; rfl)) rest

theorem decode_opcode0F_refused {b : Byte} (h : noRow op0FRows group0FRows b = true) (c : DecodeCtx) (rest : List Byte) :
    decode c (0x0F :: b :: rest) = .refused .opcodeNotAdmitted :=
  decode_of_stops (bs := [0x0F, b]) (stops_refused _) (by simp)
    (fun rest => (run_decodeOne_0F c b rest).trans (by rw [decodeOp_of_noRow h]; rfl)) rest

/-- A byte outside a list of all the opcodes of a map whose rows have no register in the opcode. -/
theorem noRow_of_not_mem {ops : List OpRow} {grps : List GroupRow} {opcodes : List Byte} {b : Byte}
    (ho : ∀ r ∈ ops, r.mask = BitVec.allOnes 8 ∧ r.opcode ∈ opcodes) (hg : ∀ g ∈ grps, g.opcode ∈ opcodes)
    (h : b ∉ opcodes) : noRow ops grps b = true := by
  rw [noRow, Bool.and_eq_true, List.all_eq_true, List.all_eq_true]
  refine ⟨fun r hr => ?_, fun g hgm => ?_⟩
  · obtain ⟨hm, hc⟩ := ho r hr
    rw [hm, BitVec.and_allOnes, Bool.not_eq_true', beq_eq_false_iff_ne]
    exact (ne_of_mem_of_not_mem hc h).symm
  · rw [Bool.not_eq_true', beq_eq_false_iff_ne]
    exact ne_of_mem_of_not_mem (hg g hgm) h

/-! ## Forms that are invalid (spec/30_encoding.md R160) -/

section Invalid

variable {c : DecodeCtx} {b op : Byte} {bs : List Byte}

/-- 8E: CS and the numbers of no segment register. -/
theorem run_pSregRm16_invalid {f : SReg → Rm → Instr} (h : regField b = 1 ∨ regField b = 6 ∨ regField b = 7) :
    (pSregRm16 f c op).run (b :: bs) = .invalid := by
  rcases h with h | h | h <;> simp only [pSregRm16, Dec.run_ask, h] <;> rfl

theorem run_pRm16Sreg_invalid {f : OSize → Rm → SReg → Instr} (h : regField b = 6 ∨ regField b = 7) :
    (pRm16Sreg f c op).run (b :: bs) = .invalid := by
  rcases h with h | h <;> simp only [pRm16Sreg, Dec.run_ask, h] <;> rfl

theorem run_pCr_invalid {f : Reg → CReg → Instr}
    (h : regField b = 1 ∨ regField b = 5 ∨ regField b = 6 ∨ regField b = 7) : (pCr f c op).run (b :: bs) = .invalid := by
  rcases h with h | h | h | h <;> simp only [pCr, Dec.run_ask, h] <;> rfl

theorem run_pRvMem_invalid {f : OSize → Reg → MemOp → Instr} (h : modField b = 3) :
    (pRvMem f c op).run (b :: bs) = .invalid := by rw [pRvMem, Dec.run_ask, run_askMemOnly_register h]

theorem run_gMemV_invalid {f : OSize → MemOp → Instr} (h : modField b = 3) : (gMemV f c b).run bs = .invalid :=
  run_askMemOnly_register h _ bs

theorem run_gRm16Prot_invalid {f : Rm → Instr} (h : c.pe = false) : (gRm16Prot f c b).run bs = .invalid := by
  rw [gRm16Prot, h]
  rfl

end Invalid

/-- Settles O4: each clause is a row that stops at the byte that decides it, or a byte that leads to no row. -/
theorem invalidAndUnadmittedEncodings : Obligations.InvalidAndUnadmittedEncodings := by
  unfold Obligations.InvalidAndUnadmittedEncodings
  intro c b rest
  dsimp only
  refine ⟨fun h => ?_, fun h => ?_, fun h => ⟨?_, ?_⟩, fun h hr => ?_, fun h hr => ?_, fun h => ⟨?_, ?_⟩, fun h => ?_,
    fun h op hop => ?_, fun h op hop => ?_, fun h op hop => ?_, fun h => ?_, fun h => ?_, fun h op hop => ?_, fun h => ?_⟩
  · exact decode_slashR_invalid (op := [0x8E]) (p := pSregRm16 .movSregRm16) (fun _ _ => rfl) (by simp)
      (fun _ => run_pSregRm16_invalid h) rest
  · exact decode_slashR_invalid (op := [0x8C]) (p := pRm16Sreg .movRm16Sreg) (fun _ _ => rfl) (by simp)
      (fun _ => run_pRm16Sreg_invalid h) rest
  · exact decode_slashR_invalid (op := [0x8D]) (p := pRvMem .lea) (fun _ _ => rfl) (by simp)
      (fun _ => run_pRvMem_invalid h) rest
  · exact decode_slashR_invalid (op := [0x62]) (p := pRvMem .bound) (fun _ _ => rfl) (by simp)
      (fun _ => run_pRvMem_invalid h) rest
  · obtain hr | hr := hr
    · exact decode_modrm_stops (op := [0x0F, 0x01]) (p := gMemV .lgdt) (hr ▸ opensModrm_group0F rfl fun _ _ => rfl) (by simp)
        stops_invalid (fun _ => run_gMemV_invalid h) rest
    · exact decode_modrm_stops (op := [0x0F, 0x01]) (p := gMemV .lidt) (hr ▸ opensModrm_group0F rfl fun _ _ => rfl) (by simp)
        stops_invalid (fun _ => run_gMemV_invalid h) rest
  · obtain hr | hr := hr
    · exact decode_modrm_stops (op := [0x0F, 0x00]) (p := gRm16Prot .lldt) (hr ▸ opensModrm_group0F rfl fun _ _ => rfl)
        (by simp) stops_invalid (fun _ => run_gRm16Prot_invalid h) rest
    · exact decode_modrm_stops (op := [0x0F, 0x00]) (p := gRm16Prot .ltr) (hr ▸ opensModrm_group0F rfl fun _ _ => rfl)
        (by simp) stops_invalid (fun _ => run_gRm16Prot_invalid h) rest
  · exact decode_slashR_invalid (op := [0x0F, 0x20]) (p := pCr .movR32Cr) (fun _ _ => rfl) (by simp)
      (fun _ => run_pCr_invalid h) rest
  · exact decode_slashR_invalid (op := [0x0F, 0x22]) (p := pCr fun r n => .movCrR32 n r) (fun _ _ => rfl) (by simp)
      (fun _ => run_pCr_invalid h) rest
  · have hb : plainByte b = true ∧ noRow opRows groupRows b = true := by revert b; decide +kernel
    exact decode_opcode_refused hb.1 hb.2 c rest
  · have hl : ∀ op ∈ ([0xC0, 0xC1, 0xD0, 0xD1, 0xD2, 0xD3] : List Byte), lacksMember op 6 = true := by decide +kernel
    exact decode_of_lacksMember (h ▸ hl op hop) c rest
  · have hl : ∀ reg ≠ 0, ∀ op ∈ ([0xC6, 0xC7] : List Byte), lacksMember op reg = true := by decide +kernel
    exact decode_of_lacksMember (hl _ h op hop) c rest
  · have hl : ∀ op ∈ ([0xF6, 0xF7] : List Byte), lacksMember op 1 = true := by decide +kernel
    exact decode_of_lacksMember (h ▸ hl op hop) c rest
  · have hl : ∀ reg : BitVec 3, 2 ≤ reg.toNat → lacksMember 0xFE reg = true := by decide +kernel
    exact decode_of_lacksMember (hl _ h) c rest
  · have hl : ∀ reg : BitVec 3, reg = 3 ∨ reg = 5 ∨ reg = 6 ∨ reg = 7 → lacksMember 0xFF reg = true := by
      decide +kernel
    exact decode_of_lacksMember (hl _ h) c rest
  · have hl : ∀ reg : BitVec 3, reg = 0 ∨ reg = 1 ∨ 4 ≤ reg.toNat → ∀ op ∈ ([0x00, 0x01] : List Byte),
        lacksMember0F op reg = true := by decide +kernel
    exact decode_of_lacksMember0F (hl _ h op hop) c rest
  · exact decode_opcode0F_refused (noRow_of_not_mem (by decide) (by decide) h) c rest

end Sys2Proof

end

section

namespace Sys2Proof

/-! ## What is decoded is well formed (spec/30_encoding.md R148 to R150, R160) -/

section WellFormed

variable {P : Instr → Prop}

theorem Base16.ofBits_ne_bp {n : BitVec 3} (h : n ≠ 6) : Base16.ofBits n ≠ .bp := by revert n; decide

theorem Reg.ofBits_ne_ebp {n : BitVec 3} (h : n ≠ 5) : Reg.ofBits n ≠ .ebp := by revert n; decide

theorem Addr.wf_base16 {b : Base16} {x : Disp16} (h : b ≠ .bp ∨ x ≠ .none) : (Addr.base16 b x).wf = true := by
  cases x with
  | none =>
    have hb : b ≠ .bp := h.resolve_right fun hx => hx rfl
    cases b with
    | bp => exact absurd rfl hb
    | _ => rfl
  | _ => cases b <;> rfl

theorem Addr.wf_base32 {b : Reg} {i : Option (Index × Scale)} {x : Disp32} (h : b ≠ .ebp ∨ x ≠ .none) :
    (Addr.base32 b i x).wf = true := by
  cases x with
  | none =>
    have hb : b ≠ .ebp := h.resolve_right fun hx => hx rfl
    cases b with
    | ebp => exact absurd rfl hb
    | _ => rfl
  | _ => cases b <;> rfl

theorem Dec.all_askAddr16_wf {md : BitVec 2} {rm : BitVec 3} {k : Addr → Dec Instr} (h : ∀ a, a.wf = true → (k a).All P) :
    (askAddr16 md rm k).All P := by
  unfold askAddr16
  split
  · split
    · exact all_askHalf fun _ => h _ rfl
    · next h6 => exact h _ (Addr.wf_base16 (.inl (Base16.ofBits_ne_bp h6)))
  · split
    · exact fun _ => h _ (Addr.wf_base16 (.inr nofun))
    · exact all_askHalf fun _ => h _ (Addr.wf_base16 (.inr nofun))

/-- The displacement of a base: none only with mod = 0. -/
theorem Dec.all_askDisp32_wf {md : BitVec 2} {n : BitVec 3} {i : Option (Index × Scale)} {k : Addr → Dec Instr}
    (hn : ¬(md = 0 ∧ n = 5)) (h : ∀ a, a.wf = true → (k a).All P) :
    (askDisp32 md fun x => k (.base32 (Reg.ofBits n) i x)).All P := by
  unfold askDisp32
  split
  · next h0 => exact h _ (Addr.wf_base32 (.inl (Reg.ofBits_ne_ebp fun h5 => hn ⟨h0, h5⟩)))
  · split
    · exact fun _ => h _ (Addr.wf_base32 (.inr nofun))
    · exact all_askWord fun _ => h _ (Addr.wf_base32 (.inr nofun))

theorem Dec.all_askAddr32_wf {md : BitVec 2} {rm : BitVec 3} {k : Addr → Dec Instr} (h : ∀ a, a.wf = true → (k a).All P) :
    (askAddr32 md rm k).All P := by
  unfold askAddr32
  split
  · intro sib
    dsimp only
    split
    · exact all_askWord fun _ => h _ rfl
    · next h5 => exact all_askDisp32_wf h5 h
  · split
    · exact all_askWord fun _ => h _ rfl
    · next h5 => exact all_askDisp32_wf h5 h

theorem Dec.all_askMem_wf {c : DecodeCtx} {b : Byte} {k : MemOp → Dec Instr} (h : ∀ m, m.wf = true → (k m).All P) :
    (askMem c b k).All P := by
  unfold askMem
  split
  · exact all_askAddr16_wf fun a ha => h ⟨c.latch.seg, a⟩ ha
  · exact all_askAddr32_wf fun a ha => h ⟨c.latch.seg, a⟩ ha

theorem Dec.all_askMemOnly_wf {c : DecodeCtx} {b : Byte} {k : MemOp → Dec Instr} (h : ∀ m, m.wf = true → (k m).All P) :
    (askMemOnly c b k).All P := by
  unfold askMemOnly
  split
  · trivial
  · exact all_askMem_wf h

theorem Dec.all_askRm8_wf {c : DecodeCtx} {b : Byte} {k : Rm8 → Dec Instr} (h : ∀ m, m.wf = true → (k m).All P) :
    (askRm8 c b k).All P := by
  unfold askRm8
  split
  · exact h _ rfl
  · exact all_askMem_wf fun m hm => h (.mem m) hm

theorem Dec.all_askRm_wf {c : DecodeCtx} {b : Byte} {k : Rm → Dec Instr} (h : ∀ m, m.wf = true → (k m).All P) :
    (askRm c b k).All P := by
  unfold askRm
  split
  · exact h _ rfl
  · exact all_askMem_wf fun m hm => h (.mem m) hm

/-- An r/mv operand and an immv. -/
theorem Dec.all_askRm_askImmV_wf {c : DecodeCtx} {b : Byte} {k : Rm → ImmV → Dec Instr}
    (h : ∀ m v, m.wf = true → (k m v).All P) : (askRm c b fun m => askImmV c (k m)).All P :=
  all_askRm_wf fun m hm => all_askImmV fun v => h m v hm

end WellFormed

/-- The instruction is well formed. -/
def Instr.WellFormed (i : Instr) : Prop := i.wf = true

theorem pSregRm16_wellFormed (c : DecodeCtx) (b : Byte) : (pSregRm16 .movSregRm16 c b).All Instr.WellFormed := by
  intro b2
  dsimp only
  split
  · split
    · next hg => exact Dec.all_askRm_wf fun m hm => (Bool.and_eq_true _ _).mpr ⟨hg, hm⟩
    · trivial
  · trivial

theorem pRm16Sreg_wellFormed (c : DecodeCtx) (b : Byte) : (pRm16Sreg .movRm16Sreg c b).All Instr.WellFormed := by
  intro b2
  dsimp only
  split
  · exact Dec.all_askRm_wf fun m hm => hm
  · trivial

theorem pCr_wellFormed {f : Reg → CReg → Instr} (h : ∀ r n, (Dec.done (f r n)).All Instr.WellFormed) (c : DecodeCtx)
    (b : Byte) : (pCr f c b).All Instr.WellFormed := by
  intro b2
  dsimp only
  split
  · exact h _ _
  · trivial

/-- Every row of the opcode maps decodes well-formed instructions. -/
theorem opRows_wellFormed (c : DecodeCtx) (b : Byte) : ∀ r ∈ opRows ++ op0FRows, (r.parse c b).All Instr.WellFormed := by
  simp only [opRows, op0FRows, List.forall_mem_append]
  refine ⟨⟨⟨⟨⟨⟨?_, ?_⟩, ?_⟩, ?_⟩, ?_⟩, ?_⟩, ?_, ?_⟩
  all_goals
    simp [opRows1, opRows2, opRows3, opRows4, opRows5, opRows6, op0FRows1, op0FRows2, row, rowR, pCr_wellFormed,
      pSregRm16_wellFormed, pRm16Sreg_wellFormed, pNone, pV, pReg, pReg8Imm8, pRegImmV, pImm8, pVImm8, pVImm16, pImmV, pFar,
      pMoffs, pRm8R8, pRmvRv, pRmvRvImm8, pRmvRvImmV, pRvMem, pDr, Dec.all_askHalf, Dec.all_askImmV, Dec.all_askMoffs,
      Dec.all_askMemOnly_wf, Dec.all_askRm8_wf, Dec.all_askRm_wf, Dec.all_askRm_askImmV_wf, Instr.WellFormed, Instr.wf]

/-- Every group row decodes well-formed instructions. -/
theorem groupRows_wellFormed (c : DecodeCtx) (b : Byte) :
    ∀ r ∈ groupRows ++ group0FRows, (r.parse c b).All Instr.WellFormed := by
  simp only [groupRows, List.forall_mem_append]
  refine ⟨⟨⟨⟨?_, ?_⟩, ?_⟩, ?_⟩, ?_⟩
  all_goals
    simp [groupRows1, groupRows2, groupRows3, groupRows4, group0FRows, gRm8, gRmv, gRm8Imm8, gRmvImm8, gRmvImmV, gMemV,
      gRm16Prot, apply_ite (Dec.All _), Dec.all_askMemOnly_wf, Dec.all_askRm8_wf, Dec.all_askRm_wf,
      Dec.all_askRm_askImmV_wf, Instr.WellFormed, Instr.wf]

theorem decodeOp_wellFormed {ops : List OpRow} {grps : List GroupRow} (c : DecodeCtx) (b : Byte)
    (ho : ∀ r ∈ ops, (r.parse c b).All Instr.WellFormed) (hg : ∀ b, ∀ r ∈ grps, (r.parse c b).All Instr.WellFormed) :
    (decodeOp ops grps c b).All Instr.WellFormed := by
  unfold decodeOp
  split
  · exact ho _ (List.mem_of_find?_eq_some ‹_›)
  · split
    · intro modrm
      dsimp only
      split
      · exact hg _ _ (List.mem_of_find?_eq_some ‹_›)
      · trivial
    · trivial

/-- One row is decoded to a well-formed instruction. -/
theorem decodeOne_wellFormed (c : DecodeCtx) : (decodeOne c).All Instr.WellFormed := by
  have hpre : ∀ r ∈ prefixRows, r.2.wf = true := by decide
  intro b
  dsimp only
  split
  · exact hpre _ (List.mem_of_find?_eq_some ‹_›)
  · split
    · exact fun b2 => decodeOp_wellFormed c b2 (fun r hr => opRows_wellFormed c b2 r (List.mem_append_right _ hr))
        fun m r hr => groupRows_wellFormed c m r (List.mem_append_right _ hr)
    · exact decodeOp_wellFormed c b (fun r hr => opRows_wellFormed c b r (List.mem_append_left _ hr))
        fun m r hr => groupRows_wellFormed c m r (List.mem_append_left _ hr)

/-! ## What is decoded (spec/30_encoding.md R144, R159) -/

theorem Dec.All.bind {α β : Type} {P : α → Prop} {Q : β → Prop} {m : Dec α} {f : α → Dec β} (hm : m.All P)
    (hf : ∀ a, P a → (f a).All Q) : (m.bind f).All Q := by
  induction m with
  | done a => exact hf a hm
  | ask k ih => exact fun b => ih b (hm b)
  | invalid => trivial
  | refuse r => trivial

/-- A whole instruction is well formed, and latches nothing. -/
theorem decodeFrom_all (n : Nat) (c : DecodeCtx) :
    (decodeFrom n c).All fun i => i.wf = true ∧ Latch.empty.after i = none := by
  induction n generalizing c with
  | zero => exact fun _ => trivial
  | succ n ih =>
    refine (decodeOne_wellFormed c).bind fun i hi => ?_
    split
    · exact ih _
    · next h => exact ⟨hi, by rw [← Option.not_isSome_iff_eq_none, Machine.Latch.after_isSome _ c.latch, h]; decide⟩

/-- What a decoding gives on a list of bytes is one of the results it can give, and the bytes left over are its tail. -/
theorem Dec.All.of_run {α : Type} {P : α → Prop} {m : Dec α} {bs rest : List Byte} {a : α} (hm : m.All P)
    (h : m.run bs = .ok a rest) : P a ∧ ∃ used, bs = used ++ rest := by
  induction m generalizing bs with
  | done b =>
    cases h
    exact ⟨hm, [], rfl⟩
  | ask k ih =>
    cases bs with
    | nil => cases h
    | cons b bs =>
      obtain ⟨ha, used, hu⟩ := ih b (hm b) h
      exact ⟨ha, b :: used, by rw [hu]; rfl⟩
  | invalid => cases h
  | refuse r => cases h

/-- A decoding that asks takes at least one byte. -/
theorem Dec.All.of_run_ask {α : Type} {P : α → Prop} {k : Byte → Dec α} {bs rest : List Byte} {a : α}
    (hm : (Dec.ask k).All P) (h : (Dec.ask k).run bs = .ok a rest) : P a ∧ ∃ b used, bs = b :: used ++ rest := by
  cases bs with
  | nil => cases h
  | cons b bs =>
    obtain ⟨ha, used, hu⟩ := (hm b).of_run h
    exact ⟨ha, b, used, by rw [hu]; rfl⟩

/-- An instruction is decoded from the first fifteen bytes (R144). -/
theorem run_of_decode {c : DecodeCtx} {bs rest : List Byte} {i : Instr} (h : decode c bs = .ok i rest) :
    ∃ r, (decodeFrom 16 c).run (bs.take 15) = .ok i r ∧ rest = r ++ bs.drop 15 := by
  rw [decode] at h
  cases e : (decodeFrom 16 c).run (bs.take 15) with
  | ok j r =>
    rw [e] at h
    cases h
    exact ⟨r, rfl, rfl⟩
  | truncated =>
    rw [e] at h
    dsimp only at h
    split at h <;> cases h
  | tooLong | invalid | refused =>
    rw [e] at h
    cases h

/-- Settles O2: every row decodes well-formed instructions, and what is used lies in the first fifteen bytes. -/
theorem decodedInstructionIsWellFormed : Obligations.DecodedInstructionIsWellFormed := by
  intro c bs i rest h
  obtain ⟨r, hrun, rfl⟩ := run_of_decode h
  obtain ⟨⟨hw, hi⟩, b, used, hu⟩ := (decodeFrom_all 16 c).of_run_ask hrun
  refine ⟨hw, hi, b :: used, ?_, by simp, ?_⟩
  · rw [← List.append_assoc, ← hu, List.take_append_drop]
  · have := congrArg List.length hu
    simp only [List.length_take, List.length_append] at this
    omega

end Sys2Proof

end

section

namespace Sys2Proof

/-! ## Decodings that need more bytes, or stop at one (spec/30_encoding.md R144, R159) -/

theorem Dec.run_append {α : Type} {m : Dec α} {bs rest : List Byte} {a : α} (h : m.run bs = .ok a rest) (more : List Byte) :
    m.run (bs ++ more) = .ok a (rest ++ more) := by
  induction m generalizing bs with
  | done b =>
    cases h
    rfl
  | ask k ih =>
    cases bs with
    | nil => cases h
    | cons b bs => exact ih b h
  | invalid => cases h
  | refuse r => cases h

/-- Where a decoding needs more bytes, either its first part does, or that part is done and what follows does. -/
theorem Dec.run_bind_truncated {α β : Type} {m : Dec α} {f : α → Dec β} {bs : List Byte}
    (h : (m.bind f).run bs = .truncated) :
    m.run bs = .truncated ∨ ∃ a rest, m.run bs = .ok a rest ∧ (f a).run rest = .truncated := by
  induction m generalizing bs with
  | done a => exact .inr ⟨a, bs, rfl, h⟩
  | ask k ih =>
    cases bs with
    | nil => exact .inl rfl
    | cons b bs => exact ih b h
  | invalid => cases h
  | refuse r => cases h

/-- Without bytes, a decoding stops only where its first part does, when nothing that follows that part stops at once. -/
theorem Dec.run_nil_of_bind_stops {α : Type} {m : Dec α} {f : α → Dec α} (hf : ∀ a, ¬((f a).run []).Stops)
    (h : ((m.bind f).run []).Stops) : m.run [] = (m.bind f).run [] := by
  cases m with
  | done a => exact absurd h (hf a)
  | ask k => rfl
  | invalid => rfl
  | refuse r => rfl

/-- An instruction's first row is followed by more rows or by nothing, and neither stops without a byte. -/
theorem not_stops_decodeFrom_nil (n : Nat) (c : DecodeCtx) (i : Instr) :
    ¬(Dec.run (match c.latch.after i with | some l => decodeFrom n { c with latch := l } | none => .done i) []).Stops := by
  rintro (h | ⟨q, h⟩) <;> split at h <;> cases n <;> cases h

theorem decode_of_length_le {c : DecodeCtx} {bs : List Byte} (h : bs.length ≤ 15) :
    decode c bs = (decodeFrom 16 c).run bs := by
  rw [decode, List.take_of_length_le h, List.drop_of_length_le h]
  cases (decodeFrom 16 c).run bs with
  | ok i rest => simp
  | truncated => exact if_neg (Nat.not_lt.mpr h)
  | tooLong | invalid | refused => rfl

theorem Dec.eq_invalid_of_run {α : Type} {m : Dec α} (h : m.run [] = .invalid) : m = .invalid := by
  cases m <;> cases h
  rfl

theorem Dec.eq_refuse_of_run {α : Type} {m : Dec α} {r : DecodeRefusal} (h : m.run [] = .refused r) : m = .refuse r := by
  cases m <;> cases h
  rfl

end Sys2Proof

namespace Sys2Proof.Machine

/-! ## Fetching an instruction that stops or does not end (spec/30_encoding.md R144, R159 to R161) -/

theorem State.fetches_append {s t : State} {bs cs : List Byte} :
    s.Fetches (bs ++ cs) t ↔ ∃ u, s.Fetches bs u ∧ u.Fetches cs t := by
  induction bs generalizing s with
  | nil => simp [State.fetches_nil]
  | cons b bs ih =>
    simp only [List.cons_append, State.fetches_cons, ih]
    constructor
    · rintro ⟨v, hb, u, hbs, hcs⟩
      exact ⟨u, ⟨v, hb, hbs⟩, hcs⟩
    · rintro ⟨u, ⟨v, hb, hbs⟩, hcs⟩
      exact ⟨v, hb, u, hbs, hcs⟩

/-- A decoding that needs more bytes than were fetched has fetched them all and asks for one more. -/
theorem runDec_of_truncated {d : Dec Instr} {s t : State} {bs : List Byte} (h : d.run bs = .truncated)
    (hf : s.Fetches bs t) :
    ∃ k, runDec d s = runDec (.ask k) t ∧
      ∀ (f : Instr → Dec Instr) (b : Byte), (d.bind f).run (bs ++ [b]) = ((k b).bind f).run [] := by
  induction d generalizing s bs with
  | done i => cases h
  | ask k ih =>
    cases bs with
    | nil =>
      obtain rfl := State.fetches_nil.mp hf
      exact ⟨k, rfl, fun _ _ => rfl⟩
    | cons b bs =>
      obtain ⟨u, hb, hf⟩ := State.fetches_cons.mp hf
      obtain ⟨k', hk, hm⟩ := ih b h hf
      exact ⟨k', (M.bind_ok hb).trans hk, hm⟩
  | invalid => cases h
  | refuse r => cases h

/-- What a fetch does after a row: it goes on after one that latches, and ends after any other. -/
def afterRow (n : Nat) (i : Instr) : M Instr :=
  if (Latch.empty.after i).isSome then runPrefix i >>= fun _ => fetchInstr n else pure i

theorem fetchInstr_succ (n : Nat) (s : State) :
    fetchInstr (n + 1) s = (runDec (decodeOne s.decodeCtx) >>= afterRow n) s := rfl

/-- Fetching a row that latches goes on with the next row, with what it latches (spec/30_encoding.md R141). -/
theorem fetchInstr_of_prefix {n : Nat} {s t : State} {bs rest : List Byte} {i : Instr} {l : Latch}
    (h : (decodeOne s.decodeCtx).run bs = .ok i rest) (hl : s.decodeCtx.latch.after i = some l) (hf : s.Fetches bs t) :
    ∃ u l', fetchInstr (n + 1) s = fetchInstr n u ∧ u.decodeCtx = { s.decodeCtx with latch := l } ∧
      u.Fetches rest (t.withLatch l') ∧ l'.len = t.latch.len := by
  obtain ⟨m, u, hr, ha, hu⟩ := runDec_of_run h hf
  have hul : u.latch = s.decodeCtx.latch.sized u.latch.len := by rw [ha]; rfl
  have hlatch : u.latch.after i = some (l.sized u.latch.len) := by
    rw [hul]
    exact Latch.after_sized hl _
  have hl0 : l.sized 0 = l := (Option.some.inj (hl.symm.trans (Latch.after_sized hl 0))).symm
  refine ⟨u.withLatch (l.sized u.latch.len), (l.sized u.latch.len).sized t.latch.len, ?_, ?_, hu.withLatch rfl, rfl⟩
  · rw [fetchInstr_succ, M.bind_ok hr, afterRow, Latch.after_isSome _ s.decodeCtx.latch, hl]
    exact M.bind_ok (runPrefix_apply hlatch)
  · rw [ha, ← hl0]
    rfl

/-- A fetch that needs more bytes than it was given has taken them all, and asks for another with some latches; the byte that
then makes the instruction stop makes its last row stop. -/
theorem fetchInstr_of_truncated {n : Nat} {s t : State} {bs : List Byte} (hn : bs.length < n)
    (h : (decodeFrom n s.decodeCtx).run bs = .truncated) (hf : s.Fetches bs t) :
    ∃ k f l, fetchInstr n s = (runDec (.ask k) >>= f) (t.withLatch l) ∧ l.len = t.latch.len ∧
      ∀ b, ((decodeFrom n s.decodeCtx).run (bs ++ [b])).Stops →
        (k b).run [] = (decodeFrom n s.decodeCtx).run (bs ++ [b]) := by
  induction n generalizing s bs t with
  | zero => exact absurd hn (Nat.not_lt_zero _)
  | succ n ih =>
    obtain h1 | ⟨j, rest, hj, h⟩ := Dec.run_bind_truncated h
    · obtain ⟨k, hk, hm⟩ := runDec_of_truncated h1 hf
      refine ⟨k, afterRow n, t.latch, ?_, rfl, fun b hb => ?_⟩
      · rw [fetchInstr_succ, M.bind_apply, hk, ← M.bind_apply]
        rfl
      · rw [decodeFrom, hm] at hb ⊢
        exact Dec.run_nil_of_bind_stops (not_stops_decodeFrom_nil n s.decodeCtx) hb
    · have hlen : rest.length < n := by
        obtain ⟨-, b, used, hu⟩ := (decodeOne_wellFormed s.decodeCtx).of_run_ask hj
        have := congrArg List.length hu
        simp only [List.length_append, List.length_cons] at this
        omega
      cases e : s.decodeCtx.latch.after j with
      | none =>
        rw [e] at h
        cases h
      | some l =>
        rw [e] at h
        obtain ⟨u, l', hn', hc, hu, hl'⟩ := fetchInstr_of_prefix (n := n) hj e hf
        obtain ⟨k, f, l'', hk, hlen', hs⟩ := ih hlen (by rw [hc]; exact h) hu
        refine ⟨k, f, l'', hn'.trans hk, hlen'.trans hl', fun b hb => ?_⟩
        have hrun : (decodeFrom (n + 1) s.decodeCtx).run (bs ++ [b]) = (decodeFrom n u.decodeCtx).run (rest ++ [b]) := by
          rw [decodeFrom, Dec.run_bind_ok (Dec.run_append hj [b]), e, hc]
        rw [hrun] at hb ⊢
        exact hs b hb

/-- A sixteenth byte is not fetched (spec/30_encoding.md R144). -/
theorem fetchByte_full {s : State} (h : 15 ≤ s.latch.len) : fetchByte s = .error (.exc (Exc.gp 0)) s := by
  rw [fetchByte, getS_bind, raiseIf_bind, if_pos h]

/-- What a fetch raises is taken as a fault of its instruction, which does not see what the prefixes latched. -/
theorem runInstr_of_fetch_raises {s t : State} {e : Exc} {l : Latch} (he : e.newTask = false)
    (h : fetchInstr 16 s.begin = .error (.exc e) (t.withLatch l)) : runInstr s = takeException e s.begin t := by
  rw [runInstr, show fetchBound = 16 from rfl, h]
  exact takeException_withLatch he _ _ _

/-- Settles O6: the sixteenth fetch finds fifteen bytes counted. -/
theorem sixteenthByteIsGeneralProtection : Obligations.SixteenthByteIsGeneralProtection := by
  intro s s1 bs hf ht
  have hlen : bs.length = 15 := fetchBytes_length hf
  replace hf : s.begin.Fetches bs s1 := by
    rw [← hlen] at hf
    exact hf
  rw [decode_of_length_le hlen.le] at ht
  obtain ⟨k, f, l, hk, hl, -⟩ := fetchInstr_of_truncated (hlen.trans_lt (by decide)) ht hf
  have hfull : l.len = 15 := by
    rw [hl, hf.ahead, hlen]
    rfl
  have hask : runDec (.ask k) (s1.withLatch l) = .error (.exc (Exc.gp 0)) (s1.withLatch l) :=
    M.bind_error (fetchByte_full hfull.ge)
  exact runInstr_of_fetch_raises rfl (hk.trans (M.bind_error hask))

/-- The last byte fetched decides that the instruction stops: the fetch is at the row's last byte, and its row stops. -/
theorem fetchInstr_of_stops {s t : State} {bs : List Byte} (hf : s.Fetches bs t) (hs : s.latch.len = 0)
    (ht : decode s.decodeCtx bs.dropLast = .truncated) (hr : (decode s.decodeCtx bs).Stops) :
    ∃ d f l, fetchInstr 16 s = (runDec d >>= f) (t.withLatch l) ∧ d.run [] = decode s.decodeCtx bs := by
  have hlen : bs.length ≤ 15 := by
    have h := hf.len_le (hs.trans_le (Nat.zero_le 15))
    rw [hf.ahead] at h
    have h : s.latch.len + bs.length ≤ 15 := h
    omega
  obtain rfl | ⟨bs, b, rfl⟩ := bs.eq_nil_or_concat'
  · rw [List.dropLast_nil] at ht
    rw [ht] at hr
    rcases hr with h | ⟨q, h⟩ <;> cases h
  · rw [List.dropLast_concat, decode_of_length_le (by simp at hlen; omega)] at ht
    rw [decode_of_length_le hlen] at hr ⊢
    obtain ⟨u, hu, hb⟩ := State.fetches_append.mp hf
    obtain ⟨k, f, l, hk, hl, hstop⟩ := fetchInstr_of_truncated (by simp at hlen; omega) ht hu
    obtain ⟨v, hv, hnil⟩ := State.fetches_cons.mp (hb.withLatch hl)
    obtain rfl := State.fetches_nil.mp hnil
    refine ⟨k b, f, l.sized t.latch.len, hk.trans ?_, hstop b hr⟩
    have hask : runDec (.ask k) (u.withLatch l) = runDec (k b) (t.withLatch (l.sized t.latch.len)) := M.bind_ok hv
    rw [M.bind_apply, hask, ← M.bind_apply]

/-- Settles O7: the fetch stops at the byte that decides, with #UD or the refusal. -/
theorem invalidInstructionTakesInvalidOpcode : Obligations.InvalidInstructionTakesInvalidOpcode := by
  intro s s1 bs hf ht
  refine ⟨fun hi => ?_, fun r hr => ?_⟩
  · obtain ⟨d, f, l, hk, hd⟩ := fetchInstr_of_stops hf rfl ht (.inl hi)
    obtain rfl := Dec.eq_invalid_of_run (hd.trans hi)
    exact runInstr_of_fetch_raises rfl hk
  · obtain ⟨d, f, l, hk, hd⟩ := fetchInstr_of_stops hf rfl ht (.inr ⟨r, hr⟩)
    obtain rfl := Dec.eq_refuse_of_run (hd.trans hr)
    rw [runInstr, show fetchBound = 16 from rfl, hk]
    rfl

end Sys2Proof.Machine

end

section

namespace Sys2Proof.Machine

/-! ## The prefixes and the spec's examples (spec/30_encoding.md R141, R162) -/

/-- Settles O5: each byte is its row, and each row latches. -/
theorem prefixRowsLatch : Obligations.PrefixRowsLatch :=
  ⟨fun _ _ => ⟨rfl, rfl, rfl, rfl, rfl, rfl, rfl, rfl, rfl, rfl, rfl⟩,
    fun _ => ⟨rfl, rfl, rfl, rfl, rfl, rfl, rfl, rfl, rfl, rfl, rfl⟩⟩

/-- Settles O3: the decoder run on each byte sequence. -/
theorem specExampleBytesDecode : Obligations.SpecExampleBytesDecode := by
  unfold Obligations.SpecExampleBytesDecode
  decide +kernel

end Sys2Proof.Machine

end

section

namespace Sys2Proof.Machine

/-! ## The number a value of a width stands for (spec/00_scope.md R11) -/

theorem bits_pos (sz : Size) : 0 < sz.bits := by cases sz <;> decide

theorem toNat_cut (sz : Size) (v : Word) : (cut sz v).toNat = v.toNat % 2 ^ sz.bits := by
  have hp : 2 ^ sz.bits ≤ 2 ^ 32 := Nat.pow_le_pow_right (by decide) (bits_le sz)
  have hpos : 0 < 2 ^ sz.bits := Nat.two_pow_pos _
  rw [cut_eq_and, BitVec.toNat_and, BitVec.toNat_ofNat, Nat.mod_eq_of_lt (by omega), Nat.and_two_pow_sub_one_eq_mod]

theorem cut_cut (sz : Size) (v : Word) : cut sz (cut sz v) = cut sz v :=
  BitVec.eq_of_toNat_eq (by rw [toNat_cut, toNat_cut, Nat.mod_mod])

theorem cut_of_lt {sz : Size} {v : Word} (h : v.toNat < 2 ^ sz.bits) : cut sz v = v :=
  BitVec.eq_of_toNat_eq (by rw [toNat_cut, Nat.mod_eq_of_lt h])

theorem toNat_truncNat (sz : Size) (x : Nat) : (truncNat sz x).toNat = x % 2 ^ sz.bits := by
  rw [truncNat, toNat_cut, BitVec.toNat_ofNat, Nat.mod_mod_of_dvd _ (Nat.pow_dvd_pow 2 (bits_le sz))]

theorem toNat_truncInt (sz : Size) (x : Int) : ((truncInt sz x).toNat : Int) = x % 2 ^ sz.bits := by
  have hd : ((2 ^ sz.bits : Nat) : Int) ∣ ((2 ^ 32 : Nat) : Int) := Int.natCast_dvd_natCast.mpr (Nat.pow_dvd_pow 2 (bits_le sz))
  rw [truncInt, toNat_cut, BitVec.toNat_ofInt, Int.natCast_mod, Int.toNat_of_nonneg (Int.emod_nonneg _ (by decide)),
    Int.emod_emod_of_dvd _ hd, Int.natCast_pow, Nat.cast_ofNat]

theorem cut_addResult (sz : Size) (a b : Word) (c : Bool) : cut sz (addResult sz a b c) = addResult sz a b c := cut_cut sz _

theorem cut_subResult (sz : Size) (a b : Word) (c : Bool) : cut sz (subResult sz a b c) = subResult sz a b c := cut_cut sz _

/-! ## The flags of a sum and of a difference (spec/40_alu_arith.md R200, R201) -/

theorem auxCarry_iff (a b r : Word) : auxCarry a b r = true ↔ (a ^^^ b ^^^ r) &&& 0x10 ≠ 0 := by
  have hbit : (0x10 : Word) = BitVec.twoPow 32 4 := rfl
  rw [auxCarry, hbit, BitVec.and_twoPow]
  cases (a ^^^ b ^^^ r).getLsbD 4 <;> decide

/-- ZF after SetSZP of a value of the width is read off the value itself (R29). -/
theorem Flags.zf_setSZP {f : Flags} {sz : Size} {r : Word} (h : cut sz r = r) : (f.setSZP r sz).zf = (r == 0) :=
  congrArg (· == 0) h

theorem Flags.of_add_iff (f : Flags) (sz : Size) (a b : Word) (c : Bool) :
    (f.add sz a b c).of = true ↔ msb sz a = msb sz b ∧ msb sz (addResult sz a b c) ≠ msb sz a := by
  change (msb sz a == msb sz b && msb sz (addResult sz a b c) != msb sz a) = true ↔ _
  rw [Bool.and_eq_true, beq_iff_eq, bne_iff_ne]

theorem Flags.of_sub_iff (f : Flags) (sz : Size) (a b : Word) (c : Bool) :
    (f.sub sz a b c).of = true ↔ msb sz a ≠ msb sz b ∧ msb sz (subResult sz a b c) ≠ msb sz a := by
  change (msb sz a != msb sz b && msb sz (subResult sz a b c) != msb sz a) = true ↔ _
  rw [Bool.and_eq_true, bne_iff_ne, bne_iff_ne]

/-- Settles O31: the result is the exact sum or difference modulo the width, and each flag is read off one of the two. -/
theorem sumAndDifferenceFlags : Obligations.SumAndDifferenceFlags := by
  intro f sz a b c _ _
  constructor
  · exact ⟨toNat_truncNat sz _, decide_eq_true_iff, f.of_add_iff sz a b c, auxCarry_iff a b _,
      Flags.zf_setSZP (cut_addResult sz a b c), rfl, rfl, rfl⟩
  · exact ⟨toNat_truncInt sz _, decide_eq_true_iff, f.of_sub_iff sz a b c, auxCarry_iff a b _,
      Flags.zf_setSZP (cut_subResult sz a b c), rfl, rfl, rfl⟩

end Sys2Proof.Machine

end

section

namespace Sys2Proof.Machine

/-! ## The binary and unary forms (spec/40_alu_arith.md R202, spec/41_alu_logic.md R231 to R235) -/

theorem MemStep.cycles {s t : State} (h : MemStep s t) : t.cycles = s.cycles := by rw [h.same]

theorem State.readOpened_cycles (s : State) (sz : Size) (p : Opened) : (s.readOpened sz p).2.cycles = s.cycles := by
  rw [sameButMemory_readOpened s sz p]

theorem State.writeOpened_cycles (s : State) (sz : Size) (v : Word) (p : Opened) :
    (s.writeOpened sz v p).cycles = s.cycles := by
  cases p with
  | reg8 r | reg r => rfl
  | mem p => exact (memStep_writePlace s p sz.bytes _).cycles

theorem Quiet.cycles {α : Type} {m : M α} (h : Quiet m) {s t : State} {a : α} (e : m s = .ok a t) : t.cycles = s.cycles := by
  rw [h s a t e]

/-- An instruction that left the count alone is one more that completed. -/
theorem State.count_of_cycles {s t : State} (h : t.cycles = s.cycles) : t.count = { t with cycles := s.cycles + 1 } := by
  rw [State.count, h]

/-- A destination read, given other flags and free values, and written, leaves the count of instructions alone. -/
theorem cycles_modified (s : State) (sz : Size) (p : Opened) (f : Flags) (n : Nat) (v : Word) :
    ({ (s.readOpened sz p).2 with flags := f, draws := n }.writeOpened sz v p).cycles = s.cycles :=
  (State.writeOpened_cycles _ sz v p).trans (s.readOpened_cycles sz p)

/-- Settles O33: a form runs the shared binary operation, which writes its destination or only compares. -/
theorem binaryForms : Obligations.BinaryForms := by
  intro i f s hi
  rw [exec_binForm s hi]
  refine ⟨fun hw p b s1 s2 ho hb => ?_, fun hw a b s1 s2 ha hb => ?_⟩
  · obtain ⟨af, n, h⟩ := binary_writes hw ho hb
    have hc : s2.cycles = s.cycles := ((quiet_readSrc _ _).cycles hb).trans ((quiet_openLoc _ _).cycles ho)
    exact ⟨af, n, (run_next h).trans (congrArg _ (State.count_of_cycles ((cycles_modified s2 f.size p _ n _).trans hc)))⟩
  · obtain ⟨af, n, h⟩ := binary_compares hw ha hb
    have hc : s2.cycles = s.cycles := ((quiet_readSrc _ _).cycles hb).trans ((quiet_readLoc _ _).cycles ha)
    exact ⟨af, n, (run_next h).trans (congrArg _ (State.count_of_cycles hc))⟩

/-- Settles O34: a form runs the shared unary operation, which reads its destination, changes the flags and writes it. -/
theorem unaryForms : Obligations.UnaryForms := by
  intro i op sz dst p s s1 hi ho
  rw [exec_unForm s hi, run_next (unary_apply ho)]
  have hc : s1.cycles = s.cycles := (quiet_openLoc _ _).cycles ho
  exact congrArg _ (State.count_of_cycles ((cycles_modified s1 sz p _ _ _).trans hc))

end Sys2Proof.Machine

end

section

namespace Sys2Proof.Machine

/-! ## Iterated one-bit steps (spec/42_alu_shift_rotate.md R240) -/

/-- The last of c + 1 steps acts on what the first c leave. -/
theorem shiftIter_succ (op : ShiftOp) (sz : Size) (c : Nat) (r : Word) (cf : Bool) :
    shiftIter op sz (c + 1) r cf = shiftStep op sz (shiftIter op sz c r cf).1 (shiftIter op sz c r cf).2 := by
  induction c generalizing r cf with
  | zero => rfl
  | succ c ih => exact ih _ _

/-- Steps that keep a value in its width and that a step of another operation undoes, are undone as many at a time. -/
theorem shiftIter_undoes {op back : ShiftOp} {sz : Size}
    (hcut : ∀ r cf, cut sz r = r → cut sz (shiftStep op sz r cf).1 = (shiftStep op sz r cf).1)
    (hback : ∀ r cf, cut sz r = r → shiftStep back sz (shiftStep op sz r cf).1 (shiftStep op sz r cf).2 = (r, cf))
    (c : Nat) {r : Word} (cf : Bool) (hr : cut sz r = r) :
    shiftIter back sz c (shiftIter op sz c r cf).1 (shiftIter op sz c r cf).2 = (r, cf) := by
  induction c generalizing r cf with
  | zero => rfl
  | succ c ih =>
    have h := ih (shiftStep op sz r cf).2 (hcut r cf hr)
    rw [shiftIter_succ back, shiftIter, h]
    exact hback r cf hr

/-- A value of the width has no bit above it. -/
theorem cut_eq_self_iff (sz : Size) (r : Word) : cut sz r = r ↔ ∀ i, sz.bits ≤ i → r.getLsbD i = false := by
  refine ⟨fun h i hi => ?_, fun h => BitVec.eq_of_getLsbD_eq fun i _ => ?_⟩
  · rw [← h, getLsbD_cut, decide_eq_false (by omega), Bool.false_and]
  · rw [getLsbD_cut]
    by_cases hi : i < sz.bits
    · simp [hi]
    · simp [hi, h i (by omega)]

/-! ## SHL and SHR (spec/42_alu_shift_rotate.md R242, R243, R249) -/

theorem shiftIter_shl (sz : Size) (c : Nat) {a : Word} (cf : Bool) (ha : cut sz a = a) :
    (shiftIter .shl sz c a cf).1 = cut sz (a <<< c) := by
  induction c with
  | zero => rw [BitVec.shiftLeft_zero, ha]; rfl
  | succ c ih =>
    rw [shiftIter_succ, ih]
    apply BitVec.eq_of_getLsbD_eq
    intro i _
    simp only [shiftStep, getLsbD_cut, BitVec.getLsbD_shiftLeft]
    grind

theorem shiftIter_shr (sz : Size) (c : Nat) (a : Word) (cf : Bool) : (shiftIter .shr sz c a cf).1 = a >>> c := by
  induction c with
  | zero => rw [BitVec.ushiftRight_zero]; rfl
  | succ c ih => rw [shiftIter_succ, ih, BitVec.shiftRight_add]; rfl

/-- CF after SHL is the last bit shifted out at the top. -/
theorem shiftIter_shl_carry {sz : Size} {c : Nat} {a : Word} (cf : Bool) (ha : cut sz a = a) (h1 : 1 ≤ c) (hc : c ≤ sz.bits) :
    (shiftIter .shl sz c a cf).2 = a.getLsbD (sz.bits - c) := by
  obtain ⟨k, rfl⟩ := Nat.exists_eq_add_of_le' h1
  have hb := bits_le sz
  rw [shiftIter_succ, shiftIter_shl sz k cf ha]
  simp only [shiftStep, msb, getLsbD_cut, BitVec.getLsbD_shiftLeft]
  rw [Nat.sub_sub, Nat.add_comm 1 k]
  simp [show sz.bits - 1 < sz.bits by omega, show sz.bits - 1 < 32 by omega, show k ≤ sz.bits - 1 by omega]

/-- CF after SHR is the last bit shifted out at the bottom. -/
theorem shiftIter_shr_carry (sz : Size) {c : Nat} (a : Word) (cf : Bool) (h1 : 1 ≤ c) :
    (shiftIter .shr sz c a cf).2 = a.getLsbD (c - 1) := by
  obtain ⟨k, rfl⟩ := Nat.exists_eq_add_of_le' h1
  rw [shiftIter_succ, shiftIter_shr]
  exact BitVec.getLsbD_ushiftRight a k 0

/-- The mask of R249 is the low 16 - c bits. -/
theorem topMask_eq : ∀ c ≤ 15, ((1#32) <<< (16 - c)) - 1 = BitVec.ofNat 32 (2 ^ (16 - c) - 1) := by decide

theorem cut_shl_shr {c : Nat} (a : Word) (hc : c ≤ 15) :
    cut .w (a <<< c) >>> c = a &&& (((1#32) <<< (16 - c)) - 1) := by
  apply BitVec.eq_of_getLsbD_eq
  intro i _
  rw [topMask_eq c hc, BitVec.getLsbD_and, getLsbD_lowMask (by omega), BitVec.getLsbD_ushiftRight, getLsbD_cut,
    BitVec.getLsbD_shiftLeft, Nat.add_sub_cancel_left, Bool.and_comm (a.getLsbD i)]
  have hi : c + i < Size.w.bits ↔ i < 16 - c := by simp only [Size.bits]; omega
  by_cases h : i < 16 - c
  · simp [h, hi, show c + i < 32 by omega]
  · simp [h, hi]

theorem cut_shl_zero {sz : Size} {c : Nat} (a : Word) (hc : sz.bits ≤ c) : cut sz (a <<< c) = 0 := by
  apply BitVec.eq_of_getLsbD_eq
  intro i _
  rw [getLsbD_cut, BitVec.getLsbD_shiftLeft]
  by_cases h : i < sz.bits
  · simp [show i < c by omega]
  · simp [h]

/-! ## RCL and RCR (spec/42_alu_shift_rotate.md R247, R248, R250) -/

theorem getLsbD_topBit (sz : Size) (b : Bool) (i : Nat) : (topBit sz b).getLsbD i = (b && decide (i = sz.bits - 1)) :=
  getLsbD_bitAt b (by have := bits_le sz; have := bits_pos sz; omega) i

/-- RCL moves each bit up, CF in at the bottom. -/
theorem getLsbD_rclStep (sz : Size) (r : Word) (cf : Bool) (i : Nat) :
    (shiftStep .rcl sz r cf).1.getLsbD i = (decide (i < sz.bits) && if i = 0 then cf else r.getLsbD (i - 1)) := by
  have hb := bits_le sz
  have hp := bits_pos sz
  simp only [shiftStep, BitVec.getLsbD_or, getLsbD_cut, BitVec.getLsbD_shiftLeft, getLsbD_bitAt cf (show 0 < 32 by decide)]
  grind

/-- RCR moves each bit down, CF in at the top. -/
theorem getLsbD_rcrStep {sz : Size} {r : Word} (hr : cut sz r = r) (cf : Bool) (i : Nat) :
    (shiftStep .rcr sz r cf).1.getLsbD i =
      (decide (i < sz.bits) && if i = sz.bits - 1 then cf else r.getLsbD (i + 1)) := by
  have hp := bits_pos sz
  have hout := (cut_eq_self_iff sz r).mp hr
  simp only [shiftStep, BitVec.getLsbD_or, BitVec.getLsbD_ushiftRight, getLsbD_topBit]
  grind

theorem cut_rclStep (sz : Size) (r : Word) (cf : Bool) : cut sz (shiftStep .rcl sz r cf).1 = (shiftStep .rcl sz r cf).1 := by
  rw [cut_eq_self_iff]
  intro i hi
  rw [getLsbD_rclStep, decide_eq_false (by omega), Bool.false_and]

theorem cut_rcrStep {sz : Size} {r : Word} (hr : cut sz r = r) (cf : Bool) :
    cut sz (shiftStep .rcr sz r cf).1 = (shiftStep .rcr sz r cf).1 := by
  rw [cut_eq_self_iff]
  intro i hi
  rw [getLsbD_rcrStep hr, decide_eq_false (by omega), Bool.false_and]

/-- One RCR undoes one RCL: the bit at the bottom goes back to CF, and CF to the top. -/
theorem rcrStep_rclStep {sz : Size} {r : Word} (hr : cut sz r = r) (cf : Bool) :
    shiftStep .rcr sz (shiftStep .rcl sz r cf).1 (shiftStep .rcl sz r cf).2 = (r, cf) := by
  have hp := bits_pos sz
  have hout := (cut_eq_self_iff sz r).mp hr
  refine Prod.ext (BitVec.eq_of_getLsbD_eq fun i _ => ?_) ?_
  · rw [getLsbD_rcrStep (cut_rclStep sz r cf), getLsbD_rclStep]
    change (_ && if i = sz.bits - 1 then r.getLsbD (sz.bits - 1) else _) = _
    grind
  · change (shiftStep .rcl sz r cf).1.getLsbD 0 = cf
    rw [getLsbD_rclStep]
    simp [hp]

/-- One RCL undoes one RCR: the bit at the top goes back to CF, and CF to the bottom. -/
theorem rclStep_rcrStep {sz : Size} {r : Word} (hr : cut sz r = r) (cf : Bool) :
    shiftStep .rcl sz (shiftStep .rcr sz r cf).1 (shiftStep .rcr sz r cf).2 = (r, cf) := by
  have hp := bits_pos sz
  have hout := (cut_eq_self_iff sz r).mp hr
  refine Prod.ext (BitVec.eq_of_getLsbD_eq fun i _ => ?_) ?_
  · rw [getLsbD_rclStep, getLsbD_rcrStep hr]
    change (_ && if i = 0 then r.getLsbD 0 else _) = _
    grind
  · change (shiftStep .rcr sz r cf).1.getLsbD (sz.bits - 1) = cf
    rw [getLsbD_rcrStep hr]
    simp [hp]

end Sys2Proof.Machine

end

section

namespace Sys2Proof.Machine

/-! ## ADD and then SUB (spec/40_alu_arith.md R211) -/

/-- Modulo the width, what is added and then subtracted is gone. -/
theorem subResult_addResult {sz : Size} {a : Word} (b : Word) (ha : cut sz a = a) :
    subResult sz (addResult sz a b false) b false = a := by
  have hlt : (a.toNat : Int) < 2 ^ sz.bits := by
    rw [← ha, toNat_cut]
    exact_mod_cast Nat.mod_lt _ (Nat.two_pow_pos _)
  have h : ((subResult sz (addResult sz a b false) b false).toNat : Int) = a.toNat := by
    calc ((subResult sz (addResult sz a b false) b false).toNat : Int)
        = (((a.toNat + b.toNat : Nat) : Int) % 2 ^ sz.bits - b.toNat) % 2 ^ sz.bits := by
          rw [subResult, toNat_truncInt, addResult, toNat_truncNat]
          simp
      _ = a.toNat := by
          rw [Int.emod_sub_emod, Nat.cast_add, add_sub_cancel_right, Int.emod_eq_of_lt (by omega) hlt]
  exact BitVec.eq_of_toNat_eq (by omega)

theorem Regs.view_put_other (x : Regs) (sz : Size) {r q : Reg} (v : Word) (h : q ≠ r) :
    (x.put sz r v).view sz q = x.view sz q := by
  rw [Regs.view, Regs.get_put_other x sz v h, Regs.view]

theorem cut_get8 (x : Regs) (r : Reg8) : cut .b (x.get8 r) = x.get8 r := by
  rw [cut_eq_self_iff]
  intro i hi
  rw [Regs.getLsbD_get8, decide_eq_false (show ¬i < 8 from Nat.not_lt.mpr hi), Bool.false_and]

theorem Regs.ext_get {x y : Regs} (h : ∀ r, x.get r = y.get r) : x = y := by
  cases x
  cases y
  simp only [Regs.mk.injEq]
  exact ⟨h .eax, h .ecx, h .edx, h .ebx, h .esp, h .ebp, h .esi, h .edi⟩

/-- A byte view written and then given what it held before leaves every cell as it was. -/
theorem Regs.set8_set8_get8 (x : Regs) (r : Reg8) (v : Word) : (x.set8 r v).set8 r (x.get8 r) = x := by
  refine Regs.ext_get fun p => ?_
  by_cases hp : p = reg8Cell r
  · subst hp
    apply BitVec.eq_of_getLsbD_eq
    intro i hi
    rw [Regs.getLsbD_set8 _ _ _ hi, Regs.getLsbD_set8 _ _ _ hi, Regs.getLsbD_get8]
    split
    next h => rw [decide_eq_true (by omega), Bool.true_and, Nat.sub_add_cancel h.1]
    next => rfl
  · rw [Regs.get_set8_other _ _ hp, Regs.get_set8_other _ _ hp]

/-- A form that writes one general register from another writes that register and the flags. -/
theorem exec_binForm_reg {i : Instr} {op : BinOp} {sz : Size} {r q : Reg} (s : State)
    (hi : binForm i = some ⟨op, sz, fun _ => .reg r, fun _ => .loc (.reg q)⟩) (hw : op.writes = true) :
    ∃ af t, exec i s = .next t ∧
      t.regs = s.regs.put sz r (binResult op sz (s.regs.view sz r) (s.regs.view sz q) s.flags.cf) ∧
      t.flags = binFlags op sz (s.regs.view sz r) (s.regs.view sz q) s.flags af := by
  obtain ⟨af, _, h⟩ := (binaryForms i _ s hi).1 hw (.reg r) (s.regs.view sz q) s s rfl rfl
  exact ⟨af, _, h, rfl, rfl⟩

/-- A form that writes one byte register from another writes that register and the flags. -/
theorem exec_binForm_reg8 {i : Instr} {op : BinOp} {r q : Reg8} (s : State)
    (hi : binForm i = some ⟨op, .b, fun _ => .reg8 r, fun _ => .loc (.reg8 q)⟩) (hw : op.writes = true) :
    ∃ af t, exec i s = .next t ∧
      t.regs = s.regs.set8 r (binResult op .b (s.regs.get8 r) (s.regs.get8 q) s.flags.cf) ∧
      t.flags = binFlags op .b (s.regs.get8 r) (s.regs.get8 q) s.flags af := by
  obtain ⟨af, _, h⟩ := (binaryForms i _ s hi).1 hw (.reg8 r) (s.regs.get8 q) s s rfl rfl
  exact ⟨af, _, h, rfl, rfl⟩

theorem exec_add_sub_reg (o : OSize) {r q : Reg} (s : State) (h : r ≠ q) :
    ∃ t u, exec (.addRmvRv o (.reg r) q) s = .next t ∧ exec (.subRmvRv o (.reg r) q) t = .next u ∧ u.regs = s.regs ∧
      t.flags = s.flags.add o.size (s.regs.view o.size r) (s.regs.view o.size q) false ∧
      u.flags = t.flags.sub o.size (t.regs.view o.size r) (s.regs.view o.size q) false := by
  obtain ⟨_, t, ht, htr, htf⟩ := exec_binForm_reg (i := .addRmvRv o (.reg r) q) s rfl rfl
  obtain ⟨_, u, hu, hur, huf⟩ := exec_binForm_reg (i := .subRmvRv o (.reg r) q) t rfl rfl
  have hq : t.regs.view o.size q = s.regs.view o.size q := by rw [htr, Regs.view_put_other _ _ _ h.symm]
  have hr : t.regs.view o.size r = addResult o.size (s.regs.view o.size r) (s.regs.view o.size q) false := by
    rw [htr, Regs.view_put_same]
    exact cut_addResult _ _ _ _
  rw [hq] at hur huf
  refine ⟨t, u, ht, hu, ?_, htf, huf⟩
  rw [hur, hr, binResult, subResult_addResult _ (cut_view _ _ _), htr, Regs.put_put, Regs.put_view]

theorem exec_add_sub_reg8 {r q : Reg8} (s : State) (h : r ≠ q) :
    ∃ t u, exec (.addRm8R8 (.reg r) q) s = .next t ∧ exec (.subRm8R8 (.reg r) q) t = .next u ∧ u.regs = s.regs ∧
      t.flags = s.flags.add .b (s.regs.get8 r) (s.regs.get8 q) false ∧
      u.flags = t.flags.sub .b (t.regs.get8 r) (s.regs.get8 q) false := by
  obtain ⟨_, t, ht, htr, htf⟩ := exec_binForm_reg8 (i := .addRm8R8 (.reg r) q) s rfl rfl
  obtain ⟨_, u, hu, hur, huf⟩ := exec_binForm_reg8 (i := .subRm8R8 (.reg r) q) t rfl rfl
  have hq : t.regs.get8 q = s.regs.get8 q := by rw [htr, Regs.get8_set8_other _ _ h.symm]
  have hr : t.regs.get8 r = addResult .b (s.regs.get8 r) (s.regs.get8 q) false := by
    rw [htr, Regs.get8_set8_same]
    exact cut_addResult .b _ _ _
  rw [hq] at hur huf
  refine ⟨t, u, ht, hu, ?_, htf, huf⟩
  rw [hur, hr, binResult, subResult_addResult _ (cut_get8 _ _), htr, Regs.set8_set8_get8]

/-- Settles O36: the shift laws from the closed forms of the iterated steps, the inverses from those of one step, the sums
modulo the width. -/
theorem arithmeticAndShiftLaws : Obligations.ArithmeticAndShiftLaws := by
  refine ⟨fun a c cf ha => ?_, fun sz a c cf ha => ?_, fun sz a b ha _ => subResult_addResult b (cut_of_lt ha),
    fun o r q s h => exec_add_sub_reg o s h, fun r q s h => exec_add_sub_reg8 s h⟩
  · have hw : cut .w a = a := cut_of_lt (sz := .w) ha
    have hl := shiftIter_shl .w c cf hw
    have hr := shiftIter_shr .w c (shiftIter .shl .w c a cf).1 (shiftIter .shl .w c a cf).2
    refine ⟨fun hc => ?_, fun h1 hc => ?_, fun hc _ => ?_⟩
    · rw [hr, hl, cut_shl_shr a hc]
    · exact ⟨shiftIter_shl_carry cf hw h1 (Nat.le_succ_of_le hc), shiftIter_shr_carry .w _ _ h1⟩
    · have h0 : (shiftIter .shl .w c a cf).1 = 0 := hl.trans (cut_shl_zero a hc)
      rw [hr, h0]
      exact ⟨rfl, BitVec.zero_ushiftRight⟩
  · have hw := cut_of_lt ha
    exact ⟨shiftIter_undoes (fun r cf _ => cut_rclStep sz r cf) (fun _ cf hr => rcrStep_rclStep hr cf) c cf hw,
      shiftIter_undoes (fun _ cf hr => cut_rcrStep hr cf) (fun _ cf hr => rclStep_rcrStep hr cf) c cf hw⟩

end Sys2Proof.Machine

end

section

namespace Sys2Proof.Machine

/-! ## The flags of a shift or rotate (spec/42_alu_shift_rotate.md R241) -/

section

variable {f : Flags} {op : ShiftOp} {sz : Size} {a r : Word} {cf : Bool} {c : Nat} {od ad : Bool}

theorem Flags.shift_cf : (f.shift op sz a r cf c od ad).cf = cf := by cases op <;> rfl

theorem Flags.shift_of : (f.shift op sz a r cf c od ad).of = if c = 1 then shiftOF op sz a r f.cf cf else od := by
  cases op <;> rfl

theorem Flags.shift_control : (f.shift op sz a r cf c od ad).control = f.control := by cases op <;> rfl

theorem Flags.shift_eq_of_isRotate (h : op.isRotate = true) :
    f.shift op sz a r cf c od ad = { f with cf := cf, of := if c = 1 then shiftOF op sz a r f.cf cf else od } := if_pos h

theorem Flags.shift_eq_of_not_isRotate (h : op.isRotate = false) :
    f.shift op sz a r cf c od ad =
      { f with cf := cf, of := if c = 1 then shiftOF op sz a r f.cf cf else od, af := ad }.setSZP r sz :=
  if_neg (ne_true_of_eq_false h)

end

/-! ## The shift and rotate forms (spec/42_alu_shift_rotate.md R240 to R248) -/

/-- Settles O35: a form reads its count and runs the shared shift, which rewrites its destination and, unless the count is 0
(mod 32), changes the flags. -/
theorem shiftForms : Obligations.ShiftForms := by
  intro i op sz dst count p s s1 hi ho
  obtain ⟨src, hrun, hcount⟩ := exec_shiftForm s hi
  obtain ⟨hzero, hpos⟩ := shiftLoc_apply (op := op) hcount ho
  have hc : s1.cycles = s.cycles := (quiet_openLoc _ _).cycles ho
  rw [hrun]
  refine ⟨fun h0 => ?_, fun h0 => ?_⟩
  · have hw := (State.writeOpened_cycles _ sz (s1.readOpened sz p).1 p).trans (s1.readOpened_cycles sz p)
    exact (run_next (hzero h0)).trans (congrArg _ (State.count_of_cycles (hw.trans hc)))
  · obtain ⟨of1, af1, n, h⟩ := hpos h0
    have hnext := (run_next h).trans (congrArg _ (State.count_of_cycles ((cycles_modified s1 sz p _ n _).trans hc)))
    refine ⟨of1, af1, n, _, hnext, Flags.shift_cf, Flags.shift_control, Flags.shift_of, fun hr => ?_, fun hr => ?_⟩
    · rw [Flags.shift_eq_of_isRotate hr]
      exact ⟨rfl, rfl, rfl, rfl⟩
    · rw [Flags.shift_eq_of_not_isRotate hr]
      exact ⟨rfl, rfl, rfl, rfl⟩

end Sys2Proof.Machine

end

section

namespace Sys2Proof.Machine

/-! ## The multiplications (spec/43_alu_muldiv.md R260 to R263) -/

theorem Quiet.regs {α : Type} {m : M α} (h : Quiet m) {s t : State} {a : α} (e : m s = .ok a t) : t.regs = s.regs := by
  rw [h s a t e]

theorem Quiet.flags {α : Type} {m : M α} (h : Quiet m) {s t : State} {a : α} (e : m s = .ok a t) : t.flags = s.flags := by
  rw [h s a t e]

/-- The general registers with a double-width value in AX, DX:AX or EDX:EAX (R260). -/
def Regs.putPair (x : Regs) (sz : Size) (low high : Word) : Regs :=
  match sz with
  | .b => x.put .w .eax (low ||| (high <<< 8))
  | .w => (x.put .w .eax low).put .w .edx high
  | .d => (x.put .d .eax low).put .d .edx high

theorem writePair_apply (sz : Size) (low high : Word) (s : State) :
    writePair sz low high s = .ok () (s.withRegs (s.regs.putPair sz low high)) := by
  cases sz <;> rfl

theorem mulFlags_apply (c : Bool) (s : State) :
    ∃ (f : Flags) (n : Nat),
      mulFlags c s = .ok () { s with flags := f, draws := n } ∧ f.cf = c ∧ f.of = f.cf ∧ f.control = s.flags.control := by
  obtain ⟨sf, zf, af, pf, h⟩ := drawSZAP_apply { s with flags := { s.flags with cf := c, of := c } }
  exact ⟨_, _, h, rfl, rfl, rfl⟩

/-- A multiplication, its operands read, stores its product and then sets the flags. -/
theorem run_mulFlags {body store : M Unit} {c : Bool} {x : Regs} {s s1 : State} (hq : s.sameButMemory s1)
    (hb : body s = (store >>= fun _ => mulFlags c) s1) (hs : store s1 = .ok () (s1.withRegs x)) :
    ∃ (f : Flags) (n : Nat),
      run body s = .next { s1 with regs := x, flags := f, draws := n, cycles := s.cycles + 1 } ∧
      f.cf = c ∧ f.of = f.cf ∧ f.control = s.flags.control := by
  obtain ⟨f, n, hf, hcf, hof, hcontrol⟩ := mulFlags_apply c (s1.withRegs x)
  have hflags : s1.flags = s.flags := by rw [hq]
  have hcycles : s1.cycles = s.cycles := by rw [hq]
  refine ⟨f, n, ?_, hcf, hof, hcontrol.trans (congrArg Flags.control hflags)⟩
  exact (run_next ((hb.trans (M.bind_ok hs)).trans hf)).trans (congrArg _ (State.count_of_cycles hcycles))

theorem mulUnsigned_apply {sz : Size} {src : Loc} {b : Word} {s s1 : State} (h : readLoc sz src s = .ok b s1) :
    let p : Int := ((s.regs.view sz .eax).toNat : Int) * b.toNat
    mulUnsigned sz src s =
      (writePair sz (truncInt sz p) (highHalf sz p) >>= fun _ => mulFlags (highHalf sz p != 0)) s1 := by
  have hregs : s1.regs = s.regs := (quiet_readLoc _ _).regs h
  rw [mulUnsigned, M.bind_ok h, M.bind_ok (readReg_apply sz .eax s1), hregs]

theorem mulSigned_apply {sz : Size} {src : Loc} {b : Word} {s s1 : State} (h : readLoc sz src s = .ok b s1) :
    let p := signed sz (s.regs.view sz .eax) * signed sz b
    mulSigned sz src s =
      (writePair sz (truncInt sz p) (highHalf sz p) >>= fun _ => mulFlags (overflowsSigned sz p)) s1 := by
  have hregs : s1.regs = s.regs := (quiet_readLoc _ _).regs h
  rw [mulSigned, M.bind_ok h, M.bind_ok (readReg_apply sz .eax s1), hregs]

theorem mulInto_apply {sz : Size} {r : Reg} {x y : Source} {a b : Word} {s s1 s2 : State} (ha : readSrc sz x s = .ok a s1)
    (hb : readSrc sz y s1 = .ok b s2) :
    let p := signed sz a * signed sz b
    mulInto sz r x y s = (writeReg sz r (truncInt sz p) >>= fun _ => mulFlags (overflowsSigned sz p)) s2 := by
  rw [mulInto, M.bind_ok ha, M.bind_ok hb]

/-- IMUL into a register runs the shared operation, whichever factor it reads first. -/
theorem exec_mulIntoForm {i : Instr} {sz : Size} {r : Reg} {src : State → Loc} {factor : State → Word} {b : Word}
    {s s1 : State} (hi : mulIntoForm i = some (sz, r, src, factor)) (hr : readLoc sz (src s) s = .ok b s1) :
    let p := signed sz (factor s) * signed sz b
    ∃ body, exec i s = run body s ∧
      body s = (writeReg sz r (truncInt sz p) >>= fun _ => mulFlags (overflowsSigned sz p)) s1 := by
  cases i <;> cases hi
  case imulRvRmv => exact ⟨_, rfl, mulInto_apply rfl hr⟩
  case imulRvRmvImmv => exact ⟨_, rfl, mul_comm (signed _ b) _ ▸ mulInto_apply hr rfl⟩
  case imulRvRmvSx8 => exact ⟨_, rfl, mul_comm (signed _ b) _ ▸ mulInto_apply hr rfl⟩

theorem bne_eq_decide_ne {α : Type} [BEq α] [LawfulBEq α] [DecidableEq α] (a b : α) : (a != b) = decide (a ≠ b) := by
  rw [bne, beq_eq_decide, decide_not]

/-- Settles O37: a form reads its source, stores the product of what it read, and sets CF and OF from it. -/
theorem multiplyForms : Obligations.MultiplyForms := by
  refine ⟨fun i sgn sz src b s s1 hi hr => ?_, fun i sz r src factor b s s1 hi hr => ?_⟩
  · have hq := quiet_readLoc _ _ _ _ _ hr
    have hregs : s1.regs = s.regs := (quiet_readLoc _ _).regs hr
    rw [exec_mulForm s hi]
    cases sgn with
    | true =>
      have h := run_mulFlags hq (mulSigned_apply hr) (writePair_apply _ _ _ s1)
      rw [overflowsSigned, bne_eq_decide_ne, hregs] at h
      exact h
    | false =>
      have h := run_mulFlags hq (mulUnsigned_apply hr) (writePair_apply _ _ _ s1)
      rw [bne_eq_decide_ne, hregs] at h
      exact h
  · obtain ⟨body, hrun, hbody⟩ := exec_mulIntoForm hi hr
    have hq := quiet_readLoc _ _ _ _ _ hr
    have hregs : s1.regs = s.regs := (quiet_readLoc _ _).regs hr
    have h := run_mulFlags hq hbody (writeReg_apply _ _ _ s1)
    rw [overflowsSigned, bne_eq_decide_ne, hregs] at h
    rw [hrun]
    exact h

end Sys2Proof.Machine

end

section

namespace Sys2Proof.Machine

/-! ## The divisions (spec/43_alu_muldiv.md R264, R265, R269) -/

/-- The general registers with a quotient and a remainder in AL and AH, or in eAX and eDX (R264). -/
def Regs.putQuotient (x : Regs) (sz : Size) (q m : Int) : Regs :=
  match sz with
  | .b => (x.set8 .al (truncInt .b q)).set8 .ah (truncInt .b m)
  | .w => (x.put .w .eax (truncInt .w q)).put .w .edx (truncInt .w m)
  | .d => (x.put .d .eax (truncInt .d q)).put .d .edx (truncInt .d m)

/-- What both divisions do once their operands are read: n by d, truncated toward zero, #DE where d is 0 or the quotient is
not between lo and hi. -/
def divideWithin (sz : Size) (lo hi n d : Int) : M Unit := do
  raiseIf (d = 0) Exc.de
  raiseIf (¬(lo ≤ n.tdiv d ∧ n.tdiv d ≤ hi)) Exc.de
  writeQuotient sz (truncInt sz (n.tdiv d)) (truncInt sz (n.tmod d))
  drawStatus

theorem raiseIf_congr {c c' : Prop} [Decidable c] [Decidable c'] (h : c ↔ c') (e : Exc) : raiseIf c e = raiseIf c' e := by
  simp only [raiseIf, h]

theorem truncInt_natCast (sz : Size) (x : Nat) : truncInt sz x = truncNat sz x := by
  rw [truncInt, BitVec.ofInt_natCast, truncNat]

theorem divUnsigned_apply {sz : Size} {src : Loc} {d : Word} {s s1 : State} (h : readLoc sz src s = .ok d s1) :
    divUnsigned sz src s = divideWithin sz 0 (2 ^ sz.bits - 1) (dividend sz s.regs).toNat d.toNat s1 := by
  have hregs : s1.regs = s.regs := (quiet_readLoc _ _).regs h
  have hzero : (d.toNat : Int) = 0 ↔ d = 0 := Nat.cast_eq_zero.trans (BitVec.toNat_inj (y := 0))
  have hover (k : Nat) : ¬(0 ≤ (k : Int) ∧ (k : Int) ≤ 2 ^ sz.bits - 1) ↔ 2 ^ sz.bits ≤ k := by
    have hcast : ((2 ^ sz.bits : Nat) : Int) = 2 ^ sz.bits := Nat.cast_pow 2 _
    omega
  rw [divUnsigned, M.bind_ok h, getS_bind, hregs, divideWithin]
  rw [← Int.ofNat_tdiv, ← Int.ofNat_tmod, truncInt_natCast, truncInt_natCast, raiseIf_congr hzero, raiseIf_congr (hover _)]

theorem divSigned_apply {sz : Size} {src : Loc} {dw : Word} {s s1 : State} (h : readLoc sz src s = .ok dw s1) :
    divSigned sz src s =
      divideWithin sz (-(2 ^ (sz.bits - 1))) (2 ^ (sz.bits - 1) - 1) (signedDividend sz (dividend sz s.regs)) (signed sz dw)
        s1 := by
  have hregs : s1.regs = s.regs := (quiet_readLoc _ _).regs h
  have hover (q : Int) :
      ¬(-(2 ^ (sz.bits - 1)) ≤ q ∧ q ≤ 2 ^ (sz.bits - 1) - 1) ↔ quotientOverflows sz q = true := by
    rw [quotientOverflows, Bool.or_eq_true, decide_eq_true_iff, decide_eq_true_iff, not_and_or, not_le, not_le]
  rw [divSigned, M.bind_ok h, getS_bind, hregs, divideWithin, raiseIf_congr (hover _)]

theorem drawStatus_apply (s : State) :
    ∃ (f : Flags) (n : Nat), drawStatus s = .ok () { s with flags := f, draws := n } ∧ f.control = s.flags.control :=
  ⟨_, _, rfl, rfl⟩

theorem writeQuotient_apply (sz : Size) (q m : Int) (s : State) :
    writeQuotient sz (truncInt sz q) (truncInt sz m) s = .ok () (s.withRegs (s.regs.putQuotient sz q m)) := by
  cases sz <;> rfl

section

variable {sz : Size} {lo hi n d : Int} {s : State}

theorem divideWithin_fits (hd : d ≠ 0) (hq : lo ≤ n.tdiv d ∧ n.tdiv d ≤ hi) :
    ∃ (f : Flags) (k : Nat),
      divideWithin sz lo hi n d s =
        .ok () { s with regs := s.regs.putQuotient sz (n.tdiv d) (n.tmod d), flags := f, draws := k } ∧
      f.control = s.flags.control := by
  rw [divideWithin, M.bind_ok (raiseIf_false hd), M.bind_ok (raiseIf_false (not_not_intro hq)),
    M.bind_ok (writeQuotient_apply _ _ _ s)]
  exact drawStatus_apply _

theorem divideWithin_zero (hd : d = 0) : divideWithin sz lo hi n d s = .error (.exc Exc.de) s := by
  rw [divideWithin, M.bind_error (raiseIf_true hd)]

theorem divideWithin_overflows (hd : d ≠ 0) (hq : ¬(lo ≤ n.tdiv d ∧ n.tdiv d ≤ hi)) :
    divideWithin sz lo hi n d s = .error (.exc Exc.de) s := by
  rw [divideWithin, M.bind_ok (raiseIf_false hd), M.bind_error (raiseIf_true hq)]

end

/-- A remainder smaller than the divisor and of the dividend's sign is that of the division truncated toward zero. -/
theorem tdiv_tmod_of_remainder {n d q m : Int} (hd : d ≠ 0) (h : n = q * d + m) (hm : |m| < |d|) (hpos : 0 ≤ n → 0 ≤ m)
    (hneg : n ≤ 0 → m ≤ 0) : n.tdiv d = q ∧ n.tmod d = m := by
  have hsum : m + d * q = n := by rw [h, mul_comm, add_comm]
  have hbound : -(d.natAbs : Int) < m ∧ m < d.natAbs := by rwa [Int.abs_eq_natAbs d, abs_lt] at hm
  rcases le_total 0 n with hn | hn
  · exact (Int.tdiv_tmod_unique hn hd).mpr ⟨hsum, hpos hn, hbound.2⟩
  · exact (Int.tdiv_tmod_unique' hn hd).mpr ⟨hsum, hbound.1, hneg hn⟩

/-- Settles O38: DIV and IDIV are one division truncated toward zero, each within its own range of quotients. -/
theorem divideForms : Obligations.DivideForms := by
  intro i sgn sz src dw s s1 hi hr n d lo hi'
  have hdiv : (if sgn then divSigned sz (src s) else divUnsigned sz (src s)) s = divideWithin sz lo hi' n d s1 := by
    cases sgn with
    | true => exact divSigned_apply hr
    | false => exact divUnsigned_apply hr
  clear_value n d lo hi'
  rw [exec_divForm s hi]
  refine ⟨fun q m hd hn hm hpos hneg => ?_, fun hd => run_takes (hdiv.trans (divideWithin_zero hd))⟩
  obtain ⟨rfl, rfl⟩ := tdiv_tmod_of_remainder hd hn hm hpos hneg
  refine ⟨fun hlo hhi => ?_, fun hover => run_takes (hdiv.trans (divideWithin_overflows hd hover))⟩
  obtain ⟨f, k, h, hf⟩ := divideWithin_fits (sz := sz) (s := s1) hd ⟨hlo, hhi⟩
  have hregs : s1.regs = s.regs := (quiet_readLoc _ _).regs hr
  have hflags : s1.flags = s.flags := (quiet_readLoc _ _).flags hr
  have hcycles : s1.cycles = s.cycles := (quiet_readLoc _ _).cycles hr
  rw [hregs] at h
  exact ⟨f, k, (run_next (hdiv.trans h)).trans (congrArg _ (State.count_of_cycles hcycles)),
    hf.trans (congrArg Flags.control hflags)⟩

end Sys2Proof.Machine

end

section

namespace Sys2Proof.Machine

/-! ## Sign extensions, LEA, NOP and MOV from a segment register (spec/43_alu_muldiv.md R266, R267,
spec/45_data_flags_stack.md R282, R284, R285) -/

theorem msb_view (x : Regs) (sz : Size) (r : Reg) : msb sz (x.view sz r) = (x.get r).getLsbD (sz.bits - 1) := by
  have hp := bits_pos sz
  rw [msb, Regs.view, getLsbD_cut, decide_eq_true (by omega), Bool.true_and]

/-- CWD and CDQ fill the view of EDX with the sign of that of EAX (R267). -/
theorem exec_cwdCdq (o : OSize) (s : State) :
    exec (.cwdCdq o) s =
      .next
        { s.putReg o.size .edx (if s.regs.eax.getLsbD (o.size.bits - 1) then cut o.size 0xFFFFFFFF else 0) with
          cycles := s.cycles + 1 } := by
  have hrun : exec (.cwdCdq o) s =
      .next (s.putReg o.size .edx (if msb o.size (s.regs.view o.size .eax) then 0xFFFFFFFF else 0)).count := rfl
  have hbit : s.regs.get .eax = s.regs.eax := rfl
  rw [hrun, msb_view, hbit]
  split
  · rw [State.putReg, State.putReg, Regs.put_cut]
    rfl
  · rfl

/-- The one open question of R142 and R282 is whether 66 selects the size; without it the size is the default one (log 35). -/
theorem State.sregFormSize_eq (s : State) (o : OSize) :
    s.sregFormSize o = if o = s.defaultSize ∨ Config.opsizeSelectsSregForm = true then o else s.defaultSize := by
  by_cases ho : o = s.defaultSize
  · rw [State.sregFormSize, if_pos ho, if_pos (.inl ho)]
  · rw [State.sregFormSize, if_neg ho]
    simp only [ho, false_or]

/-- A selector stored in a register, whose upper half is drawn at 32 bits. -/
theorem storeSelector_reg {o : OSize} {r : Reg} {g : SReg} {w : Word} {s s1 : State}
    (h : selectorAt o (s.seg g).selector s = .ok w s1) :
    storeSelector o (.reg r) g s = .ok () (s1.putReg o.size r w) := by
  rw [storeSelector, getS_bind]
  exact M.bind_ok h

theorem exec_movRm16Sreg_reg {o o' : OSize} {r : Reg} {g : SReg} {w : Word} {k : Nat} {s : State}
    (ho : s.sregFormSize o = o') (h : selectorAt o' (s.seg g).selector s = .ok w { s with draws := k }) :
    exec (.movRm16Sreg o (.reg r) g) s = .next { s.putReg o'.size r w with draws := k, cycles := s.cycles + 1 } := by
  subst ho
  exact run_next (body := storeSelector _ (.reg r) g) (storeSelector_reg h)

/-- Settles O40: each form runs to its end and writes its destination, the selector taking a free upper half at 32 bits. -/
theorem registerMoves : Obligations.RegisterMoves := by
  refine ⟨⟨Config.opsizeSelectsSregForm, State.sregFormSize_eq⟩, fun s => ⟨rfl, rfl, exec_cwdCdq .o16 s, exec_cwdCdq .o32 s,
    fun o r m => rfl, rfl, fun o r g ho => ?_, fun o r g ho => ?_, fun o m g s1 h => ?_⟩⟩
  · exact exec_movRm16Sreg_reg ho rfl
  · obtain ⟨w, k, hsel, hw⟩ := selectorAt_ok .o32 (s.seg g).selector s
    exact ⟨w, k, hsel, exec_movRm16Sreg_reg ho hw⟩
  · have hcycles : s1.cycles = s.cycles := (quiet_memWrite _ _ _ _).cycles h
    exact (run_next (body := storeSelector (s.sregFormSize o) (rmv (.mem m) s) g) h).trans
      (congrArg _ (State.count_of_cycles hcycles))

end Sys2Proof.Machine

end

section

namespace Sys2Proof.Machine

/-! ## The decimal adjustments (spec/44_alu_bcd.md R270 to R275) -/

/-- ZF, SF and PF are those of the byte r (R29). -/
def Flags.SzpOf (f : Flags) (r : Word) : Prop := f.zf = (r == 0) ∧ f.sf = msb .b r ∧ f.pf = parity8 r

theorem Flags.szpOf_setSZP (f : Flags) {r : Word} (h : cut .b r = r) : (f.setSZP r .b).SzpOf r :=
  ⟨Flags.zf_setSZP h, rfl, rfl⟩

theorem cut_byte_add (v w : Word) : cut .b (cut .b v + w) = cut .b (v + w) := by
  refine BitVec.eq_of_toNat_eq ?_
  simp only [toNat_cut, BitVec.toNat_add, Size.bits]
  omega

theorem cut_byte_sub (v w : Word) : cut .b (cut .b v - w) = cut .b (v - w) := by
  rw [BitVec.sub_eq_add_neg, cut_byte_add, BitVec.sub_eq_add_neg]

theorem cut_byte_ofNat {n : Nat} (h : n < 256) : cut .b (BitVec.ofNat 32 n) = BitVec.ofNat 32 n :=
  cut_of_lt (lt_of_le_of_lt (Nat.mod_le n (2 ^ 32)) h)

theorem truncNat_byte (n : Nat) : truncNat .b n = BitVec.ofNat 32 (n % 256) := by
  refine BitVec.eq_of_toNat_eq ?_
  rw [toNat_truncNat, BitVec.toNat_ofNat]
  simp only [Size.bits]
  omega

/-- Two conditional steps, each cut to a byte, are one sum or difference cut to a byte. -/
theorem cut_twoSteps {op : Word → Word → Word} (hzero : ∀ v, op v 0 = v)
    (hcut : ∀ v w, cut .b (op (cut .b v) w) = cut .b (op v w)) {al : Word} (hal : cut .b al = al) (lo hi : Bool) (x y : Word) :
    let al1 := if lo then cut .b (op al x) else al
    (if hi then cut .b (op al1 y) else al1) = cut .b (op (op al (if lo then x else 0)) (if hi then y else 0)) := by
  have hstep (b : Bool) (v w : Word) :
      (if b then cut .b (op (cut .b v) w) else cut .b v) = cut .b (op v (if b then w else 0)) := by
    cases b with
    | false => exact congrArg (cut .b) (hzero v).symm
    | true => exact hcut v w
  have hfirst : (if lo then cut .b (op al x) else al) = cut .b (op al (if lo then x else 0)) := by
    have h := hstep lo al x
    rwa [hal] at h
  dsimp only
  rw [hfirst, hstep]

/-- What DAA and DAS do once the adjusted AL and the carries are known (R270, R271). -/
def storeAdjusted (r : Word) (cf af : Bool) : M Unit := do
  writeReg8 .al r
  modFlags fun f => { f with cf := cf, af := af }.setSZP r .b
  drawOF

theorem run_storeAdjusted {body : M Unit} {r : Word} {cf af : Bool} {s : State} (h : body s = storeAdjusted r cf af s)
    (hr : cut .b r = r) :
    ∃ (f : Flags) (n : Nat),
      run body s = .next { s with regs := s.regs.set8 .al r, flags := f, draws := n, cycles := s.cycles + 1 } ∧
      f.cf = cf ∧ f.af = af ∧ f.SzpOf r ∧ f.control = s.flags.control :=
  ⟨_, _, run_next (h.trans rfl), rfl, rfl, Flags.szpOf_setSZP _ hr, rfl⟩

theorem decimalAdd_apply (s : State) :
    let al := s.regs.get8 .al
    let lo := lowAdjust al s.flags.af
    let hi := highAdjust al s.flags.cf
    decimalAdd s = storeAdjusted (cut .b (al + (if lo then 6 else 0) + (if hi then 0x60 else 0))) hi lo s := by
  intro al lo hi
  rw [← cut_twoSteps (op := (· + ·)) BitVec.add_zero cut_byte_add (cut_get8 s.regs .al) lo hi]
  rfl

theorem decimalSub_apply (s : State) :
    let al := s.regs.get8 .al
    let lo := lowAdjust al s.flags.af
    let hi := highAdjust al s.flags.cf
    decimalSub s =
      storeAdjusted (cut .b (al - (if lo then 6 else 0) - (if hi then 0x60 else 0)))
        (hi || (lo && (s.flags.cf || decide (al.toNat < 6)))) lo s := by
  intro al lo hi
  rw [← cut_twoSteps (op := (· - ·)) BitVec.sub_zero cut_byte_sub (cut_get8 s.regs .al) lo hi]
  rfl

/-- A byte view given what it holds leaves every cell as it was. -/
theorem Regs.set8_get8 (x : Regs) (r : Reg8) : x.set8 r (x.get8 r) = x := by
  refine Regs.ext_get fun p => ?_
  by_cases hp : p = reg8Cell r
  · subst hp
    apply BitVec.eq_of_getLsbD_eq
    intro i hi
    rw [Regs.getLsbD_set8 _ _ _ hi, Regs.getLsbD_get8]
    split
    next h => rw [decide_eq_true (by omega), Bool.true_and, Nat.sub_add_cancel h.1]
    next => rfl
  · exact Regs.get_set8_other _ _ hp

theorem whenM_writeReg8 (b : Bool) (r : Reg8) (v : Word) (s : State) :
    whenM (b = true) (writeReg8 r v) s = .ok () (s.putReg8 r (if b then v else s.regs.get8 r)) := by
  cases b with
  | false => exact congrArg (fun x => EStateM.Result.ok () (s.withRegs x)) (s.regs.set8_get8 r).symm
  | true => rfl

/-- AAA and AAS, their registers written, end alike: CF and AF of the test, and free values for the rest (R272, R273). -/
theorem run_setCarry_drawOSZP {body : M Unit} {x : Regs} {c : Bool} {k : Nat} {s : State}
    (h : body s =
      (modFlags (fun f => { f with cf := c, af := c }) >>= fun _ => drawOSZP) { s with regs := x, draws := k }) :
    ∃ (f : Flags) (n : Nat),
      run body s = .next { s with regs := x, flags := f, draws := n, cycles := s.cycles + 1 } ∧
      f.cf = c ∧ f.af = c ∧ f.control = s.flags.control :=
  ⟨_, _, run_next (h.trans rfl), rfl, rfl, rfl⟩

/-- AAA and AAS write AL and AH, one free bit deciding the second step of AH, and set CF and AF (R272, R273). -/
theorem run_asciiAdjust (edge : Word → Bool) (step carry : Word) (s : State) :
    let al := s.regs.get8 .al
    let ah := s.regs.get8 .ah
    let lo := lowAdjust al s.flags.af
    ∃ (f : Flags) (n : Nat) (twice : Bool),
      run (asciiAdjust edge step carry) s =
        .next
          { s with
            regs :=
              (s.regs.set8 .ah (if lo then (if edge al && twice then ah + carry + carry else ah + carry) else ah)).set8 .al
                ((if lo then al + step else al) &&& 0x0F)
            flags := f, draws := n, cycles := s.cycles + 1 } ∧
      f.cf = lo ∧ f.af = lo ∧ f.control = s.flags.control := by
  intro al ah lo
  obtain ⟨f, n, h⟩ := run_setCarry_drawOSZP (body := asciiAdjust edge step carry) (c := lo) (s := s) (by
    rw [asciiAdjust, getS_bind, M.bind_ok (drawBit_apply s), M.bind_ok (whenM_writeReg8 lo .ah _ _)]
    rfl)
  exact ⟨f, n, _, h⟩

/-- AAM and AAD, their registers written, end alike: SF, ZF and PF of the byte in AL, and free values for the rest (R274,
R275). -/
theorem run_setSZP_drawOAC {body : M Unit} {x : Regs} {r : Word} {s : State}
    (h : body s = (modFlags (fun f => f.setSZP r .b) >>= fun _ => drawOAC) (s.withRegs x)) (hr : cut .b r = r) :
    ∃ (f : Flags) (n : Nat),
      run body s = .next { s with regs := x, flags := f, draws := n, cycles := s.cycles + 1 } ∧
      f.SzpOf r ∧ f.control = s.flags.control :=
  ⟨_, _, run_next (h.trans rfl), Flags.szpOf_setSZP _ hr, rfl⟩

theorem run_asciiMul {base : Byte} (h : base ≠ 0) (s : State) :
    let al := s.regs.get8 .al
    let r := BitVec.ofNat 32 (al.toNat % base.toNat)
    ∃ (f : Flags) (n : Nat),
      run (asciiMul base) s =
        .next
          { s with
            regs := (s.regs.set8 .ah (BitVec.ofNat 32 (al.toNat / base.toNat))).set8 .al r
            flags := f, draws := n, cycles := s.cycles + 1 } ∧
      f.SzpOf r ∧ f.control = s.flags.control := by
  intro al r
  have hpos : 0 < base.toNat := Nat.pos_of_ne_zero fun h0 => h (BitVec.eq_of_toNat_eq h0)
  have hr : cut .b r = r := cut_byte_ofNat ((Nat.mod_lt _ hpos).trans base.isLt)
  exact run_setSZP_drawOAC (M.bind_ok (raiseIf_false h)) hr

theorem asciiMul_zero (s : State) : asciiMul 0 s = .error (.exc Exc.de) s := M.bind_error (raiseIf_true rfl)

theorem run_asciiDiv (base : Byte) (s : State) :
    let r := BitVec.ofNat 32 (((s.regs.get8 .al).toNat + (s.regs.get8 .ah).toNat * base.toNat) % 256)
    ∃ (f : Flags) (n : Nat),
      run (asciiDiv base) s =
        .next { s with regs := (s.regs.set8 .al r).set8 .ah 0, flags := f, draws := n, cycles := s.cycles + 1 } ∧
      f.SzpOf r ∧ f.control = s.flags.control := by
  rw [← truncNat_byte]
  exact run_setSZP_drawOAC rfl (cut_cut .b _)

/-- Settles O39: each adjustment writes its registers and then its flags; the steps on AL add up modulo the byte, and the two
steps on AH are one by 2. -/
theorem decimalAdjustForms : Obligations.DecimalAdjustForms := by
  intro s al ah low high szp
  refine ⟨run_storeAdjusted (decimalAdd_apply s) (cut_cut .b _), run_storeAdjusted (decimalSub_apply s) (cut_cut .b _),
    ?_, ?_, fun base h => run_asciiMul h s, run_takes (asciiMul_zero s), fun base => run_asciiDiv base s⟩
  · have haaa := run_asciiAdjust (fun al => decide (0xFA ≤ al.toNat)) 6 1 s
    simp only [Bool.and_eq_true, decide_eq_true_iff, BitVec.add_assoc] at haaa
    exact haaa
  · have haas := run_asciiAdjust (fun al => decide (al.toNat < 6)) (-6) (-1) s
    simp only [Bool.and_eq_true, decide_eq_true_iff, BitVec.add_assoc] at haas
    simp only [BitVec.sub_eq_add_neg]
    exact haas

end Sys2Proof.Machine

end

section

namespace Sys2Proof.Machine

/-! ## The twelve moves (spec/45_data_flags_stack.md R280, R281) -/

theorem writeLoc_cycles {sz : Size} {v : Word} {l : Loc} {s t : State} (h : writeLoc sz v l s = .ok () t) :
    t.cycles = s.cycles := by
  cases l with
  | reg8 r | reg r => cases h; rfl
  | mem g off => exact (quiet_memWrite g off sz.bytes _).cycles h

/-- A move whose source has been read and whose destination has been written completes. -/
theorem exec_moveForm_next {i : Instr} {sz : Size} {dst : State → Loc} {src : State → Source} {v : Word} {s s1 s2 : State}
    (hi : moveForm i = some (sz, dst, src)) (hr : readSrc sz (src s) s = .ok v s1)
    (hw : writeLoc sz v (dst s) s1 = .ok () s2) : exec i s = .next { s2 with cycles := s.cycles + 1 } := by
  have hmove : move sz (dst s) (src s) s = .ok () s2 := (M.bind_ok hr).trans hw
  have hcycles : s2.cycles = s.cycles := (writeLoc_cycles hw).trans ((quiet_readSrc _ _).cycles hr)
  rw [exec_moveForm s hi, run_next hmove, State.count_of_cycles hcycles]

/-- Settles O41: each destination is written by the one operation that fits it. -/
theorem moveForms : Obligations.MoveForms := by
  intro i sz dst src v s s1 hi hr
  have hnext (l : Loc) (hl : dst s = l) (s2 : State) (hw : writeLoc sz v l s1 = .ok () s2) :
      exec i s = .next { s2 with cycles := s.cycles + 1 } := exec_moveForm_next hi hr (hl ▸ hw)
  refine ⟨fun r hd => hnext _ hd _ rfl, fun r hd => hnext _ hd _ rfl, fun g off s2 hd hw => hnext _ hd s2 hw,
    fun g off hd hp ha => hnext _ hd _ ?_⟩
  have hs := quiet_readSrc _ _ _ _ _ hr
  have hp1 : s1.pg = false := (congrArg State.pg hs).trans hp
  have hl : s1.linAt g off = s.linAt g off := by
    rw [hs]
    cases g <;> rfl
  rw [writeLoc_off hp1, if_pos ha, State.stored, hl]

end Sys2Proof.Machine

end

section

namespace Sys2Proof.Machine

/-! ## The flag instructions (spec/45_data_flags_stack.md R295 to R303) -/

theorem requireIopl_passes {s : State} (h : s.pe = false ∨ s.cpl.toNat ≤ s.flags.iopl.toNat) :
    requireIopl s = .ok () s := by
  refine raiseIf_false ?_
  rintro ⟨hp, hlt⟩
  rcases h with h | h
  · exact Bool.false_ne_true (h.symm.trans hp)
  · omega

theorem requireIopl_raises {s : State} (hp : s.pe = true) (h : s.flags.iopl.toNat < s.cpl.toNat) :
    requireIopl s = .error (.exc (Exc.gp 0)) s := raiseIf_true ⟨hp, h⟩

/-- Settles O45: seven run to their end; CLI and STI once they have compared CPL with IOPL. -/
theorem flagInstructions : Obligations.FlagInstructions := by
  intro s
  refine ⟨rfl, rfl, rfl, rfl, rfl, rfl, rfl, fun h => ?_, fun hp h => ?_⟩
  · have hpass := requireIopl_passes h
    exact ⟨run_next (body := clearIf) (M.bind_ok hpass), run_next (body := setIf) (M.bind_ok hpass)⟩
  · have hraise := requireIopl_raises hp h
    exact ⟨run_takes (body := clearIf) (M.bind_error hraise), run_takes (body := setIf) (M.bind_error hraise)⟩

end Sys2Proof.Machine

end

section

namespace Sys2Proof.Machine

/-! ## PUSHA and POPA (spec/45_data_flags_stack.md R291, R292) -/

/-- The values PUSHA stores, the first one highest (R291). -/
def State.pushAllValues (s : State) : List Word :=
  [s.regs.eax, s.regs.ecx, s.regs.edx, s.regs.ebx, s.sp, s.regs.ebp, s.regs.esi, s.regs.edi]

theorem exec_pusha {o : OSize} {s s1 : State} (h : stage o 0 s.pushAllValues s = .ok () s1) :
    exec (.pusha o) s =
      .next
        { s1 with
          regs := (s.setSp (s.spTrunc (s.sp - BitVec.ofNat 32 (8 * o.bytes)))).regs, cycles := s.cycles + 1 } := by
  have hq := quiet_stage _ _ _ _ _ _ h
  have hbody : pushAll o s = .ok () (s1.setSp (s1.spTrunc (s1.sp + -BitVec.ofNat 32 (8 * o.bytes)))) :=
    (getS_bind _ s).trans (M.bind_ok h)
  refine (run_next (body := pushAll o) hbody).trans ?_
  rw [← BitVec.sub_eq_add_neg, hq]
  rfl

/-- Reads at several stack offsets are the first read and then the others. -/
theorem peekAll_cons_ok {o : OSize} {k : Nat} {ks : List Nat} {v : Word} {vs : List Word} {s t : State}
    (h : peekAll o (k :: ks) s = .ok (v :: vs) t) : ∃ s1, peek o k s = .ok v s1 ∧ peekAll o ks s1 = .ok vs t := by
  rw [peekAll, M.bind_apply] at h
  cases h1 : peek o k s with
  | error x s1 => rw [h1] at h; cases h
  | ok w s1 =>
    rw [h1] at h
    dsimp only at h
    rw [M.bind_apply] at h
    cases h2 : peekAll o ks s1 with
    | error x s2 => rw [h2] at h; cases h
    | ok ws s2 =>
      rw [h2] at h
      cases h
      exact ⟨s1, rfl, h2⟩

theorem quiet_peekAll (o : OSize) (ks : List Nat) : Quiet (peekAll o ks) := by
  induction ks with
  | nil => exact Quiet.pure _
  | cons k ks ih => exact Quiet.bind (quiet_peek _ _) fun _ => Quiet.bind ih fun _ => Quiet.pure _

/-- The registers POPA writes, all but the stack pointer (R292). -/
def Regs.putAll (x : Regs) (sz : Size) (di si bp bx dx cx ax : Word) : Regs :=
  ((((((x.put sz .edi di).put sz .esi si).put sz .ebp bp).put sz .ebx bx).put sz .edx dx).put sz .ecx cx).put sz .eax ax

theorem Regs.putAll_views (x : Regs) (sz : Size) :
    x.putAll sz (x.view sz .edi) (x.view sz .esi) (x.view sz .ebp) (x.view sz .ebx) (x.view sz .edx) (x.view sz .ecx)
      (x.view sz .eax) = x := by
  simp only [Regs.putAll, Regs.put_view]

/-- The stack pointer moved after the other registers are written is the stack pointer moved before. -/
theorem Regs.put_esp_putAll (x : Regs) (sz sz' : Size) (sp di si bp bx dx cx ax : Word) :
    (x.putAll sz di si bp bx dx cx ax).put sz' .esp sp = (x.put sz' .esp sp).putAll sz di si bp bx dx cx ax := rfl

theorem writeReg_bind {β : Type} (sz : Size) (r : Reg) (v : Word) (f : Unit → M β) (s : State) :
    (writeReg sz r v >>= f) s = f () (s.withRegs (s.regs.put sz r v)) := rfl

theorem State.withRegs_withRegs (s : State) (x y : Regs) : (s.withRegs x).withRegs y = s.withRegs y := rfl

theorem moveSp_putAll (k : Word) (sz : Size) (di si bp bx dx cx ax : Word) (s : State) :
    moveSp k (s.withRegs (s.regs.putAll sz di si bp bx dx cx ax)) =
      .ok () (s.withRegs ((s.setSp (s.spTrunc (s.sp + k))).regs.putAll sz di si bp bx dx cx ax)) :=
  congrArg (fun x => EStateM.Result.ok () (s.withRegs x)) (s.regs.put_esp_putAll _ _ _ _ _ _ _ _ _ _)

theorem exec_popa {o : OSize} {di si bp x bx dx cx ax : Word} {s s1 : State}
    (h : peekAll o [0, o.bytes, 2 * o.bytes, 3 * o.bytes, 4 * o.bytes, 5 * o.bytes, 6 * o.bytes, 7 * o.bytes] s =
      .ok [di, si, bp, x, bx, dx, cx, ax] s1) :
    exec (.popa o) s =
      .next
        { s1 with
          regs := (s.setSp (s.spTrunc (s.sp + BitVec.ofNat 32 (8 * o.bytes)))).regs.putAll o.size di si bp bx dx cx ax
          cycles := s.cycles + 1 } := by
  have hq := quiet_peekAll _ _ _ _ _ h
  obtain ⟨s2, h0, h⟩ := peekAll_cons_ok h
  obtain ⟨s3, h1, h⟩ := peekAll_cons_ok h
  obtain ⟨s4, h2, h⟩ := peekAll_cons_ok h
  obtain ⟨s5, h3, h⟩ := peekAll_cons_ok h
  obtain ⟨s6, h4, h⟩ := peekAll_cons_ok h
  obtain ⟨s7, h5, h⟩ := peekAll_cons_ok h
  obtain ⟨s8, h6, h⟩ := peekAll_cons_ok h
  obtain ⟨s9, h7, h⟩ := peekAll_cons_ok h
  cases h
  have hbody : popAll o s =
      moveSp (BitVec.ofNat 32 (8 * o.bytes)) (s1.withRegs (s1.regs.putAll o.size di si bp bx dx cx ax)) := by
    rw [popAll, Nat.one_mul, M.bind_ok h0, M.bind_ok h1, M.bind_ok h2, M.bind_ok h3, M.bind_ok h4, M.bind_ok h5,
      M.bind_ok h6, M.bind_ok h7]
    simp only [writeReg_bind, State.withRegs_regs, State.withRegs_withRegs, Regs.putAll]
  refine (run_next (body := popAll o) (hbody.trans (moveSp_putAll _ _ _ _ _ _ _ _ _ s1))).trans ?_
  rw [hq]
  rfl

/-! ## PUSHA and then POPA in a stack window -/

/-- The n bytes at the address a hold the low bytes of a value, little-endian (spec/20_memory.md R73). -/
def Memory.Holds (m : Memory) (a n : Nat) (v : Quad) : Prop := ∀ i, i < n → m.read (a + i) = (v >>> (8 * i)).setWidth 8

/-- Values stand in slots of n bytes below the address a, the first one highest. -/
def Memory.Slots (m : Memory) (n : Nat) : Nat → List Word → Prop
  | _, [] => True
  | a, v :: vs => m.Holds (a - n) n (v.setWidth 64) ∧ m.Slots n (a - n) vs

theorem State.PlainRam.maskedAddr {s : State} {b k q : Nat} (h : s.PlainRam b k) (hq : q < b + k) : s.maskedAddr q = q := by
  have hlt : q < 2 ^ 32 := (h.ramByte hq).lt
  rw [State.maskedAddr_lt hlt, State.maskA20, if_pos h.a20, BitVec.toNat_ofNat, Nat.mod_eq_of_lt hlt]

/-- The linear address of an offset below the stack pointer of a window does not wrap. -/
theorem State.StackWindow.toNat_linAt {s : State} {k off : Nat} (h : s.StackWindow k) (hoff : off < s.sp.toNat) :
    (s.linAt .ss off).toNat = s.ss.cache.base.toNat + off := by
  have hw := h.ram.noWrap
  rw [State.linAt, segLinear, BitVec.toNat_add, BitVec.toNat_ofNat]
  show (s.ss.cache.base.toNat + off % 2 ^ 32) % 2 ^ 32 = s.ss.cache.base.toNat + off
  omega

theorem State.StackWindow.withMem {s : State} {k : Nat} {m : Memory} (h : s.StackWindow k) (hw : m.wf = true) :
    (s.withMem m).StackWindow k :=
  have ⟨_, hp, ha, hr, hn⟩ := h.ram
  ⟨h.noPaging, h.noWrap, ⟨hw, hp, ha, hr, hn⟩, h.allowed⟩

/-- A store in a stack window: it succeeds, its bytes hold the value, and memory above them is as it was. -/
theorem memWrite_window {s : State} {k off n : Nat} (v : Quad) (h : s.StackWindow k) (hlow : s.sp.toNat ≤ off + k)
    (hhigh : off + n ≤ s.sp.toNat) (hn : 1 ≤ n) (hn8 : n ≤ 8) :
    ∃ m : Memory, memWrite .ss off n v s = .ok () (s.withMem m) ∧ m.wf = true ∧
      (∀ a, s.ss.cache.base.toNat + off + n ≤ a → m.read a = s.mem.read a) ∧
      m.Holds (s.ss.cache.base.toNat + off) n v := by
  obtain ⟨⟨hallow, -⟩, hram⟩ := h.access hlow hhigh hn
  obtain ⟨m, hm, hother, hbytes⟩ := physWrite_ramBytes v hn hn8 hram h.ram.canonical
  have haddr (i : Nat) (hi : i < n) :
      s.maskedAddr ((s.linAt .ss off).toNat + i) = s.ss.cache.base.toNat + off + i := by
    rw [h.toNat_linAt (by omega)]
    exact h.ram.maskedAddr (by omega)
  have hwf : (s.physWrite (s.linAt .ss off) n v).mem.wf = true := (memStep_physWrite s _ n v).wf h.ram.canonical
  rw [hm] at hwf
  refine ⟨m, ?_, hwf, fun a ha => hother a fun i hi => ?_, fun i hi => ?_⟩
  · rw [memWrite_apply, linWrite_off h.noPaging, hm]
    exact if_pos hallow
  · rw [haddr i hi]
    omega
  · rw [← haddr i hi]
    exact hbytes i hi

/-- A multi-value push in a stack window: every value stands in its slot, and memory above the slots is as it was. -/
theorem stage_window {o : OSize} {K : Nat} (vs : List Word) {k : Nat} {s : State} (h : s.StackWindow K)
    (hk : k + vs.length * o.bytes ≤ K) :
    ∃ m : Memory, stage o k vs s = .ok () (s.withMem m) ∧
      (∀ a, s.ss.cache.base.toNat + (s.sp.toNat - k) ≤ a → m.read a = s.mem.read a) ∧
      m.Slots o.bytes (s.ss.cache.base.toNat + (s.sp.toNat - k)) vs := by
  induction vs generalizing k s with
  | nil => exact ⟨s.mem, rfl, fun _ _ => rfl, trivial⟩
  | cons v vs ih =>
    obtain ⟨hn, hn8, -⟩ := osize_bounds o
    have hK := h.noWrap
    rw [List.length_cons, Nat.succ_mul] at hk
    obtain ⟨m1, hstore, hwf, habove, hslot⟩ :=
      memWrite_window (off := s.sp.toNat - (k + o.bytes)) (v.setWidth 64) h (by omega) (by omega) hn hn8
    obtain ⟨m, hrest, hkept, hslots⟩ := ih (k := k + o.bytes) (h.withMem hwf) (by omega)
    have hbelow : s.spBelow (k + o.bytes) = s.sp.toNat - (k + o.bytes) := State.spBelow_window (by omega)
    have hnext : s.ss.cache.base.toNat + (s.sp.toNat - k) - o.bytes =
        s.ss.cache.base.toNat + (s.sp.toNat - (k + o.bytes)) := by omega
    refine ⟨m, ?_, fun a ha => ?_, ?_, hnext ▸ hslots⟩
    · rw [stage, getS_bind, hbelow, M.bind_ok hstore]
      exact hrest
    · exact (hkept a (by show s.ss.cache.base.toNat + (s.sp.toNat - _) ≤ a; omega)).trans (habove a (by omega))
    · intro i hi
      rw [hnext]
      exact (hkept _ (Nat.le_add_right _ i)).trans (hslot i hi)

/-- What a slot gives back of a value stored in it. -/
theorem setWidth_slot (o : OSize) (v : Word) :
    ((v.setWidth 64 &&& BitVec.ofNat 64 (2 ^ (8 * o.bytes) - 1) : Quad)).setWidth 32 = cut o.size v := by
  obtain ⟨-, hn8, hbits⟩ := osize_bounds o
  apply BitVec.eq_of_getLsbD_eq
  intro i hi
  rw [BitVec.getLsbD_setWidth, BitVec.getLsbD_and, BitVec.getLsbD_setWidth, getLsbD_lowMask64 (by omega), getLsbD_cut, hbits]
  simp [hi, show i < 64 by omega, Bool.and_comm]

theorem State.spAt_pushed_add {s : State} {n k : Nat} {m : Memory} (hn : n ≤ s.sp.toNat) (hk : k ≤ n) :
    (s.pushed n m).spAt k = s.sp.toNat - (n - k) := by
  have hsub : s.sp - BitVec.ofNat 32 n + BitVec.ofNat 32 k = s.sp - BitVec.ofNat 32 (n - k) := by
    have hsum : BitVec.ofNat 32 n = BitVec.ofNat 32 (n - k) + BitVec.ofNat 32 k := by
      rw [← BitVec.ofNat_add, Nat.sub_add_cancel hk]
    rw [hsum, ← sub_sub, sub_add_cancel]
  have hpushed : (s.pushed n m).spAt k = s.spBelow (n - k) := by
    rw [State.spAt, State.sp_pushed hn, hsub]
    rfl
  rw [hpushed, State.spBelow_window (by omega)]

/-- A read of a slot of a stack window after the stack pointer moved below it. -/
theorem peek_window {o : OSize} {v : Word} {s : State} {m : Memory} {n k a : Nat} (h : s.StackWindow n)
    (hm : m.Holds a o.bytes (v.setWidth 64)) (ha : a + n = s.ss.cache.base.toNat + s.sp.toNat + k)
    (hk : k + o.bytes ≤ n) : peek o k (s.pushed n m) = .ok (cut o.size v) (s.pushed n m) := by
  obtain ⟨hb, hb8, -⟩ := osize_bounds o
  have hn := h.noWrap
  obtain ⟨⟨-, hallow⟩, hram⟩ := h.access (off := s.sp.toNat - (n - k)) (n := o.bytes) (by omega) (by omega) hb
  have hbytes : ∀ i, i < o.bytes →
      m.read (s.maskedAddr ((s.linAt .ss (s.sp.toNat - (n - k))).toNat + i)) =
        ((v.setWidth 64 : Quad) >>> (8 * i)).setWidth 8 := by
    intro i hi
    rw [h.toNat_linAt (by omega), h.ram.maskedAddr (by omega), ← hm i hi]
    congr 1
    omega
  have hread := physRead_of_bytes (s := s.pushed n m) hb hb8 (fun i hi => have ⟨x, y, z⟩ := hram i hi; ⟨x, y, z⟩) hbytes
  have hlin := linRead_off (s := s.pushed n m) h.noPaging (s.linAt .ss (s.sp.toNat - (n - k))) o.bytes (accAt .read s.cpl)
  rw [hread] at hlin
  have hmem := (memRead_apply .ss _ o.bytes (s.pushed n m)).trans ((if_pos hallow).trans hlin)
  rw [peek, getS_bind, State.spAt_pushed_add hn (by omega), M.bind_ok hmem]
  exact congrArg (EStateM.Result.ok · _) (setWidth_slot o v)

theorem peekAll_of_forall₂ {o : OSize} {ks : List Nat} {vs : List Word} {s : State}
    (h : List.Forall₂ (fun k v => peek o k s = .ok v s) ks vs) : peekAll o ks s = .ok vs s := by
  induction h with
  | nil => rfl
  | cons hk _ ih =>
    rw [peekAll, M.bind_ok hk, M.bind_ok ih]
    rfl

theorem exec_pusha_window {o : OSize} {s : State} (h : s.StackWindow (8 * o.bytes)) :
    ∃ m : Memory, exec (.pusha o) s = .next (s.pushed (8 * o.bytes) m) ∧
      m.Slots o.bytes (s.ss.cache.base.toNat + s.sp.toNat) s.pushAllValues := by
  have hlength : s.pushAllValues.length = 8 := rfl
  obtain ⟨m, hstage, -, hslots⟩ := stage_window (o := o) s.pushAllValues (k := 0) h (by rw [hlength, Nat.zero_add])
  refine ⟨m, (exec_pusha hstage).trans ?_, hslots⟩
  rw [(State.spTrunc_sub h.noWrap).1]
  rfl

/-- The slots PUSHA wrote, read in POPA's order. -/
theorem peekAll_window {o : OSize} {s : State} {m : Memory} {ax cx dx bx sp bp si di : Word}
    (h : s.StackWindow (8 * o.bytes))
    (hm : m.Slots o.bytes (s.ss.cache.base.toNat + s.sp.toNat) [ax, cx, dx, bx, sp, bp, si, di]) :
    peekAll o [0, o.bytes, 2 * o.bytes, 3 * o.bytes, 4 * o.bytes, 5 * o.bytes, 6 * o.bytes, 7 * o.bytes]
        (s.pushed (8 * o.bytes) m) =
      .ok ([di, si, bp, sp, bx, dx, cx, ax].map (cut o.size)) (s.pushed (8 * o.bytes) m) := by
  obtain ⟨hax, hcx, hdx, hbx, hsp, hbp, hsi, hdi, -⟩ := hm
  have hn := h.noWrap
  exact peekAll_of_forall₂
    (.cons (peek_window h hdi (by omega) (by omega))
    (.cons (peek_window h hsi (by omega) (by omega))
    (.cons (peek_window h hbp (by omega) (by omega))
    (.cons (peek_window h hsp (by omega) (by omega))
    (.cons (peek_window h hbx (by omega) (by omega))
    (.cons (peek_window h hdx (by omega) (by omega))
    (.cons (peek_window h hcx (by omega) (by omega))
    (.cons (peek_window h hax (by omega) (by omega))
    .nil))))))))

/-- Settles O44: POPA reads back the slots PUSHA wrote, and the stack pointer is back where it was. -/
theorem pushAllPopAll : Obligations.PushAllPopAll := by
  refine ⟨fun o s s1 => exec_pusha, fun o di si bp x bx dx cx ax s s1 => exec_popa, fun o s h => ?_⟩
  obtain ⟨m, hpush, hslots⟩ := exec_pusha_window h
  have hpop := exec_popa (peekAll_window h hslots)
  rw [State.setSp_pushed h.noWrap] at hpop
  exact ⟨_, _, hpush, hpop, s.regs.putAll_views o.size, rfl⟩

end Sys2Proof.Machine

end

section

namespace Sys2Proof.Machine

/-! ## The near transfers (spec/46_control.md R320 to R325, R330) -/

theorem checkTarget_within {o : OSize} {t : Word} {s : State} (h : (cut o.size t).toNat ≤ s.cs.cache.limit.toNat) :
    checkTarget o t s = .ok (cut o.size t) s := by
  rw [checkTarget_apply, if_neg (not_lt.mpr h)]

theorem checkTarget_beyond {o : OSize} {t : Word} {s : State} (h : s.cs.cache.limit.toNat < (cut o.size t).toNat) :
    checkTarget o t s = .error (.exc (Exc.gp 0)) s := by
  rw [checkTarget_apply, if_pos h]

theorem setEip_within {o : OSize} {t : Word} {s : State} (h : (cut o.size t).toNat ≤ s.cs.cache.limit.toNat) :
    setEip o t s = .ok () (s.withEip (cut o.size t)) := by
  rw [setEip, M.bind_ok (checkTarget_within h), writeEip_apply]

theorem setEip_beyond {o : OSize} {t : Word} {s : State} (h : s.cs.cache.limit.toNat < (cut o.size t).toNat) :
    setEip o t s = .error (.exc (Exc.gp 0)) s := by
  rw [setEip, M.bind_error (checkTarget_beyond h)]

/-- JMP rel sets EIP relative to the next instruction (R321). -/
theorem jumpRel_apply (o : OSize) (rel : Word) (s : State) : jumpRel o rel s = setEip o (s.eip + rel) s := rfl

theorem jumpIf_taken {cc : BitVec 4} {s : State} (h : s.flags.cond cc = true) (o : OSize) (rel : Word) :
    jumpIf cc o rel s = setEip o (s.eip + rel) s := by
  rw [jumpIf, getS_bind, whenM_apply, if_pos h, jumpRel_apply]

theorem jumpIf_notTaken {cc : BitVec 4} {s : State} (h : s.flags.cond cc = false) (o : OSize) (rel : Word) :
    jumpIf cc o rel s = .ok () s := by
  rw [jumpIf, getS_bind, whenM_apply, if_neg (by simp [h])]

theorem State.sameButMemory.cycles {s t : State} (h : s.sameButMemory t) : t.cycles = s.cycles := by rw [h]

theorem State.sameButMemory.cs {s t : State} (h : s.sameButMemory t) : t.cs = s.cs := by rw [h]

/-- The sixteen conditions, each by its number (R323). -/
theorem Flags.cond_table (f : Flags) :
    f.cond 0 = f.of ∧ f.cond 1 = !f.of ∧ f.cond 2 = f.cf ∧ f.cond 3 = !f.cf ∧ f.cond 4 = f.zf ∧ f.cond 5 = !f.zf ∧
    f.cond 6 = (f.cf || f.zf) ∧ f.cond 7 = (!f.cf && !f.zf) ∧ f.cond 8 = f.sf ∧ f.cond 9 = !f.sf ∧ f.cond 10 = f.pf ∧
    f.cond 11 = !f.pf ∧ f.cond 12 = decide (f.sf ≠ f.of) ∧ f.cond 13 = decide (f.sf = f.of) ∧
    f.cond 14 = (f.zf || decide (f.sf ≠ f.of)) ∧ f.cond 15 = (!f.zf && decide (f.sf = f.of)) := by
  have hne : (f.sf != f.of) = decide (f.sf ≠ f.of) := by rw [bne, beq_eq_decide, decide_not]
  have heq : (f.sf == f.of) = decide (f.sf = f.of) := beq_eq_decide _ _
  exact ⟨rfl, rfl, rfl, rfl, rfl, rfl, rfl, rfl, rfl, rfl, rfl, rfl, hne, heq, congrArg (f.zf || ·) hne,
    congrArg (!f.zf && ·) heq⟩

/-- Settles O48: every near jump is a SetEIP of its target, which the limit of CS decides. -/
theorem nearJumps : Obligations.NearJumps := by
  refine ⟨fun i cc o rel s hi => ?_, fun i o rel s hi => ?_, fun o m t s s1 hr => ?_, Flags.cond_table⟩
  · rw [exec_jccForm s hi]
    exact ⟨fun hc => run_next (jumpIf_notTaken hc o rel), fun hc h => run_next ((jumpIf_taken hc o rel).trans (setEip_within h)),
      fun hc h => run_takes ((jumpIf_taken hc o rel).trans (setEip_beyond h))⟩
  · rw [exec_jmpForm s hi]
    exact ⟨fun h => run_next (setEip_within h), fun h => run_takes (setEip_beyond h)⟩
  · have hq := quiet_readLoc _ _ _ _ _ hr
    have hx : jumpTo o (rmv m s) s = setEip o t s1 := M.bind_ok hr
    rw [← hq.cs, ← hq.cycles]
    exact ⟨fun h => run_next (hx.trans (setEip_within h)), fun h => run_takes (hx.trans (setEip_beyond h))⟩

/-! ### CALL and RET -/

/-- What an access leaves of a state, with other general registers and another EIP, and one more instruction counted. -/
theorem count_moved {s s1 : State} (h : s.sameButMemory s1) (r : Regs) (v : Word) :
    { s1 with regs := r, eip := v : State }.count = { s1 with regs := r, eip := v, cycles := s.cycles + 1 } := by
  rw [h]
  rfl

theorem callNear_within {o : OSize} {t : Word} {s s1 : State} (h : (cut o.size t).toNat ≤ s.cs.cache.limit.toNat)
    (hw : memWrite .ss (s.spBelow o.bytes) o.bytes (s.eip.setWidth 64) s = .ok () s1) :
    callNear o t s =
      .ok () { s1 with regs := (s.setSp (s.spTrunc (s.sp - BitVec.ofNat 32 o.bytes))).regs, eip := cut o.size t } := by
  rw [callNear, getS_bind, M.bind_ok (checkTarget_within h), M.bind_ok (push_apply hw)]
  rfl

theorem callNear_beyond {o : OSize} {t : Word} {s : State} (h : s.cs.cache.limit.toNat < (cut o.size t).toNat) :
    callNear o t s = .error (.exc (Exc.gp 0)) s := by
  rw [callNear, getS_bind, M.bind_error (checkTarget_beyond h)]

theorem retNear_within {o : OSize} {extra : Half} {t : Word} {s s1 : State} (hr : peek o 0 s = .ok t s1)
    (h : (cut o.size t).toNat ≤ s.cs.cache.limit.toNat) :
    retNear o extra s =
      .ok ()
        { s1 with
          regs := (s.setSp (s.spTrunc (s.sp + BitVec.ofNat 32 (o.bytes + extra.toNat)))).regs, eip := cut o.size t } := by
  have hq := quiet_peek _ _ _ _ _ hr
  rw [← hq.cs] at h
  rw [retNear, M.bind_ok hr, M.bind_ok (checkTarget_within h), BitVec.ofNat_add, BitVec.ofNat_toNat, hq]
  rfl

theorem retNear_beyond {o : OSize} {extra : Half} {t : Word} {s s1 : State} (hr : peek o 0 s = .ok t s1)
    (h : s1.cs.cache.limit.toNat < (cut o.size t).toNat) : retNear o extra s = .error (.exc (Exc.gp 0)) s1 := by
  rw [retNear, M.bind_ok hr, M.bind_error (checkTarget_beyond h)]

/-- CALL rel is to a target relative to the next instruction (R324). -/
theorem callRel_apply (o : OSize) (rel : Word) (s : State) : callRel o rel s = callNear o (s.eip + rel) s := rfl

theorem exec_callRelv_within {i : ImmV} {s s1 : State}
    (h : (cut i.osize.size (s.eip + immSext i)).toNat ≤ s.cs.cache.limit.toNat)
    (hw : memWrite .ss (s.spBelow i.osize.bytes) i.osize.bytes (s.eip.setWidth 64) s = .ok () s1) :
    exec (.callRelv i) s =
      .next
        { s1 with
          regs := (s.setSp (s.spTrunc (s.sp - BitVec.ofNat 32 i.osize.bytes))).regs
          eip := cut i.osize.size (s.eip + immSext i), cycles := s.cycles + 1 } := by
  exact (run_next ((callRel_apply _ _ s).trans (callNear_within h hw))).trans
    (congrArg _ (count_moved (quiet_memWrite _ _ _ _ _ _ _ hw) _ _))

/-- RET is the near return without an imm16. -/
theorem exec_retForm {i : Instr} {o : OSize} {imm : Half} (hi : (i = .ret o ∧ imm = 0) ∨ i = .retImm16 o imm) (s : State) :
    exec i s = run (retNear o imm) s := by
  rcases hi with ⟨rfl, rfl⟩ | rfl <;> rfl

theorem exec_retForm_within {i : Instr} {o : OSize} {imm : Half} {t : Word} {s s1 : State}
    (hi : (i = .ret o ∧ imm = 0) ∨ i = .retImm16 o imm) (hr : peek o 0 s = .ok t s1)
    (h : (cut o.size t).toNat ≤ s.cs.cache.limit.toNat) :
    exec i s =
      .next
        { s1 with
          regs := (s.setSp (s.spTrunc (s.sp + BitVec.ofNat 32 (o.bytes + imm.toNat)))).regs, eip := cut o.size t
          cycles := s.cycles + 1 } := by
  rw [exec_retForm hi, run_next (retNear_within hr h), count_moved (quiet_peek _ _ _ _ _ hr)]

/-- Settles O49: CALL checks its target before its push, RET after its read. -/
theorem nearCallsAndReturns : Obligations.NearCallsAndReturns := by
  refine ⟨fun i s s1 => ⟨exec_callRelv_within, fun h => ?_⟩, fun o m t s s1 hr => ?_, fun i o imm t s s1 hi hr =>
    ⟨exec_retForm_within hi hr, fun h => ?_⟩⟩
  · exact run_takes ((callRel_apply _ _ s).trans (callNear_beyond h))
  · obtain ⟨mm, ev, rfl⟩ : ∃ mm ev, s1 = { s with mem := mm, events := ev } := ⟨_, _, quiet_readLoc _ _ _ _ _ hr⟩
    have hx : callTo o (rmv m s) s = callNear o t { s with mem := mm, events := ev } := M.bind_ok hr
    refine ⟨fun s2 h hw => ?_, fun h => ?_⟩
    · have hc := callNear_within (s := { s with mem := mm, events := ev }) h hw
      exact (run_next (hx.trans hc)).trans (congrArg _ (count_moved (quiet_memWrite _ _ _ _ _ _ _ hw) _ _))
    · exact run_takes (body := callTo o (rmv m s)) (hx.trans (callNear_beyond h))
  · rw [exec_retForm hi]
    exact run_takes (retNear_beyond hr ((quiet_peek _ _ _ _ _ hr).cs ▸ h))

/-- EIP is no part of a stack window. -/
theorem State.StackWindow.withEip {s : State} {k : Nat} (h : s.StackWindow k) (v : Word) : (s.withEip v).StackWindow k :=
  have ⟨hw, hp, ha, hr, hn⟩ := h.ram
  ⟨h.noPaging, h.noWrap, ⟨hw, hp, ha, hr, hn⟩, h.allowed⟩

/-- Settles O50: RET reads the slot CALL wrote, and the stack pointer is back where it was. -/
theorem callThenReturnRestores : Obligations.CallThenReturnRestores := by
  intro i s h hto hcut hback
  obtain ⟨hn, hn8, -⟩ := osize_bounds i.osize
  have hk := h.noWrap
  obtain ⟨m, hw, -, -, hholds⟩ :=
    memWrite_window (off := s.sp.toNat - i.osize.bytes) (s.eip.setWidth 64) h (by omega) (by omega) hn hn8
  have hcall := exec_callRelv_within hto (by rw [State.spBelow_window hk]; exact hw)
  rw [(State.spTrunc_sub hk).1] at hcall
  have hread : peek i.osize 0 ((s.withEip _).pushed i.osize.bytes m) = .ok (cut i.osize.size s.eip) _ :=
    peek_window (h.withEip (cut i.osize.size (s.eip + immSext i))) hholds
      (by show _ = s.ss.cache.base.toNat + s.sp.toNat + 0; omega) (by omega)
  rw [hcut] at hread
  have hret := exec_retForm_within (imm := 0) (.inl ⟨rfl, rfl⟩) hread (hcut.symm ▸ hback)
  have hregs := State.setSp_pushed (s := s.withEip (cut i.osize.size (s.eip + immSext i))) (m := m) hk
  exact ⟨_, _, hcall, hret, rfl, hcut, hregs, rfl⟩

end Sys2Proof.Machine

end

section

namespace Sys2Proof.Machine

/-! ## Half words of plain RAM (spec/20_memory.md R73) -/

/-- The two bytes of the half word at an address. -/
theorem State.holds_half (s : State) (a : Nat) : s.mem.Holds a 2 ((s.half a).setWidth 64) := by
  intro i hi
  apply BitVec.eq_of_getLsbD_eq
  intro j hj
  rw [BitVec.getLsbD_setWidth, BitVec.getLsbD_ushiftRight, BitVec.getLsbD_setWidth, State.half, BitVec.getLsbD_append]
  interval_cases i
  · simp [hj, show j < 64 by omega]
  · simp [hj, show 8 + j < 64 by omega, show ¬8 + j < 8 by omega]

theorem State.half_of_holds {s : State} {a : Nat} {v : Quad} (h : s.mem.Holds a 2 v) : s.half a = v.setWidth 16 := by
  apply BitVec.eq_of_getLsbD_eq
  intro j hj
  rw [State.half, show s.mem.read a = _ from h 0 (by decide), h 1 (by decide), BitVec.getLsbD_append, BitVec.getLsbD_setWidth,
    BitVec.getLsbD_setWidth, BitVec.getLsbD_setWidth, BitVec.getLsbD_ushiftRight, BitVec.getLsbD_ushiftRight]
  by_cases h8 : j < 8
  · simp [h8, hj]
  · simp [h8, hj, show j - 8 < 8 by omega, show 8 + (j - 8) = j by omega]

theorem State.half_congr {s t : State} {a : Nat} (h0 : t.mem.read a = s.mem.read a) (h1 : t.mem.read (a + 1) = s.mem.read (a + 1)) :
    t.half a = s.half a := by
  rw [State.half, State.half, h0, h1]

theorem State.PlainRam.linRead_half {s : State} {b k : Nat} {p : Word} (h : s.PlainRam b k) (hp : s.pg = false)
    (hk : p.toNat + 2 ≤ b + k) (a : Acc) : linRead p 2 a s = .ok ((s.half p.toNat).setWidth 64) s := by
  have hb : ∀ i, i < 2 → s.mem.read (s.maskedAddr (p.toNat + i)) =
      (((s.half p.toNat).setWidth 64 : Quad) >>> (8 * i)).setWidth 8 := by
    intro i hi
    rw [h.maskedAddr (by omega)]
    exact s.holds_half _ i hi
  rw [linRead_off hp, physRead_of_bytes (by decide) (by decide) (fun i hi => h.ramByte (by omega)) hb]
  refine congrArg (EStateM.Result.ok · s) (BitVec.eq_of_getLsbD_eq fun i hi => ?_)
  rw [BitVec.getLsbD_and, BitVec.getLsbD_setWidth, getLsbD_lowMask64 (by decide)]
  by_cases h16 : i < 16
  · simp [h16]
  · simp [h16, BitVec.getLsbD_of_ge _ i (Nat.le_of_not_lt h16)]

/-- Plain RAM stays plain RAM where the map of memory does not change. -/
theorem State.PlainRam.of_eq {s t : State} {b k : Nat} (h : s.PlainRam b k) (hp : t.params = s.params) (ha : t.a20 = s.a20)
    (hm : t.mem.wf = true) : t.PlainRam b k :=
  have ⟨_, hq, hb, hr, hw⟩ := h
  ⟨hm, hp ▸ hq, ha ▸ hb, hp ▸ hr, hw⟩

/-! ## A real-mode stack (spec/20_memory.md R91 to R93, spec/60_exceptions.md R420) -/

/-- A real-mode stack of 64 KiB in plain RAM. -/
structure State.RealStack (s : State) : Prop where
  real : s.pe = false
  noPaging : s.pg = false
  ram : s.PlainRam s.ss.cache.base.toNat 0x10000
  limit : 0xFFFF ≤ s.ss.cache.limit.toNat

theorem State.RealReady.realStack {s : State} (h : s.RealReady) : s.RealStack := ⟨h.real, h.noPaging, h.stack, h.limit⟩

theorem State.RealStack.of_eq {s t : State} (h : s.RealStack) (hc : t.cr0 = s.cr0) (hs : t.ss = s.ss) (hp : t.params = s.params)
    (ha : t.a20 = s.a20) (hm : t.mem.wf = true) : t.RealStack where
  real := by unfold State.pe; rw [hc]; exact h.real
  noPaging := by unfold State.pg; rw [hc]; exact h.noPaging
  ram := hs ▸ h.ram.of_eq hp ha hm
  limit := hs ▸ h.limit

section RealStack

variable {s : State} (h : s.RealStack)
include h

theorem State.RealStack.sp32 : s.sp32 = false := by rw [State.sp32, h.real, Bool.false_and]

theorem State.RealStack.allows {off : Nat} (hoff : off < 0xFFFF) (k : AccKind) :
    segAllows s.ss.cache false s.pe off 2 k = true := by
  have hl := h.limit
  simp [segAllows, wrongKind, outsideLimit, h.real, show off < s.ss.cache.limit.toNat by omega]

theorem State.RealStack.toNat_linAt {off : Nat} (hoff : off < 0x10000) :
    (s.linAt .ss off).toNat = s.ss.cache.base.toNat + off := by
  have hw := h.ram.noWrap
  rw [State.linAt, segLinear, BitVec.toNat_add, BitVec.toNat_ofNat]
  show (s.ss.cache.base.toNat + off % 2 ^ 32) % 2 ^ 32 = s.ss.cache.base.toNat + off
  omega

/-- A word stored on a real-mode stack: it stands in its slot, and the rest of memory is as it was. -/
theorem State.RealStack.memWrite {off : Nat} (hoff : off < 0xFFFF) (v : Quad) :
    ∃ m : Memory, memWrite .ss off 2 v s = .ok () (s.withMem m) ∧ m.wf = true ∧
      (∀ a, a ≠ (s.linAt .ss off).toNat → a ≠ (s.linAt .ss off).toNat + 1 → m.read a = s.mem.read a) ∧
      m.Holds (s.linAt .ss off).toNat 2 v := by
  have hl := h.toNat_linAt (off := off) (by omega)
  have hmask (i : Nat) (hi : i < 2) : s.maskedAddr ((s.linAt .ss off).toNat + i) = (s.linAt .ss off).toNat + i :=
    h.ram.maskedAddr (by omega)
  obtain ⟨m, hm, hother, hbytes⟩ := physWrite_ramBytes (p := s.linAt .ss off) v (n := 2) (by decide) (by decide)
    (fun i hi => h.ram.ramByte (by omega)) h.ram.canonical
  have hwf : (s.physWrite (s.linAt .ss off) 2 v).mem.wf = true := (memStep_physWrite s _ 2 v).wf h.ram.canonical
  rw [hm] at hwf
  refine ⟨m, ?_, hwf, fun a h0 h1 => hother a fun i hi => ?_, fun i hi => hmask i hi ▸ hbytes i hi⟩
  · rw [memWrite_apply, linWrite_off h.noPaging, hm]
    exact if_pos (h.allows hoff .write)
  · rw [hmask i hi]
    interval_cases i
    · exact h0
    · exact h1

/-- A word read from a real-mode stack. -/
theorem State.RealStack.peek {k : Nat} (hoff : s.spAt k < 0xFFFF) :
    peek .o16 k s = .ok ((s.half (s.linAt .ss (s.spAt k)).toNat).setWidth 32) s := by
  have hl := h.toNat_linAt (off := s.spAt k) (by omega)
  have hr : memRead .ss (s.spAt k) 2 s = .ok ((s.half (s.linAt .ss (s.spAt k)).toNat).setWidth 64) s := by
    rw [memRead_apply, h.ram.linRead_half h.noPaging (by omega)]
    exact if_pos (h.allows hoff .read)
  rw [Machine.peek, getS_bind, show OSize.o16.bytes = 2 from rfl, M.bind_ok hr]
  exact congrArg (EStateM.Result.ok · s) (BitVec.setWidth_setWidth_of_le _ (by decide))

end RealStack

theorem State.spBelow_real {s : State} (h : s.sp32 = false) {k : Nat} (hk : k ≤ 0x10000) :
    s.spBelow k = (s.sp.toNat + 0x10000 - k) % 0x10000 := by
  have hsp : s.sp.toNat < 0x10000 := by
    rw [State.sp, State.spTrunc_toNat, if_neg (by simp [h])]
    omega
  rw [State.spBelow, State.spTrunc_toNat, if_neg (by simp [h]), BitVec.toNat_sub, BitVec.toNat_ofNat]
  omega

/-- Cutting a stack offset to the stack's width before adding to it makes no difference (R93). -/
theorem State.spTrunc_spTrunc_add (s : State) (v w : Word) : s.spTrunc (s.spTrunc v + w) = s.spTrunc (v + w) := by
  apply BitVec.eq_of_toNat_eq
  rw [State.spTrunc_toNat, State.spTrunc_toNat, BitVec.toNat_add, BitVec.toNat_add, State.spTrunc_toNat]
  split <;> omega

/-! ## Delivery in real mode (spec/60_exceptions.md R420) -/

/-- A delivery in real mode is its steps: no exception can be raised under EXT. -/
theorem deliver_real {v : Byte} {src : Src} {err : Option Half} {ret : Word} {s t : State} (hp : s.pe = false)
    (h : deliverReal v ret (s.deliverOn true (classOf v src)) = .ok () t) :
    deliver v src err ret s = .ok () (t.deliverOn false (classOf v src)) := by
  have hb : underExt src
      (getS >>= fun s => if s.pe then deliverProtected v src err ret else deliverReal v ret)
      (s.deliverOn true (classOf v src)) = .ok () t := by
    rw [underExt, getS_bind, if_neg (by simpa [State.pe] using hp), h]
  rw [deliver, modS_bind, M.bind_ok hb, modS_apply]

theorem toNat_ivtAddr (v : Byte) : (ivtAddr v).toNat = 4 * v.toNat ∧ (ivtAddr v + 2).toNat = 4 * v.toNat + 2 := by
  have hv := v.isLt
  have h : (ivtAddr v).toNat = 4 * v.toNat := by
    rw [ivtAddr, BitVec.toNat_shiftLeft, BitVec.toNat_setWidth]
    omega
  exact ⟨h, by rw [BitVec.toNat_add, h]; show (4 * v.toNat + 2) % 2 ^ 32 = _; omega⟩

/-- The three slots of a delivery, the k-th of them k bytes below the stack pointer: none wraps, and no two meet. -/
theorem State.RealReady.slots {s : State} (h : s.RealReady) :
    s.spBelow 2 < 0xFFFF ∧ s.spBelow 4 < 0xFFFF ∧ s.spBelow 6 < 0xFFFF ∧
      (s.spBelow 4 + 2 = s.spBelow 2 ∨ s.spBelow 2 + 0xFFFE = s.spBelow 4) ∧
      (s.spBelow 6 + 2 = s.spBelow 4 ∨ s.spBelow 4 + 0xFFFE = s.spBelow 6) := by
  obtain ⟨h2, h4, h6⟩ := h.pointer
  have hs := h.realStack.sp32
  rw [State.spBelow_real hs (by decide)] at h2 h4 h6 ⊢
  rw [State.spBelow_real hs (by decide), State.spBelow_real hs (by decide)]
  omega

/-- The stores of a delivery in real mode: each value stands in its slot, and the rest of memory is as it was. -/
theorem State.RealReady.stage {s : State} (h : s.RealReady) (x y z : Word) :
    ∃ m : Memory, Machine.stage .o16 0 [x, y, z] s = .ok () (s.withMem m) ∧ m.wf = true ∧
      m.Holds (s.linAt .ss (s.spBelow 2)).toNat 2 (x.setWidth 64) ∧
      m.Holds (s.linAt .ss (s.spBelow 4)).toNat 2 (y.setWidth 64) ∧
      m.Holds (s.linAt .ss (s.spBelow 6)).toNat 2 (z.setWidth 64) ∧
      (∀ a, (∀ k, k = 2 ∨ k = 4 ∨ k = 6 → a ≠ (s.linAt .ss (s.spBelow k)).toNat ∧
        a ≠ (s.linAt .ss (s.spBelow k)).toNat + 1) → m.read a = s.mem.read a) := by
  obtain ⟨h2, h4, h6, h24, h46⟩ := h.slots
  have hr := h.realStack
  have e2 := hr.toNat_linAt (off := s.spBelow 2) (by omega)
  have e4 := hr.toNat_linAt (off := s.spBelow 4) (by omega)
  have e6 := hr.toNat_linAt (off := s.spBelow 6) (by omega)
  obtain ⟨m1, w1, wf1, o1, b1⟩ := hr.memWrite h2 (x.setWidth 64)
  obtain ⟨m2, w2, wf2, o2, b2⟩ := (hr.of_eq rfl rfl rfl rfl wf1 : (s.withMem m1).RealStack).memWrite h4 (y.setWidth 64)
  obtain ⟨m3, w3, wf3, o3, b3⟩ := (hr.of_eq rfl rfl rfl rfl wf2 : (s.withMem m2).RealStack).memWrite h6 (z.setWidth 64)
  have o2' : ∀ a, a ≠ (s.linAt .ss (s.spBelow 4)).toNat → a ≠ (s.linAt .ss (s.spBelow 4)).toNat + 1 →
      m2.read a = m1.read a := o2
  have o3' : ∀ a, a ≠ (s.linAt .ss (s.spBelow 6)).toNat → a ≠ (s.linAt .ss (s.spBelow 6)).toNat + 1 →
      m3.read a = m2.read a := o3
  refine ⟨m3, ?_, wf3, fun i hi => ?_, fun i hi => ?_, b3, fun a ha => ?_⟩
  · exact M.bind_ok w1 |>.trans (M.bind_ok w2 |>.trans (M.bind_ok w3))
  · rw [o3' _ (by omega) (by omega), o2' _ (by omega) (by omega)]
    exact b1 i hi
  · rw [o3' _ (by omega) (by omega)]
    exact b2 i hi
  · obtain ⟨a2, a2'⟩ := ha 2 (.inl rfl)
    obtain ⟨a4, a4'⟩ := ha 4 (.inr (.inl rfl))
    obtain ⟨a6, a6'⟩ := ha 6 (.inr (.inr rfl))
    rw [o3' a a6 a6', o2' a a4 a4', o1 a a2 a2']

theorem State.RealReady.deliverOn {s : State} (h : s.RealReady) (b : Bool) (c : EventClass) : (s.deliverOn b c).RealReady :=
  ⟨h.real, h.noPaging, h.table.of_eq rfl rfl h.table.canonical, h.stack.of_eq rfl rfl h.stack.canonical, h.limit, h.pointer⟩

/-- The last steps of a delivery in real mode, the values stored in m: the new CS and IP come from m, where the stores may have
changed the table (R420). -/
theorem deliverReal_stored {v : Byte} {ret : Word} {s : State} {m : Memory} (h : s.RealReady) (hm : m.wf = true)
    (hs : stage .o16 0 [s.flags.image, s.cs.selector.setWidth 32, ret] s = .ok () (s.withMem m)) :
    deliverReal v ret s =
      .ok ()
        { s with
          mem := m, regs := s.regs.put .w .esp (s.sp - 6), flags := { s.flags with ifl := false, tf := false }
          cs := SegReg.realOf .cs ((s.withMem m).half (4 * v.toNat + 2))
          eip := ((s.withMem m).half (4 * v.toNat)).setWidth 32 } := by
  have hv := v.isLt
  obtain ⟨ho, hc⟩ := toNat_ivtAddr v
  have ht : (s.withMem m).PlainRam 0 0x400 := h.table.of_eq rfl rfl hm
  have hoff := ht.linRead_half (p := ivtAddr v) h.noPaging (by omega) (accSys .read)
  have hsel := ht.linRead_half (p := ivtAddr v + 2) h.noPaging (by omega) (accSys .read)
  have hsp : (s.setSp (s.spTrunc (s.sp + -6))).regs = s.regs.put .w .esp (s.sp - 6) := by
    rw [State.spTrunc_eq_cut, BitVec.sub_eq_add_neg, ← Regs.put_cut s.regs .w]
    rw [State.setSp, State.spSize, h.realStack.sp32]
    rfl
  rw [ho] at hoff
  rw [hc] at hsel
  rw [deliverReal, getS_bind, M.bind_ok hs, M.bind_ok hoff, M.bind_ok hsel, BitVec.setWidth_setWidth_of_le _ (by decide),
    BitVec.setWidth_setWidth_of_le _ (by decide), BitVec.setWidth_eq, ← hsp]
  rfl

/-- A delivery in real mode enters its handler (R420). -/
theorem State.RealReady.enters {s : State} (h : s.RealReady) (v : Byte) (src : Src) (err : Option Half) (ret : Word) :
    ∃ t, deliver v src err ret s = .ok () t ∧ s.RealEntry t v ret (classOf v src) ∧ t.mem.wf = true ∧
      t.cycles = s.cycles := by
  obtain ⟨m, hs, hwf, h2, h4, h6, hf⟩ :=
    (h.deliverOn true (classOf v src)).stage s.flags.image (s.cs.selector.setWidth 32) ret
  have hd := deliver_real (err := err) h.real (deliverReal_stored (v := v) (h.deliverOn true (classOf v src)) hwf hs)
  refine ⟨_, hd, ⟨?_, ?_, ?_, hf, rfl⟩, hwf, rfl⟩
  · exact (State.half_of_holds h2).trans (BitVec.setWidth_setWidth_of_le _ (by decide))
  · refine (State.half_of_holds h4).trans ?_
    rw [BitVec.setWidth_setWidth_of_le _ (by decide), BitVec.setWidth_setWidth_of_le _ (by decide), BitVec.setWidth_eq]
  · exact (State.half_of_holds h6).trans (BitVec.setWidth_setWidth_of_le _ (by decide))

theorem State.RealEntry.withCycles {s t : State} {v : Byte} {ret : Word} {c : EventClass} (h : s.RealEntry t v ret c)
    (n : BitVec 64) : s.RealEntry { t with cycles := n } v ret c :=
  ⟨h.flagsPushed, h.csPushed, h.ipPushed, h.memoryFrame, congrArg (fun x : State => { x with cycles := n }) h.rest⟩

/-! ## INT n, INT3, INTO and IRET in real mode (spec/46_control.md R334, R336 to R338) -/

/-- The instructions that deliver the vector v in the state s (R336 to R338). -/
def interrupts (i : Instr) (v : Byte) (s : State) : Prop :=
  i = .int v ∨ (i = .int3 ∧ v = 3) ∨ (i = .into ∧ v = 4 ∧ s.flags.of = true)

/-- INT n, INT3 and INTO complete as their delivery does. -/
theorem State.Delivers.exec {i : Instr} {v : Byte} {s t : State} (h : s.Delivers v .software none s.eip t)
    (hi : interrupts i v s) : exec i s = .next { t with cycles := t.cycles + 1 } := by
  obtain ⟨hint, hint3, hinto⟩ := h.asInterrupt rfl rfl rfl
  rcases hi with rfl | ⟨rfl, hv⟩ | ⟨rfl, hv, ho⟩
  · exact hint
  · exact hint3 hv
  · exact hinto hv ho

/-- A software interrupt in real mode enters its handler. -/
theorem exec_interrupts_real {i : Instr} {v : Byte} {s : State} (hi : interrupts i v s) (h : s.RealReady) :
    ∃ t, exec i s = .next t ∧ s.RealEntry t v s.eip .benign ∧ t.mem.wf = true ∧ t.cycles = s.cycles + 1 := by
  obtain ⟨t, hd, he, hwf, hc⟩ := h.enters v .software none s.eip
  exact ⟨_, (State.Delivers.of_deliver hd).exec hi, he.withCycles _, hwf, by rw [hc]⟩

/-- INTO with OF clear only completes (R338). -/
theorem intOnOverflow_clear {s : State} (h : s.flags.of = false) : intOnOverflow s = .ok () s := by
  rw [intOnOverflow, getS_bind, whenM_apply, if_neg (by simp [h])]

/-- Settles O23: the delivery of a software interrupt cannot fail on a stack and a table in plain RAM. -/
theorem softwareInterruptsInRealMode : Obligations.SoftwareInterruptsInRealMode := by
  refine ⟨fun i v s hi h => ?_, fun s h => run_next (intOnOverflow_clear h)⟩
  obtain ⟨t, he, hr, -, hc⟩ := exec_interrupts_real hi h
  exact ⟨t, he, hr, hc⟩

/-- The bits IRET writes in real mode: all but VM, at 16 bits those of the low half (R334). -/
def realIretMask : OSize → Word
  | .o16 => 0x7FD5
  | .o32 => 0x3D7FD5

theorem iretMask_real {s : State} (h : s.pe = false) (o : OSize) :
    iretMask s.pe s.cpl s.flags.iopl o = realIretMask o := by
  rw [h, State.cpl, if_neg (by simp [h])]
  cases o <;> simp [iretMask, popfMask, realIretMask]

/-- IRET in real mode: CS is loaded, then EIP is checked against its new limit (R334, R320). -/
theorem interruptReturn_real {o : OSize} {off sel fl : Word} {s s1 s2 s3 : State} (hp : s.pe = false)
    (h1 : peek o 0 s = .ok off s1) (h2 : peek o o.bytes s1 = .ok sel s2) (h3 : peek o (2 * o.bytes) s2 = .ok fl s3) :
    interruptReturn o s =
      (setEip o off >>= fun _ => writeFlags fl (realIretMask o) >>= fun _ =>
        moveSp (BitVec.ofNat 32 (3 * o.bytes))) (s3.setSeg .cs (SegReg.realOf .cs (sel.setWidth 16))) := by
  rw [interruptReturn, getS_bind, if_neg (by simp [hp]), M.bind_ok h1, M.bind_ok h2, M.bind_ok h3, if_pos (by simp [hp]),
    iretMask_real hp]
  rfl

theorem interruptReturn_realWithin {o : OSize} {off sel fl : Word} {s s1 s2 s3 : State} (hp : s.pe = false)
    (h1 : peek o 0 s = .ok off s1) (h2 : peek o o.bytes s1 = .ok sel s2) (h3 : peek o (2 * o.bytes) s2 = .ok fl s3)
    (h : (cut o.size off).toNat ≤ 0xFFFF) :
    interruptReturn o s =
      .ok ()
        { s3 with
          regs := (s.setSp (s.spTrunc (s.sp + BitVec.ofNat 32 (3 * o.bytes)))).regs
          cs := SegReg.realOf .cs (sel.setWidth 16), eip := cut o.size off
          flags := s.flags.write fl (realIretMask o) } := by
  obtain ⟨m, ev, rfl⟩ : ∃ m ev, s3 = { s with mem := m, events := ev } :=
    ⟨_, _, sameButMemory_trans (quiet_peek _ _ _ _ _ h1)
      (sameButMemory_trans (quiet_peek _ _ _ _ _ h2) (quiet_peek _ _ _ _ _ h3))⟩
  exact (interruptReturn_real hp h1 h2 h3).trans (M.bind_ok (setEip_within h))

/-- Settles O24: CS is loaded before the offset is checked, so the limit is the new one. -/
theorem interruptReturnInRealMode : Obligations.InterruptReturnInRealMode := by
  intro o off sel fl s s1 s2 s3 hp h1 h2 h3
  refine ⟨fun h => ?_, fun h => ⟨s3.setSeg .cs (SegReg.realOf .cs (sel.setWidth 16)), ?_, rfl, rfl⟩⟩
  · have hc : s3.cycles = s.cycles :=
      (quiet_peek _ _ _ _ _ h3).cycles.trans ((quiet_peek _ _ _ _ _ h2).cycles.trans (quiet_peek _ _ _ _ _ h1).cycles)
    rw [← hc]
    exact run_next (interruptReturn_realWithin hp h1 h2 h3 h)
  · exact run_takes ((interruptReturn_real hp h1 h2 h3).trans (M.bind_error (setEip_beyond h)))

/-! ### IRET after INT -/

/-- Writing the low half of an image in real mode restores it after IF and TF changed (spec/10_state.md R32, R33). -/
theorem Flags.image_write_low (f : Flags) (a b : Bool) :
    (({ f with ifl := a, tf := b } : Flags).write ((f.image.setWidth 16).setWidth 32) 0x7FD5).image = f.image := by
  apply BitVec.eq_of_getLsbD_eq
  intro i hi
  have hf := f.image_getLsbD hi
  rw [(eflagsWriteThenImage _ _ _ i hi).1, Flags.image_getLsbD _ hi, hf, BitVec.getLsbD_setWidth, BitVec.getLsbD_setWidth, hf]
  interval_cases i <;> simp [Flags.bitOf]

section RealEntry

variable {s t : State} {v : Byte} {ret : Word} {c : EventClass} (he : s.RealEntry t v ret c)
include he

theorem State.RealEntry.linAt_ss (off : Nat) : t.linAt .ss off = s.linAt .ss off := by
  rw [he.rest]
  rfl

theorem State.RealEntry.spTrunc (x : Word) : t.spTrunc x = s.spTrunc x := by
  rw [he.rest]
  rfl

variable (h : s.RealStack)
include h

theorem State.RealEntry.realStack (hm : t.mem.wf = true) : t.RealStack :=
  h.of_eq (by rw [he.rest]) (by rw [he.rest]) (by rw [he.rest]) (by rw [he.rest]) hm

theorem State.RealEntry.sp : t.sp = s.spTrunc (s.sp - 6) := by
  have hr : t.regs = s.regs.put .w .esp (s.sp - 6) := by rw [he.rest]
  have hz : s.spSize = .w := by rw [State.spSize, h.sp32]; rfl
  rw [State.sp, he.spTrunc, hr, State.spTrunc_eq_cut, State.spTrunc_eq_cut, hz]
  exact Regs.view_put_same s.regs .w .esp _

/-- The slots of a delivery as its handler sees them. -/
theorem State.RealEntry.spAt {k : Nat} (hk : k ≤ 6) : t.spAt k = s.spBelow (6 - k) := by
  have hsub : s.sp - 6 + BitVec.ofNat 32 k = s.sp - BitVec.ofNat 32 (6 - k) := by
    have hsum : BitVec.ofNat 32 6 = BitVec.ofNat 32 (6 - k) + BitVec.ofNat 32 k := by
      rw [← BitVec.ofNat_add, Nat.sub_add_cancel hk]
    rw [show (6 : Word) = BitVec.ofNat 32 6 from rfl, hsum, ← sub_sub, sub_add_cancel]
  rw [State.spAt, he.spTrunc, he.sp h, State.spTrunc_spTrunc_add, hsub]
  rfl

/-- A pop of the whole frame leaves the stack pointer where it was before the delivery. -/
theorem State.RealEntry.regs_popped : (t.setSp (t.spTrunc (t.sp + 6))).regs = s.regs := by
  have hr : t.regs = s.regs.put .w .esp (s.sp - 6) := by rw [he.rest]
  have hz : s.spSize = .w := by rw [State.spSize, h.sp32]; rfl
  have ht : t.sp32 = false := by rw [he.rest]; exact h.sp32
  have hp : t.spTrunc (t.sp + 6) = s.regs.view .w .esp := by
    rw [he.spTrunc, he.sp h, State.spTrunc_spTrunc_add, sub_add_cancel, State.spTrunc_of_le le_rfl, State.sp,
      State.spTrunc_eq_cut, hz]
    rfl
  rw [hp, State.setSp, ht]
  show t.regs.put .w .esp _ = s.regs
  rw [hr, Regs.put_put, Regs.put_view]

end RealEntry

/-- The frame of a delivery in real mode as IRET reads it: IP, CS and the low half of the image. -/
theorem State.RealEntry.peeks {s t : State} {v : Byte} {ret : Word} {c : EventClass} (he : s.RealEntry t v ret c)
    (h : s.RealReady) (hm : t.mem.wf = true) :
    peek .o16 0 t = .ok ((ret.setWidth 16).setWidth 32) t ∧ peek .o16 2 t = .ok (s.cs.selector.setWidth 32) t ∧
      peek .o16 4 t = .ok ((s.flags.image.setWidth 16).setWidth 32) t := by
  obtain ⟨h2, h4, h6, -, -⟩ := h.slots
  have hs := h.realStack
  have ht := he.realStack hs hm
  have p0 := ht.peek (k := 0) (by rw [he.spAt hs (by decide)]; exact h6)
  have p2 := ht.peek (k := 2) (by rw [he.spAt hs (by decide)]; exact h4)
  have p4 := ht.peek (k := 4) (by rw [he.spAt hs (by decide)]; exact h2)
  rw [he.spAt hs (by decide), he.linAt_ss] at p0 p2 p4
  exact ⟨he.ipPushed ▸ p0, he.csPushed ▸ p2, he.flagsPushed ▸ p4⟩

/-- An offset within 64 KiB is not changed by its 16-bit slot. -/
theorem cut_setWidth_half {x : Word} (h : x.toNat ≤ 0xFFFF) : cut .w ((x.setWidth 16).setWidth 32) = x := by
  apply BitVec.eq_of_toNat_eq
  rw [cut_eq_and, BitVec.toNat_and, BitVec.toNat_setWidth, BitVec.toNat_setWidth]
  show x.toNat % 2 ^ 16 % 2 ^ 32 &&& 2 ^ 16 - 1 = x.toNat
  rw [Nat.and_two_pow_sub_one_eq_mod]
  omega

/-- Settles O25: IRET reads the frame the delivery pushed, whose low half of the image is all that the delivery changed. -/
theorem returnAfterInterruptRestores : Obligations.ReturnAfterInterruptRestores := by
  intro v s h heip
  obtain ⟨t, hint, he, hwf, -⟩ := exec_interrupts_real (v := v) (.inl rfl) h
  obtain ⟨hip, hcs, hfl⟩ := he.peeks h hwf
  have hback : cut .w ((s.eip.setWidth 16).setWidth 32) = s.eip := cut_setWidth_half heip
  have hiret := (interruptReturnInRealMode .o16 _ _ _ t t t t (he.realStack h.realStack hwf).real hip hcs hfl).1
    (by rw [show OSize.o16.size = .w from rfl, hback]; exact heip)
  refine ⟨t, _, hint, hiret, ?_, hback, ?_, he.regs_popped h.realStack⟩
  · show (s.cs.selector.setWidth 32).setWidth 16 = s.cs.selector
    rw [BitVec.setWidth_setWidth_of_le _ (by decide), BitVec.setWidth_eq]
  · rw [show t.flags = { s.flags with ifl := false, tf := false } by rw [he.rest]]
    exact s.flags.image_write_low false false

end Sys2Proof.Machine

end

section

namespace Sys2Proof.Machine

/-! ## The checks on the way to a handler (spec/60_exceptions.md R402, R421, R430) -/

/-- What an exception raised while an event of source src is delivered becomes: EXT is set for an external interrupt only
(R402, log 24). -/
def extOf (src : Src) (e : Exc) : Exc := if src = .external then e.withExt else e

/-- EXT in an error code (R402). -/
def extCode (src : Src) (c : Half) : Half := if src = .external then c ||| 1 else c

theorem extOf_gp (src : Src) (c : Half) : extOf src (Exc.gp c) = Exc.gp (extCode src c) := by cases src <;> rfl

theorem extOf_np (src : Src) (c : Half) : extOf src (Exc.np c) = Exc.np (extCode src c) := by cases src <;> rfl

/-- Tests whose exceptions are changed one by one raise what the tests raise, changed. -/
theorem checked_map {α : Type} (f : Exc → Exc) (ts : List (Bool × Exc)) (a : α) (s : State) :
    checked (ts.map fun t => (t.1, f t.2)) a s =
      match checked ts a s with
      | .ok b t => .ok b t
      | .error (.exc e) t => .error (.exc (f e)) t
      | .error (.stop r) t => .error (.stop r) t := by
  induction ts with
  | nil => rfl
  | cons t ts ih =>
    obtain ⟨b, e⟩ := t
    cases b
    · exact ih
    · rfl

theorem checked_map_raises {α : Type} {f : Exc → Exc} {ts : List (Bool × Exc)} {a : α} {e : Exc} {s t : State}
    (h : checked (ts.map fun t => (t.1, f t.2)) a s = .error (.exc e) t) :
    ∃ e0, checked ts a s = .error (.exc e0) t ∧ e = f e0 := by
  rw [checked_map] at h
  split at h <;> cases h
  exact ⟨_, ‹_›, rfl⟩

theorem checked_map_passes {α : Type} {f : Exc → Exc} {ts : List (Bool × Exc)} {a : α} {s t : State}
    (h : checked (ts.map fun t => (t.1, f t.2)) a s = .ok a t) : checked ts a s = .ok a t := by
  rw [checked_map] at h
  split at h <;> cases h
  assumption

/-- The tests of the gate g of vector v at the privilege cpl (R421). -/
def idtGateTests (v : Byte) (src : Src) (cpl : BitVec 2) (g : Quad) : List (Bool × Exc) :=
  [(descS g || decide (descType g ∉ [5, 6, 7, 14, 15]), Exc.gp (idtCode v)),
   (decide (src = .software) && decide ((descDPL g).toNat < cpl.toNat), Exc.gp (idtCode v)),
   (!descP g, Exc.np (idtCode v))]

/-- The tests of the code segment d the gate g leads to, at the privilege cpl (R421). -/
def handlerTests (g : Quad) (cpl : BitVec 2) (d : Quad) : List (Bool × Exc) :=
  [(!descS d || !descCode d || decide (cpl.toNat < (descDPL d).toNat), Exc.gp (selCode (gateSelector g))),
   (!descP d, Exc.np (selCode (gateSelector g))), (decide ((descLimit d).toNat < (gateOffset g).toNat), Exc.gp 0)]

theorem decide_notIdtGate (g : Quad) :
    decide (isIdtGate g = false) = (descS g || decide (descType g ∉ [5, 6, 7, 14, 15])) := by
  cases hs : descS g <;> simp [isIdtGate, hs, Bool.and_assoc]

theorem idtGateTests_ext (v : Byte) (src : Src) (cpl : BitVec 2) (g : Quad) :
    (idtGateTests v src cpl g).map (fun t => (t.1, extOf src t.2)) =
      [(descS g || decide (descType g ∉ [5, 6, 7, 14, 15]), Exc.gp (extCode src (idtCode v))),
       (decide (src = .software) && decide ((descDPL g).toNat < cpl.toNat), Exc.gp (extCode src (idtCode v))),
       (!descP g, Exc.np (extCode src (idtCode v)))] := by
  simp only [idtGateTests, List.map_cons, List.map_nil, extOf_gp, extOf_np]

theorem handlerTests_ext (src : Src) (g : Quad) (cpl : BitVec 2) (d : Quad) :
    (handlerTests g cpl d).map (fun t => (t.1, extOf src t.2)) =
      [(!descS d || !descCode d || decide (cpl.toNat < (descDPL d).toNat), Exc.gp (extCode src (selCode (gateSelector g)))),
       (!descP d, Exc.np (extCode src (selCode (gateSelector g)))),
       (decide ((descLimit d).toNat < (gateOffset g).toNat), Exc.gp (extCode src 0))] := by
  simp only [handlerTests, List.map_cons, List.map_nil, extOf_gp, extOf_np]

/-- What a gate the IDT may hold leads to (R421, R430). -/
def throughIdtGate (g : Quad) (err : Option Half) (ret : Word) : M Unit :=
  if descType g = 5 then taskGateDelivery g err ret else gateDelivery g err ret

theorem deliverProtected_beyond {v : Byte} {s : State} (hl : s.idtr.limit.toNat < v.toNat * 8 + 7) (src : Src)
    (err : Option Half) (ret : Word) : deliverProtected v src err ret s = .error (.exc (Exc.gp (idtCode v))) s := by
  rw [deliverProtected, getS_bind, raiseIf_bind, if_pos hl]

/-- A vector within the IDT: the gate's read and its tests, then what the gate leads to (R421). -/
theorem deliverProtected_within {v : Byte} {s : State} (hl : v.toNat * 8 + 7 ≤ s.idtr.limit.toNat) (src : Src)
    (err : Option Half) (ret : Word) :
    deliverProtected v src err ret s =
      (sysRead (s.idtr.base + BitVec.ofNat 32 (v.toNat * 8)) 8 >>= fun g =>
        runTests (idtGateTests v src s.cpl g) >>= fun _ => throughIdtGate g err ret) s := by
  rw [deliverProtected, getS_bind, raiseIf_bind, if_neg (not_lt.mpr hl)]
  refine congrArg (fun f => (sysRead _ 8 >>= f) s) (funext fun g => funext fun t => ?_)
  exact raiseIf_tests (decide_notIdtGate g) fun _ => raiseIf_tests (by simp) fun _ => raiseIf_tests (by simp) fun _ => rfl

theorem gateDelivery_null {g : Quad} {err : Option Half} {ret : Word} {s : State} (hi : selIndex (gateSelector g) = 0) :
    gateDelivery g err ret s = .error (.exc (Exc.gp 0)) s := by
  rw [gateDelivery, raiseIf_bind, if_pos hi]

theorem gateDelivery_descRaises {g : Quad} {err : Option Half} {ret : Word} {x : Abort} {s t : State}
    (hi : selIndex (gateSelector g) ≠ 0) (hd : descRead (gateSelector g) 13 s = .error x t) :
    gateDelivery g err ret s = .error x t := by
  rw [gateDelivery, raiseIf_bind, if_neg hi, show vGP = 13 from rfl, M.bind_error hd]

/-- The delivery to the code segment d, whose tests have passed at the privilege cpl (R421). -/
def enterHandler (g d : Quad) (cpl : BitVec 2) (err : Option Half) (ret : Word) : M Unit :=
  if !descConforming d && decide ((descDPL d).toNat < cpl.toNat) then
    innerDelivery g (gateSelector g) d (gateOffset g) (gateSize g) err ret
  else sameDelivery g (gateSelector g) d (gateOffset g) (gateSize g) err ret

theorem gateDelivery_tests {g d : Quad} {err : Option Half} {ret : Word} {s t : State} (hi : selIndex (gateSelector g) ≠ 0)
    (hd : descRead (gateSelector g) 13 s = .ok d t) :
    gateDelivery g err ret s =
      (runTests (handlerTests g s.cpl d) >>= fun _ => enterHandler g d s.cpl err ret) t := by
  rw [gateDelivery, raiseIf_bind, if_neg hi, show vGP = 13 from rfl, M.bind_ok hd, getS_bind, cpl_descRead hd]
  exact raiseIf_tests (by simp [Bool.or_assoc]) fun _ => raiseIf_tests (by simp) fun _ => raiseIf_tests rfl fun _ => rfl

/-- A delivery in protected mode raises what its steps raise, with EXT for an external interrupt only. -/
theorem State.DeliveryRaises.of_protected {v : Byte} {src : Src} {err : Option Half} {ret : Word} {e : Exc} {s t : State}
    (hp : s.pe = true) (h : deliverProtected v src err ret (s.deliverOn true (classOf v src)) = .error (.exc e) t) :
    s.DeliveryRaises v src err ret (extOf src e) t :=
  .of_deliver <| by
    rw [deliver_protected hp, h]
    cases src <;> rfl

/-- A delivery in protected mode completes where its steps do. -/
theorem State.Delivers.of_protected {v : Byte} {src : Src} {err : Option Half} {ret : Word} {s t : State}
    (hp : s.pe = true) (h : deliverProtected v src err ret (s.deliverOn true (classOf v src)) = .ok () t) :
    s.Delivers v src err ret (t.deliverOn false (classOf v src)) :=
  .of_deliver <| by rw [deliver_protected hp, h]

/-- A delivery whose vector lies in the IDT and whose gate g has been read, in s1. -/
structure State.GateRead (s : State) (v : Byte) (src : Src) (g : Quad) (s1 : State) : Prop where
  protectedMode : s.pe = true
  inTable : v.toNat * 8 + 7 ≤ s.idtr.limit.toNat
  read : sysRead (s.idtr.base + BitVec.ofNat 32 (v.toNat * 8)) 8 (s.deliverOn true (classOf v src)) = .ok g s1

section GateRead

variable {v : Byte} {src : Src} {err : Option Half} {ret : Word} {g : Quad} {s s1 : State} (h : s.GateRead v src g s1)
include h

theorem State.GateRead.deliverProtected :
    deliverProtected v src err ret (s.deliverOn true (classOf v src)) =
      (runTests (idtGateTests v src s.cpl g) >>= fun _ => throughIdtGate g err ret) s1 :=
  (deliverProtected_within (s := s.deliverOn true (classOf v src)) h.inTable src err ret).trans (M.bind_ok h.read)

/-- A gate that fails its tests. -/
theorem State.GateRead.testRaises {e : Exc} (ht : checked (idtGateTests v src s.cpl g) () s1 = .error (.exc e) s1) :
    s.DeliveryRaises v src err ret (extOf src e) s1 :=
  .of_protected h.protectedMode (h.deliverProtected.trans (M.bind_error ht))

theorem State.GateRead.cpl : s1.cpl = s.cpl := by rw [quiet_linRead _ _ _ _ _ _ h.read]; rfl

variable (ht : checked (idtGateTests v src s.cpl g) () s1 = .ok () s1)
include ht

theorem State.GateRead.passes :
    Machine.deliverProtected v src err ret (s.deliverOn true (classOf v src)) = throughIdtGate g err ret s1 :=
  h.deliverProtected.trans (M.bind_ok ht)

/-- A gate that passes its tests raises what it leads to raises. -/
theorem State.GateRead.raises {e : Exc} {t : State} (hr : throughIdtGate g err ret s1 = .error (.exc e) t) :
    s.DeliveryRaises v src err ret (extOf src e) t :=
  .of_protected h.protectedMode ((h.passes ht).trans hr)

theorem State.GateRead.delivers {t : State} (hr : throughIdtGate g err ret s1 = .ok () t) :
    s.Delivers v src err ret (t.deliverOn false (classOf v src)) :=
  .of_protected h.protectedMode ((h.passes ht).trans hr)

end GateRead

/-! ### A task gate (R430) -/

theorem taskGateDelivery_raises {g : Quad} {err : Option Half} {ret : Word} {x : Abort} {s t : State}
    (h : taskSwitch (gateSelector g) .int ret s = .error x t) : taskGateDelivery g err ret s = .error x t := by
  rw [taskGateDelivery, M.bind_error h]

theorem taskGateDelivery_plain {g : Quad} {ret : Word} {s t : State}
    (h : taskSwitch (gateSelector g) .int ret s = .ok () t) : taskGateDelivery g none ret s = .ok () t := by
  rw [taskGateDelivery, M.bind_ok h]
  rfl

/-- The error code is pushed on the new task's stack at the new TSS's width (R430). -/
theorem taskGateDelivery_coded {g : Quad} {c : Half} {ret : Word} {s t u : State}
    (h : taskSwitch (gateSelector g) .int ret s = .ok () t)
    (hw : memWrite .ss (t.spBelow t.taskSize.bytes) t.taskSize.bytes (c.setWidth 64) t = .ok () u) :
    taskGateDelivery g (some c) ret s =
      .ok () { u with regs := (t.setSp (t.spTrunc (t.sp - BitVec.ofNat 32 t.taskSize.bytes))).regs } := by
  have hc : ((c.setWidth 32 : Word).setWidth 64 : Quad) = c.setWidth 64 := BitVec.setWidth_setWidth (by decide)
  rw [taskGateDelivery, M.bind_ok h, getS_bind]
  exact push_apply (by rw [hc]; exact hw)

theorem State.taskSize_bytes (s : State) : s.taskSize.bytes = if s.tr.is32 then 4 else 2 := by
  rw [State.taskSize]
  cases s.tr.is32 <;> rfl

/-- Settles O20: the tests in order up to the first that fails, then the task or the segment the gate leads to. -/
theorem interruptGateChecks : Obligations.InterruptGateChecks := by
  intro v src err ret s hp
  refine ⟨fun hl => ?_, fun hl e s1 hr => ?_, fun hl g s1 hr => ?_⟩
  · have := State.DeliveryRaises.of_protected hp (deliverProtected_beyond (s := s.deliverOn true _) hl src err ret)
    rwa [extOf_gp] at this
  · exact .of_protected hp
      ((deliverProtected_within (s := s.deliverOn true _) hl src err ret).trans (M.bind_error hr))
  have h : s.GateRead v src g s1 := ⟨hp, hl, hr⟩
  have htests := idtGateTests_ext v src s.cpl g
  refine ⟨fun e ht => ?_, fun ht h5 => ?_, fun ht h5 => ?_⟩
  · obtain ⟨e0, h0, rfl⟩ := checked_map_raises (htests ▸ ht)
    exact h.testRaises h0
  · have ht := checked_map_passes (htests ▸ ht)
    have hg : throughIdtGate g err ret s1 = gateDelivery g err ret s1 := by rw [throughIdtGate, if_neg h5]
    refine ⟨fun hi => ?_, fun e s2 hi hd => ?_, fun d s2 e hi hd hc => ?_⟩
    · have := h.raises ht (hg.trans (gateDelivery_null hi))
      rwa [extOf_gp] at this
    · exact h.raises ht (hg.trans (gateDelivery_descRaises hi hd))
    · obtain ⟨e0, h0, rfl⟩ := checked_map_raises (handlerTests_ext src g s.cpl d ▸ hc)
      exact h.raises ht (hg.trans ((gateDelivery_tests hi hd).trans (M.bind_error (h.cpl ▸ h0))))
  · have ht := checked_map_passes (htests ▸ ht)
    have hg : throughIdtGate g err ret s1 = taskGateDelivery g err ret s1 := by rw [throughIdtGate, if_pos h5]
    refine ⟨fun e s2 hs => h.raises ht (hg.trans (taskGateDelivery_raises hs)), fun s2 hs => ⟨?_, ?_⟩⟩
    · rintro rfl
      exact h.delivers ht (hg.trans (taskGateDelivery_plain hs))
    · rintro c s3 rfl n hw
      have hw' : memWrite .ss (s2.spBelow s2.taskSize.bytes) s2.taskSize.bytes (c.setWidth 64) s2 = .ok () s3 := by
        rw [State.taskSize_bytes]
        exact hw
      have := h.delivers ht (hg.trans (taskGateDelivery_coded hs hw'))
      rw [State.taskSize_bytes] at this
      exact this

end Sys2Proof.Machine

end

section

namespace Sys2Proof.Machine

/-! ## Returns in protected mode (spec/46_control.md R331 to R334, spec/60_exceptions.md R442) -/

/-- The tests of the code segment d a return to sel:off leads to, at the privilege cpl (R331). -/
def returnTests (sel : Half) (off : Word) (cpl : BitVec 2) (d : Quad) : List (Bool × Exc) :=
  [(!descS d || !descCode d, Exc.gp (selCode sel)), (decide ((selRPL sel).toNat < cpl.toNat), Exc.gp (selCode sel)),
   (descConforming d && decide ((selRPL sel).toNat < (descDPL d).toNat), Exc.gp (selCode sel)),
   (!descConforming d && decide (descDPL d ≠ selRPL sel), Exc.gp (selCode sel)), (!descP d, Exc.np (selCode sel)),
   (decide ((descLimit d).toNat < off.toNat), Exc.gp 0)]

theorem checkReturnCs_null {sel : Half} {off : Word} {s : State} (hi : selIndex sel = 0) :
    checkReturnCs sel off s = .error (.exc (Exc.gp 0)) s := by
  rw [checkReturnCs, raiseIf_bind, if_pos hi]

theorem checkReturnCs_descRaises {sel : Half} {off : Word} {x : Abort} {s s1 : State} (hi : selIndex sel ≠ 0)
    (hd : descRead sel 13 s = .error x s1) : checkReturnCs sel off s = .error x s1 := by
  rw [checkReturnCs, raiseIf_bind, if_neg hi, show vGP = 13 from rfl, M.bind_error hd]

theorem checkReturnCs_tests {sel : Half} {off : Word} {d : Quad} {s s1 : State} (hi : selIndex sel ≠ 0)
    (hd : descRead sel 13 s = .ok d s1) : checkReturnCs sel off s = checked (returnTests sel off s.cpl d) d s1 := by
  rw [checkReturnCs, raiseIf_bind, if_neg hi, show vGP = 13 from rfl, M.bind_ok hd, getS_bind, cpl_descRead hd, checked_eq_bind]
  exact raiseIf_tests (by simp) fun _ => raiseIf_tests rfl fun _ => raiseIf_tests (by simp) fun _ =>
    raiseIf_tests (by simp) fun _ => raiseIf_tests (by simp) fun _ => raiseIf_tests rfl fun _ => rfl

/-! ### A return after its frame has been read -/

/-- RETF and IRET once their frame has been read: the return to sel:off, k bytes popped, extra added to the ESP of an outer
stack, and the change f of EFLAGS (R331, R332, R334). -/
def returnTo (o : OSize) (k : Nat) (extra : Word) (sel : Half) (off : Word) (cpl : BitVec 2) (f : Flags → Flags) : M Unit := do
  let d ← checkReturnCs sel off
  if selRPL sel = cpl then
    snapshot .cs sel d
    writeEip off
    modFlags f
    moveSp (BitVec.ofNat 32 k)
  else outerReturn o k extra sel d off (modFlags f)

theorem farReturn_returnTo {o : OSize} {imm : Half} {off sel : Word} {s s1 s2 : State} (hp : s.pe = true)
    (h1 : peek o 0 s = .ok off s1) (h2 : peek o o.bytes s1 = .ok sel s2) :
    farReturn o (imm.setWidth 32) s =
      returnTo o (2 * o.bytes + imm.toNat) (imm.setWidth 32) (sel.setWidth 16) (cut o.size off) s.cpl id s2 := by
  have hk : BitVec.ofNat 32 (2 * o.bytes + imm.toNat) = BitVec.ofNat 32 (2 * o.bytes) + imm.setWidth 32 := by
    rw [BitVec.ofNat_add, BitVec.ofNat_toNat]
  have he : (imm.setWidth 32).toNat = imm.toNat := BitVec.toNat_setWidth_of_le (by decide)
  rw [farReturn, getS_bind, M.bind_ok h1, M.bind_ok h2, if_neg (by simp [hp]), returnTo, hk, he]
  rfl

/-- The bits IRET writes in protected mode, in the words of R334. -/
theorem iretMask_protected {s : State} (hp : s.pe = true) (o : OSize) :
    iretMask s.pe s.cpl s.flags.iopl o =
      0x4DD5 ||| (if s.cpl = 0 then 0x3000 else 0) ||| (if s.cpl.toNat ≤ s.flags.iopl.toNat then 0x0200 else 0) |||
        (match o with | .o16 => 0 | .o32 => if s.cpl = 0 then 0x003D0000 else 0x00250000) := by
  unfold iretMask
  rw [popfMask_eq, hp]
  cases o with
  | o16 => simp
  | o32 => by_cases hc : s.cpl = 0#2 <;> simp [hc, BitVec.or_assoc]

theorem interruptReturn_returnTo {o : OSize} {off sel fl : Word} {s s1 s2 s3 : State} (hp : s.pe = true)
    (hn : s.flags.nt = false) (h1 : peek o 0 s = .ok off s1) (h2 : peek o o.bytes s1 = .ok sel s2)
    (h3 : peek o (2 * o.bytes) s2 = .ok fl s3) (hv : ¬(o = .o32 ∧ fl.getLsbD 17 = true ∧ s.cpl = 0)) :
    interruptReturn o s =
      returnTo o (3 * o.bytes) 0 (sel.setWidth 16) (cut o.size off) s.cpl
        (fun f => f.write fl (iretMask s.pe s.cpl s.flags.iopl o)) s3 := by
  rw [interruptReturn, getS_bind, if_neg (by simp [hn]), M.bind_ok h1, M.bind_ok h2, M.bind_ok h3, if_neg (by simp [hp]),
    if_neg hv]
  rfl

/-- A return whose frame has been read is the return to what it popped, and its flags are those it will leave. -/
theorem State.Popped.returnTo {i : Instr} {o : OSize} {off : Word} {sel : Half} {k : Nat} {imm : Half} {fl : Flags}
    {s s1 : State} (h : s.Popped i o off sel k imm fl s1) (hp : s.pe = true) :
    ∃ (body : M Unit) (f : Flags → Flags), exec i s = run body s ∧ f s.flags = fl ∧
      body s = Machine.returnTo o k (imm.setWidth 32) sel (cut o.size off) s.cpl f s1 := by
  cases h with
  | retf h1 h2 => exact ⟨farReturn o 0, id, rfl, rfl, farReturn_returnTo (imm := 0) hp h1 h2⟩
  | retfImm16 h1 h2 => exact ⟨farReturn o (imm.setWidth 32), id, rfl, rfl, farReturn_returnTo hp h1 h2⟩
  | iret hn h1 h2 h3 hv =>
    exact ⟨interruptReturn o, _, rfl, congrArg _ (iretMask_protected hp o), interruptReturn_returnTo hp hn h1 h2 h3 hv⟩

theorem State.Popped.same {i : Instr} {o : OSize} {off : Word} {sel : Half} {k : Nat} {imm : Half} {fl : Flags}
    {s s1 : State} (h : s.Popped i o off sel k imm fl s1) : s.sameButMemory s1 := by
  cases h with
  | retf h1 h2 => exact sameButMemory_trans (quiet_peek _ _ _ _ _ h1) (quiet_peek _ _ _ _ _ h2)
  | retfImm16 h1 h2 => exact sameButMemory_trans (quiet_peek _ _ _ _ _ h1) (quiet_peek _ _ _ _ _ h2)
  | iret _ h1 h2 h3 _ =>
    exact sameButMemory_trans (quiet_peek _ _ _ _ _ h1) (sameButMemory_trans (quiet_peek _ _ _ _ _ h2) (quiet_peek _ _ _ _ _ h3))

theorem moveSp_sameStack {s t : State} (h : s.sameStack t) (k : Word) :
    moveSp k t = .ok () { t with regs := (s.setSp (s.spTrunc (s.sp + k))).regs } := by
  obtain ⟨hr, hs, hc⟩ := h
  rw [moveSp, modS_apply]
  simp only [State.setSp, State.spTrunc, State.sp, State.sp32, State.pe, State.putReg_eq, State.withRegs, hr, hs, hc]
  rfl

section ReturnTo

variable {o : OSize} {k : Nat} {extra : Word} {sel : Half} {off : Word} {cpl : BitVec 2} {f : Flags → Flags} {d : Quad}
  {s s1 : State}

theorem returnTo_raises {x : Abort} (h : checkReturnCs sel off s = .error x s1) :
    returnTo o k extra sel off cpl f s = .error x s1 := by
  rw [returnTo, M.bind_error h]

/-- A return to the same privilege (R331, R334). -/
theorem returnTo_same {s2 : State} (h : checkReturnCs sel off s = .ok d s1) (hr : selRPL sel = cpl)
    (hm : State.Marked { s1 with cs := { selector := sel, cache := cacheOf d false (selRPL sel) } } sel d s2) :
    returnTo o k extra sel off cpl f s =
      .ok ()
        { s2 with
          regs := (s.setSp (s.spTrunc (s.sp + BitVec.ofNat 32 k))).regs, eip := off, flags := f s.flags } := by
  have hq := quiet_checkReturnCs _ _ _ _ _ h
  have hs : s.sameStack { s2 with eip := off, flags := f s2.flags } := by
    rw [hm.same, hq]
    exact ⟨rfl, rfl, rfl⟩
  have hf : s2.flags = s.flags := by rw [hm.same, hq]
  rw [returnTo, M.bind_ok h, if_pos hr, M.bind_ok (snapshot_marked (g := .cs) hm rfl rfl), M.bind_ok (writeEip_apply _ _),
    M.bind_ok (modFlags_apply _ _), ← hf]
  exact moveSp_sameStack hs _

theorem returnTo_outer (h : checkReturnCs sel off s = .ok d s1) (hr : selRPL sel ≠ cpl) :
    returnTo o k extra sel off cpl f s = outerReturn o k extra sel d off (modFlags f) s1 := by
  rw [returnTo, M.bind_ok h, if_neg hr]

end ReturnTo

/-! ### To an outer privilege (R332, R333) -/

/-- The tests of the outer stack segment ds, selected by nss, of a return to the privilege r (R332). -/
def outerStackTests (nss : Half) (r : BitVec 2) (ds : Quad) : List (Bool × Exc) :=
  [(decide (selRPL nss ≠ r) || !descS ds || descCode ds || !descWritable ds || decide (descDPL ds ≠ r),
    Exc.gp (selCode nss)),
   (!descP ds, Exc.ss (selCode nss))]

/-- The last steps of a return to an outer privilege, its stack's tests passed (R332). -/
def commitOuter (extra : Word) (sel : Half) (d : Quad) (off : Word) (f : Flags → Flags) (nesp : Word) (nss : Half) (ds : Quad) :
    M Unit := do
  snapshot .cs sel d
  writeEip off
  modFlags f
  snapshot .ss nss ds
  modS fun s => s.putReg .d .esp (merge (if descDB ds then .d else .w) s.regs.esp nesp + extra)
  zeroStaleSegments

/-- A return to an outer privilege once the outer ESP and SS have been read (R332). -/
def outerTo (extra : Word) (sel : Half) (d : Quad) (off : Word) (f : Flags → Flags) (nesp : Word) (nss : Half) : M Unit := do
  raiseIf (selIndex nss = 0) (Exc.gp 0)
  let ds ← descRead nss 13
  runTests (outerStackTests nss (selRPL sel) ds)
  commitOuter extra sel d off f nesp nss ds

section Outer

variable {o : OSize} {k : Nat} {extra : Word} {sel nss : Half} {off nesp : Word} {f : Flags → Flags} {d ds : Quad}
  {s s1 s2 : State}

theorem outerReturn_outerTo {nssW : Word} (h1 : peek o k s = .ok nesp s1) (h2 : peek o (k + o.bytes) s1 = .ok nssW s2) :
    outerReturn o k extra sel d off (modFlags f) s = outerTo extra sel d off f nesp (nssW.setWidth 16) s2 := by
  rw [outerReturn, M.bind_ok h1, M.bind_ok h2]
  refine congrArg (fun g => (raiseIf _ _ >>= fun _ => descRead _ 13 >>= g) s2) (funext fun ds => funext fun t => ?_)
  exact raiseIf_tests (by simp [isWritableData, Bool.or_assoc]) fun _ => raiseIf_tests (by simp) fun _ => rfl

theorem outerTo_null (hi : selIndex nss = 0) :
    outerTo extra sel d off f nesp nss s = .error (.exc (Exc.gp 0)) s := by
  rw [outerTo, raiseIf_bind, if_pos hi]

theorem outerTo_descRaises {x : Abort} (hi : selIndex nss ≠ 0) (hd : descRead nss 13 s = .error x s1) :
    outerTo extra sel d off f nesp nss s = .error x s1 := by
  rw [outerTo, raiseIf_bind, if_neg hi, M.bind_error hd]

theorem outerTo_tests (hi : selIndex nss ≠ 0) (hd : descRead nss 13 s = .ok ds s1) :
    outerTo extra sel d off f nesp nss s =
      (runTests (outerStackTests nss (selRPL sel) ds) >>= fun _ => commitOuter extra sel d off f nesp nss ds) s1 := by
  rw [outerTo, raiseIf_bind, if_neg hi, M.bind_ok hd]

end Outer

/-- A data segment register after a return to the privilege r (R333). -/
def staleAt (r : BitVec 2) (x : SegReg) : SegReg :=
  if x.cache.null = false ∧ x.cache.dpl.toNat < r.toNat then SegReg.nullOf 0 false else x

theorem State.zeroStale_eq (s : State) (g : SReg) : s.zeroStale g = s.setSeg g (staleAt s.cpl (s.seg g)) := by
  rw [State.zeroStale, staleAt]
  by_cases h : (s.seg g).cache.null = false ∧ (s.seg g).cache.dpl.toNat < s.cpl.toNat
  · rw [if_pos h, if_pos (by simpa using h)]
  · rw [if_neg h, if_neg (by simpa using h)]
    cases g <;> rfl

theorem zeroStaleSegments_apply {r : BitVec 2} {s : State} (hr : s.cpl = r) :
    zeroStaleSegments s =
      .ok () { s with ds := staleAt r s.ds, es := staleAt r s.es, fs := staleAt r s.fs, gs := staleAt r s.gs } := by
  subst hr
  rw [zeroStaleSegments, modS_apply]
  simp only [State.zeroStale_eq]
  rfl

/-- A stack selector that passes its tests has the privilege returned to as its RPL. -/
theorem selRPL_of_outerStackTests {nss : Half} {r : BitVec 2} {ds : Quad} {s : State}
    (h : checked (outerStackTests nss r ds) () s = .ok () s) : selRPL nss = r := by
  by_contra hne
  simp [outerStackTests, checked, hne] at h

/-- The commit of a return to an outer privilege, from the state after its reads (R332, R333). -/
theorem commitOuter_apply {extra : Word} {sel nss : Half} {d ds : Quad} {off nesp : Word} {f : Flags → Flags} {s s1 s2 : State}
    (hp : s.pe = true) (hn : selRPL nss = selRPL sel)
    (hc : State.Marked { s with cs := { selector := sel, cache := cacheOf d false (selRPL sel) } } sel d s1)
    (hs : State.Marked
      { s1 with eip := off, flags := f s.flags, ss := { selector := nss, cache := cacheOf ds true (selRPL sel) } } nss ds s2) :
    commitOuter extra sel d off f nesp nss ds s =
      .ok ()
        { s2 with
          regs := s.regs.set .esp (merge (if descDB ds then .d else .w) s.regs.esp nesp + extra)
          ds := staleAt (selRPL sel) s.ds, es := staleAt (selRPL sel) s.es, fs := staleAt (selRPL sel) s.fs
          gs := staleAt (selRPL sel) s.gs } := by
  have hq1 := hc.same
  have hq2 := hs.same
  rw [show s.flags = s1.flags by rw [hq1]] at hs
  have hr : s2.regs = s.regs := by rw [hq2, hq1]
  have hd : s2.ds = s.ds ∧ s2.es = s.es ∧ s2.fs = s.fs ∧ s2.gs = s.gs := by
    rw [hq2, hq1]
    exact ⟨rfl, rfl, rfl, rfl⟩
  obtain ⟨hds, hes, hfs, hgs⟩ := hd
  have hcpl : (s2.putReg .d .esp (merge (if descDB ds then .d else .w) s2.regs.esp nesp + extra)).cpl = selRPL sel := by
    rw [hq2, hq1]
    exact if_pos hp
  rw [commitOuter, M.bind_ok (snapshot_marked (g := .cs) hc rfl rfl), M.bind_ok (writeEip_apply _ _),
    M.bind_ok (modFlags_apply _ _), M.bind_ok (snapshot_marked (g := .ss) (sel' := nss) (by rw [hn]; exact hs) rfl rfl),
    M.bind_ok (modS_apply _ _), zeroStaleSegments_apply hcpl, ← hr, ← hds, ← hes, ← hfs, ← hgs]
  rfl

/-! ### To virtual-8086 mode, and from a nested task (R334, R442) -/

theorem interruptReturn_virtual8086 {off sel fl : Word} {s s1 s2 s3 : State} (hp : s.pe = true) (hn : s.flags.nt = false)
    (hc : s.cpl = 0) (h1 : peek .o32 0 s = .ok off s1) (h2 : peek .o32 4 s1 = .ok sel s2) (h3 : peek .o32 8 s2 = .ok fl s3)
    (hv : fl.getLsbD 17 = true) : interruptReturn .o32 s = .error (.stop .virtual8086Return) s3 := by
  rw [interruptReturn, getS_bind, if_neg (by simp [hn]), M.bind_ok h1, show OSize.o32.bytes = 4 from rfl, M.bind_ok h2,
    M.bind_ok h3, if_neg (by simp [hp]), if_pos ⟨rfl, hv, hc⟩, refuse_apply]

/-- IRET with NT set switches to the task the back-link names (R442). -/
theorem interruptReturn_nested {o : OSize} {link : Quad} {s s1 : State} (hp : s.pe = true) (hn : s.flags.nt = true)
    (hl : sysRead s.tr.base 2 s = .ok link s1) :
    interruptReturn o s = taskSwitch (link.setWidth 16) .iret s.eip s1 := by
  rw [interruptReturn, getS_bind, if_pos (by simp [hp, hn]), M.bind_ok hl]

/-- Settles O52: the frame, the tests of CS, then the same privilege or the outer stack and its tests. -/
theorem returnsInProtectedMode : Obligations.ReturnsInProtectedMode := by
  refine ⟨fun sel off s => ⟨checkReturnCs_null, fun e s1 => checkReturnCs_descRaises, fun d s1 => checkReturnCs_tests⟩, ?_,
    fun off sel fl s s1 s2 s3 hp hn hc h1 h2 h3 hv => run_refuses (interruptReturn_virtual8086 hp hn hc h1 h2 h3 hv),
    fun o link s s1 hp hn hl => ⟨fun t ht => run_next ((interruptReturn_nested hp hn hl).trans ht),
      fun e t ht => run_takes ((interruptReturn_nested hp hn hl).trans ht)⟩⟩
  intro i o off sel k imm fl s s1 hp hpop
  have hq := hpop.same
  obtain ⟨body, f, hx, rfl, hb⟩ := hpop.returnTo hp
  refine ⟨fun e s2 hc => ?_, fun d s2 hc => ⟨fun s3 hr hm => ?_, fun nesp nssW s3 s4 hr h1 h2 => ?_⟩⟩
  · rw [hx]
    exact run_takes (hb.trans (returnTo_raises hc))
  · have hcy : s3.cycles = s.cycles := by rw [hm.same, quiet_checkReturnCs _ _ _ _ _ hc, hq]
    rw [hx, run_next (hb.trans (returnTo_same hc hr hm)), hq, ← hcy]
    rfl
  · have hq4 : s.sameButMemory s4 := sameButMemory_trans hq (sameButMemory_trans (quiet_checkReturnCs _ _ _ _ _ hc)
      (sameButMemory_trans (quiet_peek _ _ _ _ _ h1) (quiet_peek _ _ _ _ _ h2)))
    have hout := hb.trans ((returnTo_outer hc hr).trans (outerReturn_outerTo h1 h2))
    rw [hx]
    refine ⟨fun hi => run_takes (hout.trans (outerTo_null hi)),
      fun e s5 hi hd => run_takes (hout.trans (outerTo_descRaises hi hd)), fun ds s5 hi hd => ?_⟩
    have htests := hout.trans (outerTo_tests hi hd)
    refine ⟨fun e ht => run_takes (htests.trans (M.bind_error ht)), fun s6 s7 ht hm hm2 => ?_⟩
    obtain ⟨m, ev, rfl⟩ : ∃ m ev, s5 = { s with mem := m, events := ev } :=
      ⟨_, _, sameButMemory_trans hq4 (quiet_descRead _ _ _ _ _ hd)⟩
    have hcy : s7.cycles = s.cycles := by rw [hm2.same, hm.same]
    have hcommit := commitOuter_apply (s := { s with mem := m, events := ev }) (extra := imm.setWidth 32) (nesp := nesp) hp
      (selRPL_of_outerStackTests ht) hm hm2
    rw [run_next (htests.trans ((M.bind_ok ht).trans hcommit)), ← hcy]
    rfl

end Sys2Proof.Machine

end

section

namespace Sys2Proof.Machine

/-! ## Privilege (spec/60_exceptions.md R450) -/

theorem requireCpl0_inside {s : State} (h : s.cpl = 0) : requireCpl0 s = .ok () s := raiseIf_false (not_not.mpr h)

theorem requireCpl0_outside {s : State} (h : s.cpl ≠ 0) : requireCpl0 s = .error (.exc (Exc.gp 0)) s := raiseIf_true h

theorem requireProtected_protected {s : State} (h : s.pe = true) : requireProtected s = .ok () s :=
  raiseIf_false (by simp [h])

theorem requireProtected_real {s : State} (h : s.pe = false) : requireProtected s = .error (.exc Exc.ud) s := raiseIf_true h

/-- What an instruction that needs CPL 0 runs raises #GP(0) before anything else. -/
theorem exec_needsCpl0_outside {i : Instr} {s : State} (hi : needsCpl0 i = true) (hp : s.pe = true) (hc : s.cpl ≠ 0) :
    exec i s = takeException (Exc.gp 0) s s := by
  have h0 : ∀ {α : Type} (f : Unit → M α), (requireCpl0 >>= f) s = .error (.exc (Exc.gp 0)) s := fun _ =>
    M.bind_error (requireCpl0_outside hc)
  have h1 : ∀ f : Unit → M Unit, (requireProtected >>= fun _ => requireCpl0 >>= f) s = .error (.exc (Exc.gp 0)) s := fun f =>
    (M.bind_ok (requireProtected_protected hp)).trans (h0 f)
  cases i
  case hlt | clts | movR32Cr | movCrR32 | movR32Dr | movDrR32 => exact run_takes (h0 _)
  case lgdt | lidt => exact run_takes (M.bind_error (h0 _))
  case lldt | ltr => exact run_takes (h1 _)
  all_goals cases hi

theorem exec_needsProtection_real {i : Instr} {s : State} (hi : needsProtection i = true) (hp : s.pe = false) :
    exec i s = takeException Exc.ud s s := by
  cases i
  case lldt | ltr => exact run_takes (M.bind_error (requireProtected_real hp))
  all_goals cases hi

/-- Settles O56: every privileged instruction makes its test of CPL first, LLDT and LTR that of PE before it. -/
theorem privilegedInstructionsNeedCplZero : Obligations.PrivilegedInstructionsNeedCplZero :=
  ⟨fun _ _ => exec_needsCpl0_outside, fun _ _ => exec_needsProtection_real⟩

/-! ## HLT, CLTS and the moves of control and debug registers (spec/47_system.md R360, R364 to R368) -/

/-- Once its test of CPL has passed, a privileged body is what follows the test. -/
theorem cpl0_bind {α : Type} {s : State} (h : s.cpl = 0) (f : Unit → M α) : (requireCpl0 >>= f) s = f () s :=
  M.bind_ok (requireCpl0_inside h)

section Inside

variable {s : State} (h : s.cpl = 0)

include h

theorem halt_inside : halt s = .ok () { s with halted := true } := cpl0_bind h _

theorem clearTs_inside : clearTs s = .ok () { s with cr0 := s.cr0 &&& 0xFFFFFFF7 } := cpl0_bind h _

theorem readControl_inside (r : Reg) (n : CReg) : readControl r n s = .ok () (s.putReg .d r (s.getCr n)) := cpl0_bind h _

theorem readDebug_inside (r : Reg) (n : DReg) : readDebug r n s = .ok () (s.putReg .d r (s.dr.get n)) := cpl0_bind h _

theorem writeDebug_inside (n : DReg) (r : Reg) : writeDebug n r s = .ok () { s with dr := s.dr.set n (s.regs.get r) } :=
  cpl0_bind h _

theorem writeControl_valid {n : CReg} {r : Reg}
    (hv : n = .cr0 → (s.regs.get r).getLsbD 31 = true → (s.regs.get r).getLsbD 0 = true) :
    writeControl n r s = .ok () (s.setCr n (s.regs.get r)) := by
  refine (cpl0_bind h _).trans ((raiseIf_bind _ _ _ s).trans (if_neg ?_))
  rintro ⟨hn, hg, he⟩
  exact absurd ((hv hn hg).symm.trans he) (by decide)

theorem writeControl_pagingUnprotected {r : Reg} (hg : (s.regs.get r).getLsbD 31 = true)
    (he : (s.regs.get r).getLsbD 0 = false) : writeControl .cr0 r s = .error (.exc (Exc.gp 0)) s :=
  (cpl0_bind h _).trans ((raiseIf_bind _ _ _ s).trans (if_pos ⟨rfl, hg, he⟩))

end Inside

/-- Settles O57: past the test of CPL each of them is the one write it names, MOV to CR0 after its test of PG and PE. -/
theorem systemRegisterMoves : Obligations.SystemRegisterMoves := fun s h =>
  ⟨run_next (halt_inside h), run_next (clearTs_inside h), fun r n => run_next (readControl_inside h r n),
    fun _ n hv => (run_next (writeControl_valid h hv)).trans (congrArg _ (State.count_of_cycles (s.setCr_cycles n _))),
    fun _ hg he => run_takes (writeControl_pagingUnprotected h hg he), fun r n => run_next (readDebug_inside h r n),
    fun r n => run_next (writeDebug_inside h n r)⟩

/-! ## Sleep (spec/60_exceptions.md R428) -/

theorem step_asleep {s : State} (hr : s.noReboot) (hd : s.shutdown = false) (hh : s.halted = true) :
    step s = sleepStep s.started :=
  (if_neg hr).trans ((if_neg (Bool.eq_false_iff.mp hd)).trans (if_pos hh))

theorem sleepStep_stays {s : State} (h : s.irqs.head?.join = none ∨ s.flags.ifl = false) : sleepStep s = .next s.popIrq := by
  refine if_neg ?_
  rw [Bool.and_eq_true, State.irqPending]
  rintro ⟨hp, hi⟩
  obtain hn | hf := h
  · simp [hn] at hp
  · simp [hf] at hi

theorem sleepStep_wakes {s : State} {v : Byte} (hv : s.irqs.head? = some (some v)) (hi : s.flags.ifl = true) :
    sleepStep s = boundary s.wake :=
  if_pos (by simp [State.irqPending, hv, hi])

/-- Settles O15: a step of a halted core is a sleep step, which wakes on an answer of the PIC with IF set and on nothing else. -/
theorem haltedCoreSleeps : Obligations.HaltedCoreSleeps := fun _ hr hd hh =>
  ⟨fun hi => (step_asleep hr hd hh).trans (sleepStep_stays (.inr hi)),
    fun hn => (step_asleep hr hd hh).trans (sleepStep_stays (.inl hn)),
    fun _ hv hi => (step_asleep hr hd hh).trans (sleepStep_wakes hv hi)⟩

/-! ## BOUND (spec/47_system.md R374) -/

theorem boundCheck_read {o : OSize} {r : Reg} {m : MemOp} {lo hi : Quad} {s s1 s2 : State}
    (h1 : memRead (memSeg m) (memOff s.regs m) o.bytes s = .ok lo s1)
    (h2 : memRead (memSeg m) (memOff s.regs m + o.bytes) o.bytes s1 = .ok hi s2) :
    boundCheck o r m s =
      raiseIf (signed o.size (s.regs.view o.size r) < signed o.size (lo.setWidth 32) ∨
        signed o.size (hi.setWidth 32) < signed o.size (s.regs.view o.size r)) Exc.br s2 := by
  rw [boundCheck, getS_bind, M.bind_ok h1, M.bind_ok h2]

end Sys2Proof.Machine

namespace Sys2Proof

open Machine

/-- Settles O60: after its two reads BOUND is one test. -/
theorem boundCheck : Obligations.BoundCheck := by
  intro o r m lo hi s s1 s2 h1 h2 i l h
  have hc : s2.cycles = s.cycles := ((quiet_memRead _ _ _).cycles h2).trans ((quiet_memRead _ _ _).cycles h1)
  refine ⟨fun hl hh => ?_, fun ho => run_takes ((boundCheck_read h1 h2).trans (raiseIf_true ho))⟩
  have hin : ¬(i < l ∨ h < i) := not_or.mpr ⟨not_lt.mpr hl, not_lt.mpr hh⟩
  exact (run_next ((boundCheck_read h1 h2).trans (raiseIf_false hin))).trans (congrArg _ (State.count_of_cycles hc))

end Sys2Proof

end

section

namespace Sys2Proof.Machine

/-! ## LGDT and LIDT (spec/47_system.md R361, R362) -/

theorem readTable_read {o : OSize} {m : MemOp} {lim b : Quad} {s s1 s2 : State} (hc : s.cpl = 0)
    (h1 : memRead (memSeg m) (memOff s.regs m) 2 s = .ok lim s1)
    (h2 : memRead (memSeg m) (memOff s.regs m + 2) 4 s1 = .ok b s2) :
    readTable o m s =
      .ok { base := if o = .o16 then b.setWidth 32 &&& 0x00FFFFFF else b.setWidth 32, limit := lim.setWidth 16 } s2 := by
  rw [readTable, cpl0_bind hc, getS_bind, M.bind_ok h1, M.bind_ok h2]
  cases o <;> rfl

theorem loadGdt_apply {o : OSize} {m : MemOp} {t : TableReg} {s s1 : State} (h : readTable o m s = .ok t s1) :
    loadGdt o m s = .ok () { s1 with gdtr := t } := M.bind_ok h

theorem loadIdt_apply {o : OSize} {m : MemOp} {t : TableReg} {s s1 : State} (h : readTable o m s = .ok t s1) :
    loadIdt o m s = .ok () { s1 with idtr := t } := M.bind_ok h

/-! ## LLDT and LTR (spec/47_system.md R363, R369) -/

/-- LLDT once its selector has been read (R363). -/
def selectLdt (sel : Half) : M Unit := do
  if selIndex sel = 0 then modS fun s => { s with ldtr := { selector := sel, base := 0, limit := 0, null := true } }
  else
    raiseIf (selTI sel = true) (Exc.gp (selCode sel))
    let d ← descRead sel vGP
    raiseIf (descS d = true ∨ descType d ≠ 2) (Exc.gp (selCode sel))
    raiseIf (descP d = false) (Exc.np (selCode sel))
    writeLdtr sel d

/-- LTR once its descriptor has passed its tests: the busy bit, then TR (R369). -/
def enterTask (sel : Half) (d : Quad) : M Unit := do
  let s ← getS
  sysWrite (s.gdtr.base + BitVec.ofNat 32 (selIndex sel * 8) + 5) 1 ((descAccess d ||| 2).setWidth 64)
  modS fun s =>
    { s with tr := { selector := sel, base := descBase d, limit := descLimit d, is32 := decide (descType d = 9) } }

/-- LTR once its selector has been read (R369). -/
def selectTask (sel : Half) : M Unit := do
  raiseIf (selIndex sel = 0) (Exc.gp 0)
  raiseIf (selTI sel = true) (Exc.gp (selCode sel))
  let d ← descRead sel vGP
  raiseIf (isAvailableTss d = false) (Exc.gp (selCode sel))
  raiseIf (descP d = false) (Exc.np (selCode sel))
  enterTask sel d

/-- The tests LLDT and LTR make of a descriptor that must be one of the system types listed. -/
def systemTests (types : List Nat) (sel : Half) (d : Quad) : List (Bool × Exc) :=
  [(descS d || decide (descType d ∉ types), Exc.gp (selCode sel)), (!descP d, Exc.np (selCode sel))]

theorem systemTests_pass {types : List Nat} {sel : Half} {d : Quad} (hs : descS d = false) (ht : descType d ∈ types)
    (hp : descP d = true) (s : State) : checked (systemTests types sel d) () s = .ok () s := by
  simp [systemTests, checked, hs, ht, hp]

section Operand

variable {l : Loc} {v : Word} {s s1 : State} (hp : s.pe = true) (hc : s.cpl = 0) (hr : readLoc .w l s = .ok v s1)

include hp hc hr

theorem loadLdt_selects : loadLdt l s = selectLdt (v.setWidth 16) s1 :=
  (M.bind_ok (requireProtected_protected hp)).trans ((cpl0_bind hc _).trans (M.bind_ok hr))

theorem loadTask_selects : loadTask l s = selectTask (v.setWidth 16) s1 :=
  (M.bind_ok (requireProtected_protected hp)).trans ((cpl0_bind hc _).trans (M.bind_ok hr))

end Operand

section Selector

variable {sel : Half} {s : State}

theorem selectLdt_null (h : selIndex sel = 0) :
    selectLdt sel s = .ok () { s with ldtr := { selector := sel, base := 0, limit := 0, null := true } } := by
  rw [selectLdt, if_pos h, modS_apply]

theorem selectTask_null (h : selIndex sel = 0) : selectTask sel s = .error (.exc (Exc.gp 0)) s := by
  rw [selectTask, raiseIf_bind, if_pos h]

variable (hi : selIndex sel ≠ 0)

include hi

theorem selectLdt_local (ht : selTI sel = true) : selectLdt sel s = .error (.exc (Exc.gp (selCode sel))) s := by
  rw [selectLdt, if_neg hi, raiseIf_bind, if_pos ht]

theorem selectTask_local (ht : selTI sel = true) : selectTask sel s = .error (.exc (Exc.gp (selCode sel))) s := by
  rw [selectTask, raiseIf_bind, if_neg hi, raiseIf_bind, if_pos ht]

variable (ht : selTI sel = false)

include ht

theorem selectLdt_descRaises {x : Abort} {s1 : State} (hd : descRead sel 13 s = .error x s1) :
    selectLdt sel s = .error x s1 := by
  rw [selectLdt, if_neg hi, raiseIf_bind, if_neg (by simp [ht]), show vGP = 13 from rfl, M.bind_error hd]

theorem selectTask_descRaises {x : Abort} {s1 : State} (hd : descRead sel 13 s = .error x s1) :
    selectTask sel s = .error x s1 := by
  rw [selectTask, raiseIf_bind, if_neg hi, raiseIf_bind, if_neg (by simp [ht]), show vGP = 13 from rfl, M.bind_error hd]

theorem selectLdt_tests {d : Quad} {s1 : State} (hd : descRead sel 13 s = .ok d s1) :
    selectLdt sel s = (runTests (systemTests [2] sel d) >>= fun _ => writeLdtr sel d) s1 := by
  rw [selectLdt, if_neg hi, raiseIf_bind, if_neg (by simp [ht]), show vGP = 13 from rfl, M.bind_ok hd]
  exact raiseIf_tests (by simp) fun _ => raiseIf_tests (by simp) fun _ => rfl

theorem selectTask_tests {d : Quad} {s1 : State} (hd : descRead sel 13 s = .ok d s1) :
    selectTask sel s = (runTests (systemTests [1, 9] sel d) >>= fun _ => enterTask sel d) s1 := by
  rw [selectTask, raiseIf_bind, if_neg hi, raiseIf_bind, if_neg (by simp [ht]), show vGP = 13 from rfl, M.bind_ok hd]
  exact raiseIf_tests (by simp [isAvailableTss]) fun _ => raiseIf_tests (by simp) fun _ => rfl

end Selector

theorem enterTask_marked {sel : Half} {d : Quad} {s t : State}
    (h : sysWrite (s.gdtr.base + BitVec.ofNat 32 (selIndex sel * 8) + 5) 1 ((descAccess d ||| 2).setWidth 64) s = .ok () t) :
    enterTask sel d s =
      .ok ()
        { t with
          tr := { selector := sel, base := descBase d, limit := descLimit d, is32 := decide (descType d = 9) } } := by
  rw [enterTask, getS_bind, M.bind_ok h, modS_apply]

theorem enterTask_markRaises {sel : Half} {d : Quad} {x : Abort} {s t : State}
    (h : sysWrite (s.gdtr.base + BitVec.ofNat 32 (selIndex sel * 8) + 5) 1 ((descAccess d ||| 2).setWidth 64) s =
      .error x t) :
    enterTask sel d s = .error x t := by
  rw [enterTask, getS_bind, M.bind_error h]

/-- Settles O58: each load is its reads, then its tests in order, then the one write; nothing before that write changes GDTR,
which the busy bit is found through, or the count of instructions. -/
theorem tableRegisterLoads : Obligations.TableRegisterLoads := by
  refine ⟨fun o m lim b s s1 s2 hc h1 h2 => ?_, fun m v s s1 hp hc hr => ?_⟩
  · have ht := readTable_read (o := o) hc h1 h2
    have hcy : s2.cycles = s.cycles := ((quiet_memRead _ _ _).cycles h2).trans ((quiet_memRead _ _ _).cycles h1)
    rw [← hcy]
    cases o <;> exact ⟨run_next (loadGdt_apply ht), run_next (loadIdt_apply ht)⟩
  · have hl := loadLdt_selects hp hc hr
    have hk := loadTask_selects hp hc hr
    have hcy : s1.cycles = s.cycles := (quiet_readLoc _ _).cycles hr
    have hg : s1.gdtr = s.gdtr := by rw [quiet_readLoc _ _ _ _ _ hr]
    refine ⟨fun hi => ⟨?_, run_takes (hk.trans (selectTask_null hi))⟩,
      fun hi ht => ⟨run_takes (hl.trans (selectLdt_local hi ht)), run_takes (hk.trans (selectTask_local hi ht))⟩,
      fun e s2 hi ht hd =>
        ⟨run_takes (hl.trans (selectLdt_descRaises hi ht hd)), run_takes (hk.trans (selectTask_descRaises hi ht hd))⟩,
      fun d s2 hi ht hd => ?_⟩
    · rw [← hcy]
      exact run_next (hl.trans (selectLdt_null hi))
    · have hcy2 : s2.cycles = s.cycles := ((quiet_descRead _ _).cycles hd).trans hcy
      have hg2 : s2.gdtr = s.gdtr := by rw [quiet_descRead _ _ _ _ _ hd]; exact hg
      have hl2 := hl.trans (selectLdt_tests hi ht hd)
      have hk2 := hk.trans (selectTask_tests hi ht hd)
      rw [← hg2]
      refine ⟨fun e h => run_takes (hl2.trans (M.bind_error h)), fun e h => run_takes (hk2.trans (M.bind_error h)),
        fun e s3 h hw => run_takes (hk2.trans ((M.bind_ok h).trans (enterTask_markRaises hw))), fun hs hy hpr => ?_,
        fun s3 hs hy hpr hw => ?_⟩
      · rw [← hcy2]
        exact run_next (hl2.trans (M.bind_ok (systemTests_pass hs (by simp [hy]) hpr s2)))
      · rw [← hcy2, ← (quiet_linWrite _ _ _ _).cycles hw]
        exact run_next (hk2.trans ((M.bind_ok (systemTests_pass hs (by simpa using hy) hpr s2)).trans (enterTask_marked hw)))

end Sys2Proof.Machine

end

section

namespace Sys2Proof.Machine

/-! ## What code outside CPL 0 leaves of the system registers (spec/60_exceptions.md R450) -/

/-- The registers no code outside CPL 0 changes, CR0 apart: GDTR, IDTR, CR4, the debug registers, the A20 mask and the
parameters. -/
def State.system (s : State) : TableReg × TableReg × Word × DebugRegs × Bool × Params :=
  (s.gdtr, s.idtr, s.cr4, s.dr, s.a20, s.params)

/-- The system registers are the same, and CR0 but for TS, which a task switch sets (R440). -/
structure SystemKept (s t : State) : Prop where
  system : t.system = s.system
  cr0 : t.cr0 = s.cr0 ∨ t.cr0 = s.cr0 ||| 8

theorem SystemKept.of_eq {s t : State} (h : t.system = s.system) (hc : t.cr0 = s.cr0) : SystemKept s t := ⟨h, .inl hc⟩

theorem SystemKept.refl (s : State) : SystemKept s s := .of_eq rfl rfl

theorem SystemKept.trans {s t u : State} (h : SystemKept s t) (k : SystemKept t u) : SystemKept s u := by
  refine ⟨k.system.trans h.system, ?_⟩
  have hts : s.cr0 ||| 8 ||| 8 = s.cr0 ||| 8 := by rw [BitVec.or_assoc, BitVec.or_self]
  obtain hk | hk := k.cr0 <;> obtain hh | hh := h.cr0 <;> simp only [hk, hh, hts, true_or, or_true]

theorem SystemKept.chain : Chain SystemKept := ⟨.refl, fun _ _ _ => .trans⟩

theorem MemStep.systemKept {s t : State} (h : MemStep s t) : SystemKept s t := by
  rw [h.same]
  exact .of_eq rfl rfl

theorem SystemKept.setSeg (s : State) (g : SReg) (v : SegReg) : SystemKept s (s.setSeg g v) :=
  .of_eq (by cases g <;> rfl) (s.setSeg_cr0 g v)

/-- An operation that keeps the system registers, also where it aborts. -/
def Tame {α : Type} (m : M α) : Prop := Keeps SystemKept m

section Rules

variable {α β : Type} {m n : M α} {f : α → M β}

theorem Tame.bind (hm : Tame m) (hf : ∀ a, Tame (f a)) : Tame (m >>= f) := Keeps.bind SystemKept.chain hm hf

theorem Tame.pure (a : α) : Tame (pure a : M α) := Keeps.pure SystemKept.chain a

theorem Tame.get {f : State → M β} (hf : ∀ s, Tame (f s)) : Tame (getS >>= f) := fun s => hf s s

theorem Tame.raise (e : Exc) : Tame (raise e : M α) := Keeps.raise SystemKept.chain e

theorem Tame.refuse (r : Refusal) : Tame (refuse r : M α) := Keeps.refuse SystemKept.chain r

theorem Tame.ite {c : Prop} [Decidable c] (hm : Tame m) (hn : Tame n) : Tame (if c then m else n) := Keeps.ite hm hn

theorem Tame.raiseIf {c : Prop} [Decidable c] {e : Exc} : Tame (raiseIf c e) := Keeps.raiseIf SystemKept.chain c e

/-- A test, then the rest. -/
theorem Tame.check {c : Prop} [Decidable c] {e : Exc} {f : Unit → M β} (hf : Tame (f ())) : Tame (Machine.raiseIf c e >>= f) :=
  .bind .raiseIf fun _ => hf

theorem Tame.whenM {c : Prop} [Decidable c] {m : M Unit} (hm : Tame m) : Tame (whenM c m) :=
  Keeps.whenM SystemKept.chain c hm

/-- A change of parts that are no system register. -/
theorem Tame.same {g : State → State} (h : ∀ s, (g s).system = s.system ∧ (g s).cr0 = s.cr0) : Tame (modS g) :=
  Keeps.modS fun s => .of_eq (h s).1 (h s).2

theorem Tame.flags {g : Flags → Flags} : Tame (modFlags g) := .same fun _ => ⟨rfl, rfl⟩

theorem Tame.mem (h : Keeps MemStep m) : Tame m := h.mono fun _ _ => MemStep.systemKept

end Rules

/-! ### Registers, flags, free values and operands -/

theorem tame_readReg (sz : Size) (r : Reg) : Tame (readReg sz r) := SystemKept.refl

theorem tame_readReg8 (r : Reg8) : Tame (readReg8 r) := SystemKept.refl

theorem tame_writeReg (sz : Size) (r : Reg) (v : Word) : Tame (writeReg sz r v) := .same fun _ => ⟨rfl, rfl⟩

theorem tame_writeReg8 (r : Reg8) (v : Word) : Tame (writeReg8 r v) := .same fun _ => ⟨rfl, rfl⟩

theorem tame_writeEip (v : Word) : Tame (writeEip v) := .same fun _ => ⟨rfl, rfl⟩

theorem tame_drawWord : Tame drawWord := fun _ => .of_eq rfl rfl

theorem tame_drawBit : Tame drawBit := .bind tame_drawWord fun _ => .pure _

theorem tame_drawSZAP : Tame drawSZAP :=
  .bind tame_drawBit fun _ => .bind tame_drawBit fun _ => .bind tame_drawBit fun _ => .bind tame_drawBit fun _ => .flags

theorem tame_drawOSZP : Tame drawOSZP :=
  .bind tame_drawBit fun _ => .bind tame_drawBit fun _ => .bind tame_drawBit fun _ => .bind tame_drawBit fun _ => .flags

theorem tame_drawStatus : Tame drawStatus :=
  .bind tame_drawBit fun _ => .bind tame_drawBit fun _ => .bind .flags fun _ => tame_drawSZAP

theorem tame_drawOF : Tame drawOF := .bind tame_drawBit fun _ => .flags

theorem tame_drawOAC : Tame drawOAC :=
  .bind tame_drawBit fun _ => .bind tame_drawBit fun _ => .bind tame_drawBit fun _ => .flags

theorem tame_binValue (op : BinOp) (sz : Size) (a b : Word) : Tame (binValue op sz a b) := by
  intro s
  obtain ⟨af, n, h⟩ := binValue_apply op sz a b s
  rw [h]
  exact .of_eq rfl rfl

theorem tame_unValue (op : UnOp) (sz : Size) (a : Word) : Tame (unValue op sz a) := by
  intro s
  rw [unValue_apply]
  exact .of_eq rfl rfl

theorem tame_shiftOp (op : ShiftOp) (sz : Size) (a c : Word) : Tame (shiftOp op sz a c) :=
  .get fun _ => .ite (.pure a) <| .bind tame_drawBit fun _ => .bind tame_drawBit fun _ => .bind .flags fun _ => .pure _

theorem tame_sysRead (l : Word) (n : Nat) : Tame (sysRead l n) := .mem (keeps_sysRead l n)

theorem tame_sysWrite (l : Word) (n : Nat) (v : Quad) : Tame (sysWrite l n v) := .mem (keeps_sysWrite l n v)

theorem tame_memRead (g : SReg) (off n : Nat) : Tame (memRead g off n) := .mem (keeps_memRead g off n)

theorem tame_memWrite (g : SReg) (off n : Nat) (v : Quad) : Tame (memWrite g off n v) := .mem (keeps_memWrite g off n v)

theorem tame_descRead (sel : Half) (e : Byte) : Tame (descRead sel e) := .mem (keeps_descRead sel e)

theorem tame_peek (o : OSize) (k : Nat) : Tame (peek o k) := .mem (keeps_peek o k)

theorem tame_stage (o : OSize) (k : Nat) (vs : List Word) : Tame (stage o k vs) := .mem (keeps_stage o k vs)

theorem tame_stageVia (e : Exc) (c : SegCache) (cpl : BitVec 2) (nesp : Word) (o : OSize) (k : Nat) (vs : List Word) :
    Tame (stageVia e c cpl nesp o k vs) := .mem (keeps_stageVia e c cpl nesp o k vs)

theorem tame_readLoc (sz : Size) (l : Loc) : Tame (readLoc sz l) := by
  cases l with
  | reg8 r => exact tame_readReg8 r
  | reg r => exact tame_readReg sz r
  | mem g off => exact .bind (tame_memRead _ _ _) fun _ => .pure _

theorem tame_writeLoc (sz : Size) (v : Word) (l : Loc) : Tame (writeLoc sz v l) := by
  cases l with
  | reg8 r => exact tame_writeReg8 r v
  | reg r => exact tame_writeReg sz r v
  | mem g off => exact tame_memWrite _ _ _ _

theorem tame_readSrc (sz : Size) (x : Source) : Tame (readSrc sz x) := by
  cases x with
  | loc l => exact tame_readLoc sz l
  | imm v => exact .pure v

theorem tame_openLoc (sz : Size) (l : Loc) : Tame (openLoc sz l) := by
  cases l with
  | reg8 r | reg r => exact .pure _
  | mem g off => exact .bind (.mem (keeps_memOpen _ _ _)) fun _ => .pure _

theorem tame_readOpened (sz : Size) (o : Opened) : Tame (readOpened sz o) := by
  intro s
  cases o with
  | reg8 r | reg r => exact .refl s
  | mem p => exact (memStep_readPlace s p sz.bytes).systemKept

theorem tame_writeOpened (sz : Size) (v : Word) (o : Opened) : Tame (writeOpened sz v o) := by
  intro s
  cases o with
  | reg8 r | reg r => exact .of_eq rfl rfl
  | mem p => exact (memStep_writePlace s p sz.bytes _).systemKept

theorem tame_modifyLoc (sz : Size) (l : Loc) {f : Word → M Word} (hf : ∀ a, Tame (f a)) : Tame (modifyLoc sz l f) :=
  .bind (tame_openLoc sz l) fun _ => .bind (tame_readOpened sz _) fun _ => .bind (hf _) fun _ => tame_writeOpened sz _ _

/-! ### Arithmetic, logic, shifts and moves -/

theorem tame_binary (op : BinOp) (sz : Size) (dst : Loc) (src : Source) : Tame (binary op sz dst src) :=
  .ite
    (.bind (tame_openLoc _ _) fun _ => .bind (tame_readSrc _ _) fun _ => .bind (tame_readOpened _ _) fun _ =>
      .bind (tame_binValue _ _ _ _) fun _ => tame_writeOpened _ _ _)
    (.bind (tame_readLoc _ _) fun _ => .bind (tame_readSrc _ _) fun _ => .bind (tame_binValue _ _ _ _) fun _ => .pure ())

theorem tame_unary (op : UnOp) (sz : Size) (dst : Loc) : Tame (unary op sz dst) := tame_modifyLoc sz dst (tame_unValue op sz)

theorem tame_shiftLoc (op : ShiftOp) (sz : Size) (dst : Loc) (count : Source) : Tame (shiftLoc op sz dst count) :=
  .bind (tame_readSrc _ _) fun _ => tame_modifyLoc sz dst fun _ => tame_shiftOp op sz _ _

theorem tame_decimalAdd : Tame decimalAdd :=
  .get fun _ => .bind (tame_writeReg8 _ _) fun _ => .bind .flags fun _ => tame_drawOF

theorem tame_decimalSub : Tame decimalSub :=
  .get fun _ => .bind (tame_writeReg8 _ _) fun _ => .bind .flags fun _ => tame_drawOF

theorem tame_asciiAdjust (edge : Word → Bool) (step carry : Word) : Tame (asciiAdjust edge step carry) :=
  .get fun _ => .bind tame_drawBit fun _ => .bind (.whenM (tame_writeReg8 _ _)) fun _ => .bind (tame_writeReg8 _ _) fun _ =>
    .bind .flags fun _ => tame_drawOSZP

theorem tame_asciiMul (i : Byte) : Tame (asciiMul i) :=
  .check <| .bind (tame_readReg8 _) fun _ => .bind (tame_writeReg8 _ _) fun _ => .bind (tame_writeReg8 _ _) fun _ =>
    .bind .flags fun _ => tame_drawOAC

theorem tame_asciiDiv (i : Byte) : Tame (asciiDiv i) :=
  .get fun _ => .bind (tame_writeReg8 _ _) fun _ => .bind (tame_writeReg8 _ _) fun _ => .bind .flags fun _ => tame_drawOAC

theorem tame_writePair (sz : Size) (low high : Word) : Tame (writePair sz low high) := by
  cases sz with
  | b => exact tame_writeReg _ _ _
  | w | d => exact .bind (tame_writeReg _ _ _) fun _ => tame_writeReg _ _ _

theorem tame_mulFlags (b : Bool) : Tame (mulFlags b) := .bind .flags fun _ => tame_drawSZAP

theorem tame_mulUnsigned (sz : Size) (src : Loc) : Tame (mulUnsigned sz src) :=
  .bind (tame_readLoc _ _) fun _ => .bind (tame_readReg _ _) fun _ => .bind (tame_writePair _ _ _) fun _ => tame_mulFlags _

theorem tame_mulSigned (sz : Size) (src : Loc) : Tame (mulSigned sz src) :=
  .bind (tame_readLoc _ _) fun _ => .bind (tame_readReg _ _) fun _ => .bind (tame_writePair _ _ _) fun _ => tame_mulFlags _

theorem tame_mulInto (sz : Size) (dst : Reg) (x y : Source) : Tame (mulInto sz dst x y) :=
  .bind (tame_readSrc _ _) fun _ => .bind (tame_readSrc _ _) fun _ => .bind (tame_writeReg _ _ _) fun _ => tame_mulFlags _

theorem tame_writeQuotient (sz : Size) (q m : Word) : Tame (writeQuotient sz q m) := by
  cases sz with
  | b => exact .bind (tame_writeReg8 _ _) fun _ => tame_writeReg8 _ _
  | w | d => exact .bind (tame_writeReg _ _ _) fun _ => tame_writeReg _ _ _

theorem tame_divUnsigned (sz : Size) (src : Loc) : Tame (divUnsigned sz src) :=
  .bind (tame_readLoc _ _) fun _ => .get fun _ => .check <| .check <| .bind (tame_writeQuotient _ _ _) fun _ => tame_drawStatus

theorem tame_divSigned (sz : Size) (src : Loc) : Tame (divSigned sz src) :=
  .bind (tame_readLoc _ _) fun _ => .get fun _ => .check <| .check <| .bind (tame_writeQuotient _ _ _) fun _ => tame_drawStatus

theorem tame_widenAcc (o : OSize) : Tame (widenAcc o) := .get fun _ => by cases o <;> exact tame_writeReg _ _ _

theorem tame_extendAcc (o : OSize) : Tame (extendAcc o) := .bind (tame_readReg _ _) fun _ => tame_writeReg _ _ _

theorem tame_move (sz : Size) (dst : Loc) (src : Source) : Tame (move sz dst src) :=
  .bind (tame_readSrc _ _) fun _ => tame_writeLoc _ _ _

theorem tame_selectorAt (o : OSize) (sel : Half) : Tame (selectorAt o sel) := by
  cases o with
  | o16 => exact .pure _
  | o32 => exact .bind tame_drawWord fun _ => .pure _

theorem tame_storeSelector (o : OSize) (dst : Loc) (g : SReg) : Tame (storeSelector o dst g) := by
  refine .get fun s => ?_
  cases dst with
  | mem g' off => exact tame_writeLoc _ _ _
  | reg8 r | reg r => exact .bind (tame_selectorAt _ _) fun _ => tame_writeLoc _ _ _

theorem tame_loadAddress (o : OSize) (r : Reg) (m : MemOp) : Tame (loadAddress o r m) := .get fun _ => tame_writeReg _ _ _

/-! ### The stack, EFLAGS and the segment registers -/

theorem tame_moveSp (k : Word) : Tame (moveSp k) := .same fun _ => ⟨rfl, rfl⟩

theorem tame_push (o : OSize) (v : Word) : Tame (push o v) := .get fun _ => .bind (tame_memWrite _ _ _ _) fun _ => tame_moveSp _

theorem tame_pop (o : OSize) : Tame (pop o) := .bind (tame_peek _ _) fun _ => .bind (tame_moveSp _) fun _ => .pure _

theorem tame_pushReg (o : OSize) (r : Reg) : Tame (pushReg o r) := .bind (tame_readReg _ _) fun _ => tame_push _ _

theorem tame_popReg (o : OSize) (r : Reg) : Tame (popReg o r) := .bind (tame_pop _) fun _ => tame_writeReg _ _ _

theorem tame_pushSeg (o : OSize) (g : SReg) : Tame (pushSeg o g) :=
  .get fun _ => .bind (tame_selectorAt _ _) fun _ => tame_push _ _

theorem tame_pushAll (o : OSize) : Tame (pushAll o) := .get fun _ => .bind (tame_stage _ _ _) fun _ => tame_moveSp _

theorem tame_popAll (o : OSize) : Tame (popAll o) :=
  .bind (tame_peek _ _) fun _ => .bind (tame_peek _ _) fun _ => .bind (tame_peek _ _) fun _ => .bind (tame_peek _ _) fun _ =>
  .bind (tame_peek _ _) fun _ => .bind (tame_peek _ _) fun _ => .bind (tame_peek _ _) fun _ => .bind (tame_peek _ _) fun _ =>
  .bind (tame_writeReg _ _ _) fun _ => .bind (tame_writeReg _ _ _) fun _ => .bind (tame_writeReg _ _ _) fun _ =>
  .bind (tame_writeReg _ _ _) fun _ => .bind (tame_writeReg _ _ _) fun _ => .bind (tame_writeReg _ _ _) fun _ =>
  .bind (tame_writeReg _ _ _) fun _ => tame_moveSp _

theorem tame_pushFlags (o : OSize) : Tame (pushFlags o) := .get fun _ => tame_push _ _

theorem tame_writeFlags (v m : Word) : Tame (writeFlags v m) := .flags

theorem tame_popFlags (o : OSize) : Tame (popFlags o) := .get fun _ => .bind (tame_pop _) fun _ => tame_writeFlags _ _

theorem tame_loadAh : Tame loadAh := .get fun _ => tame_writeReg8 _ _

theorem tame_storeAh : Tame storeAh := .bind (tame_readReg8 _) fun _ => tame_writeFlags _ _

theorem tame_requireIopl : Tame requireIopl := .get fun _ => .raiseIf

theorem tame_clearIf : Tame clearIf := .bind tame_requireIopl fun _ => .flags

theorem tame_setIf : Tame setIf := .bind tame_requireIopl fun _ => .bind .flags fun _ => .same fun _ => ⟨rfl, rfl⟩

theorem tame_writeSeg (g : SReg) (v : SegReg) : Tame (writeSeg g v) := Keeps.modS fun s => .setSeg s g v

theorem Tame.keepSegOnRaise {m : M Unit} (g : SReg) (h : Tame m) : Tame (keepSegOnRaise g m) := by
  intro s
  unfold Machine.keepSegOnRaise
  cases e : m s with
  | ok u t => exact h.ok e
  | error x t => exact (h.error e).trans (.setSeg t g _)

theorem tame_markAccessed (sel : Half) (d : Quad) : Tame (markAccessed sel d) := .mem (keeps_markAccessed sel d)

theorem tame_snapshot (g : SReg) (sel : Half) (d : Quad) : Tame (snapshot g sel d) :=
  .keepSegOnRaise g (.bind (tame_writeSeg _ _) fun _ => tame_markAccessed _ _)

theorem tame_enterCs (sel : Half) (rpl : BitVec 2) (d : Quad) (off : Word) : Tame (enterCs sel rpl d off) :=
  .bind (tame_snapshot _ _ _) fun _ => tame_writeEip _

theorem tame_loadReal (g : SReg) (sel : Half) : Tame (loadReal g sel) := tame_writeSeg _ _

theorem tame_loadData (e : Byte) (g : SReg) (sel : Half) : Tame (loadData e g sel) :=
  .ite (tame_writeSeg _ _) <| .bind (tame_descRead _ _) fun _ => .get fun _ => .check <| .check <| tame_snapshot _ _ _

theorem tame_loadStack (sel : Half) : Tame (loadStack sel) :=
  .check <| .bind (tame_descRead _ _) fun _ => .get fun _ => .check <| .check <| tame_snapshot _ _ _

theorem tame_loadSeg (g : SReg) (sel : Half) : Tame (loadSeg g sel) := by
  refine .get fun s => .ite ?_ (tame_loadReal _ _)
  cases g with
  | ss => exact tame_loadStack sel
  | es | cs | ds | fs | gs => exact tame_loadData _ _ _

theorem tame_shadowSs (g : SReg) : Tame (shadowSs g) := .whenM (.same fun _ => ⟨rfl, rfl⟩)

theorem tame_loadSelector (g : SReg) (src : Loc) : Tame (loadSelector g src) :=
  .bind (tame_readLoc _ _) fun _ => .bind (tame_loadSeg _ _) fun _ => tame_shadowSs g

theorem tame_popSeg (o : OSize) (g : SReg) : Tame (popSeg o g) :=
  .get fun _ => .bind (tame_peek _ _) fun _ => .bind (tame_loadSeg _ _) fun _ => .bind (.same fun _ => ⟨rfl, rfl⟩) fun _ =>
    tame_shadowSs g

/-! ### Near transfers, ports and BOUND -/

theorem tame_checkTarget (o : OSize) (t : Word) : Tame (checkTarget o t) := .get fun _ => .check (.pure _)

theorem tame_setEip (o : OSize) (t : Word) : Tame (setEip o t) := .bind (tame_checkTarget _ _) fun _ => tame_writeEip _

theorem tame_jumpRel (o : OSize) (rel : Word) : Tame (jumpRel o rel) := .get fun _ => tame_setEip _ _

theorem tame_jumpIf (cc : BitVec 4) (o : OSize) (rel : Word) : Tame (jumpIf cc o rel) :=
  .get fun _ => .whenM (tame_jumpRel _ _)

theorem tame_jumpTo (o : OSize) (l : Loc) : Tame (jumpTo o l) := .bind (tame_readLoc _ _) fun _ => tame_setEip _ _

theorem tame_callNear (o : OSize) (t : Word) : Tame (callNear o t) :=
  .get fun _ => .bind (tame_checkTarget _ _) fun _ => .bind (tame_push _ _) fun _ => tame_writeEip _

theorem tame_callRel (o : OSize) (rel : Word) : Tame (callRel o rel) := .get fun _ => tame_callNear _ _

theorem tame_callTo (o : OSize) (l : Loc) : Tame (callTo o l) := .bind (tame_readLoc _ _) fun _ => tame_callNear _ _

theorem tame_retNear (o : OSize) (extra : Half) : Tame (retNear o extra) :=
  .bind (tame_peek _ _) fun _ => .bind (tame_checkTarget _ _) fun _ => .bind (tame_moveSp _) fun _ => tame_writeEip _

theorem tame_checkPorts (bitmap : Word) (q n : Nat) : Tame (checkPorts bitmap q n) := by
  induction n generalizing q with
  | zero => exact .pure ()
  | succ n ih => exact .get fun _ => .check <| .bind (tame_sysRead _ _) fun _ => .check (ih _)

theorem tame_checkPort (port : Half) (n : Nat) : Tame (checkPort port n) :=
  .get fun _ => .ite (.check <| .bind (tame_sysRead _ _) fun _ => tame_checkPorts _ _ _) (.pure ())

theorem State.logPort_system (s : State) (port : Half) (e : DevEvent) :
    (s.logPort port e).system = s.system ∧ (s.logPort port e).cr0 = s.cr0 := by
  unfold State.logPort
  split <;> exact ⟨rfl, rfl⟩

theorem tame_ioRead (sz : Size) (port : Half) : Tame (ioRead sz port) :=
  .bind (tame_checkPort _ _) fun _ => .get fun _ => .bind (.same fun s => s.logPort_system _ _) fun _ => .pure _

theorem tame_ioWrite (sz : Size) (port : Half) (v : Word) : Tame (ioWrite sz port v) :=
  .bind (tame_checkPort _ _) fun _ => .same fun s => s.logPort_system _ _

theorem tame_portIn (sz : Size) (port : Half) : Tame (portIn sz port) := .bind (tame_ioRead _ _) fun _ => tame_writeReg _ _ _

theorem tame_portOut (sz : Size) (port : Half) : Tame (portOut sz port) := .bind (tame_readReg _ _) fun _ => tame_ioWrite _ _ _

theorem tame_boundCheck (o : OSize) (r : Reg) (m : MemOp) : Tame (boundCheck o r m) :=
  .get fun _ => .bind (tame_memRead _ _ _) fun _ => .bind (tame_memRead _ _ _) fun _ => .raiseIf

/-! ### The task switch (spec/60_exceptions.md R440 to R443) -/

theorem tame_checkNewTss (sel : Half) (kind : TaskKind) : Tame (checkNewTss sel kind) :=
  .check <| .bind (tame_descRead _ _) fun _ => .check <| .check <| .check <| .check <| .pure _

theorem tame_readFields (base : Word) (fs : List (Nat × Nat)) : Tame (readFields base fs) := by
  induction fs with
  | nil => exact .pure []
  | cons f fs ih => exact .bind (tame_sysRead _ _) fun _ => .bind ih fun _ => .pure _

theorem tame_writeFields (base : Word) (fs : List (Nat × Nat × Word)) : Tame (writeFields base fs) := by
  induction fs with
  | nil => exact .pure ()
  | cons f fs ih => exact .bind (tame_sysWrite _ _ _) fun _ => ih

theorem tame_moveBusy (sel : Half) (d : Quad) (kind : TaskKind) : Tame (moveBusy sel d kind) :=
  .get fun _ => .bind (tame_sysRead _ _) fun _ => .bind (tame_sysWrite _ _ _) fun _ => .bind (tame_sysWrite _ _ _) fun _ =>
    .whenM (tame_sysWrite _ _ _)

theorem tame_taskLdtr (sel : Half) : Tame (taskLdtr sel) :=
  .ite (.pure ()) <| .check <| .bind (tame_descRead _ _) fun _ => .check <| .check <| .same fun _ => ⟨rfl, rfl⟩

theorem tame_taskCs (sel : Half) : Tame (taskCs sel) :=
  .check <| .bind (tame_descRead _ _) fun _ => .check <| .check <| .check <| .check <| tame_snapshot _ _ _

theorem tame_taskSs (sel : Half) : Tame (taskSs sel) :=
  .check <| .bind (tame_descRead _ _) fun _ => .get fun _ => .check <| .check <| tame_snapshot _ _ _

theorem tame_loadTaskSegments (t : TssImage) : Tame (loadTaskSegments t) :=
  .bind (tame_taskLdtr _) fun _ => .bind (tame_taskCs _) fun _ => .bind (tame_taskSs _) fun _ =>
    .bind (tame_loadData _ _ _) fun _ => .bind (tame_loadData _ _ _) fun _ => .bind (tame_loadData _ _ _) fun _ =>
      tame_loadData _ _ _

theorem Tame.inNewTask {m : M Unit} (h : Tame m) : Tame (inNewTask m) := by
  intro s
  unfold Machine.inNewTask
  cases e : m s with
  | ok u t => exact h.ok e
  | error x t => exact h.error e

/-- The commit of a task switch is the one place that sets TS (R440 step 5). -/
theorem SystemKept.commitTask (s : State) (sel : Half) (d : Quad) (kind : TaskKind) (t : TssImage) :
    SystemKept s (s.commitTask sel d kind t) := ⟨rfl, .inr rfl⟩

theorem tame_taskSwitch (sel : Half) (kind : TaskKind) (ret : Word) : Tame (taskSwitch sel kind ret) :=
  .bind (tame_checkNewTss _ _) fun _ => .bind (tame_readFields _ _) fun _ => .ite (.refuse _) <| .get fun _ =>
    .bind (tame_writeFields _ _) fun _ => .bind (tame_moveBusy _ _ _) fun _ =>
      .bind (Keeps.modS fun s => .commitTask s _ _ _ _) fun _ => (tame_loadTaskSegments _).inNewTask

/-! ### Far transfers and returns -/

theorem tame_checkDirectCs (sel : Half) (off : Word) : Tame (checkDirectCs sel off) :=
  .check <| .bind (tame_descRead _ _) fun _ => .get fun _ => .check <| .check <| .check <| .check <| .check <| .pure _

theorem tame_checkReturnCs (sel : Half) (off : Word) : Tame (checkReturnCs sel off) :=
  .check <| .bind (tame_descRead _ _) fun _ => .get fun _ => .check <| .check <| .check <| .check <| .check <| .check <| .pure _

theorem tame_innerStack (n : BitVec 2) : Tame (innerStack n) :=
  .get fun _ => .check <| .bind (tame_sysRead _ _) fun _ => .bind (tame_sysRead _ _) fun _ => .check <|
    .bind (tame_descRead _ _) fun _ => .check <| .check <| .pure _

theorem tame_enterStack (nss : Half) (ds : Quad) (esp : Word) : Tame (enterStack nss ds esp) :=
  .bind (tame_snapshot _ _ _) fun _ => tame_writeReg _ _ _

theorem tame_pushFarReturn (o : OSize) : Tame (pushFarReturn o) :=
  .get fun _ => .bind (tame_selectorAt _ _) fun _ => .bind (tame_stage _ _ _) fun _ => tame_moveSp _

theorem tame_innerCall (g : Quad) (tsel : Half) (d : Quad) : Tame (innerCall g tsel d) :=
  .ite (.refuse _) <| .bind (tame_innerStack _) fun _ => .get fun _ => .bind (tame_selectorAt _ _) fun _ =>
    .bind (tame_selectorAt _ _) fun _ => .bind (tame_stageVia _ _ _ _ _ _ _) fun _ => .bind (tame_enterStack _ _ _) fun _ =>
      tame_enterCs _ _ _ _

theorem tame_gateTransfer (kind : TaskKind) (gsel : Half) (g : Quad) : Tame (gateTransfer kind gsel g) :=
  .get fun _ => .check <| .check <| .check <| .bind (tame_descRead _ _) fun _ => .check <| .check <| .check <| .check <|
    .ite (tame_innerCall _ _ _) <| .bind (.whenM (tame_pushFarReturn _)) fun _ => tame_enterCs _ _ _ _

theorem tame_taskTransfer (kind : TaskKind) (sel : Half) (d : Quad) : Tame (taskTransfer kind sel d) :=
  .get fun _ => .check <| .check <| tame_taskSwitch _ _ _

theorem tame_codeTransfer (kind : TaskKind) (o : OSize) (sel : Half) (off : Word) : Tame (codeTransfer kind o sel off) :=
  .bind (tame_checkDirectCs _ _) fun _ => .bind (.whenM (tame_pushFarReturn _)) fun _ => .get fun _ => tame_enterCs _ _ _ _

theorem tame_farTransfer (kind : TaskKind) (o : OSize) (sel : Half) (off : Word) : Tame (farTransfer kind o sel off) :=
  .get fun _ => .ite
    (.check <| .bind (.whenM (tame_pushFarReturn _)) fun _ => .bind (tame_loadReal _ _) fun _ => tame_writeEip _) <|
    .check <| .bind (tame_descRead _ _) fun _ => .ite (tame_codeTransfer _ _ _ _) <| .ite (tame_gateTransfer _ _ _) <|
      .ite (tame_taskTransfer _ _ _) (.raise _)

theorem SystemKept.zeroStale (s : State) (g : SReg) : SystemKept s (s.zeroStale g) := by
  rw [State.zeroStale_eq]
  exact .setSeg s g _

theorem tame_zeroStaleSegments : Tame zeroStaleSegments :=
  Keeps.modS fun s => (((SystemKept.zeroStale s .ds).trans (.zeroStale _ .es)).trans (.zeroStale _ .fs)).trans
    (.zeroStale _ .gs)

theorem tame_outerReturn (o : OSize) (k : Nat) (extra : Word) (sel : Half) (d : Quad) (off : Word) {flags : M Unit}
    (hf : Tame flags) : Tame (outerReturn o k extra sel d off flags) :=
  .bind (tame_peek _ _) fun _ => .bind (tame_peek _ _) fun _ => .check <| .bind (tame_descRead _ _) fun _ => .check <|
    .check <| .bind (tame_snapshot _ _ _) fun _ => .bind (tame_writeEip _) fun _ => .bind hf fun _ =>
      .bind (tame_snapshot _ _ _) fun _ => .bind (.same fun _ => ⟨rfl, rfl⟩) fun _ => tame_zeroStaleSegments

theorem tame_farReturn (o : OSize) (extra : Word) : Tame (farReturn o extra) :=
  .get fun _ => .bind (tame_peek _ _) fun _ => .bind (tame_peek _ _) fun _ => .ite
    (.bind (tame_loadReal _ _) fun _ => .bind (tame_setEip _ _) fun _ => tame_moveSp _) <|
    .bind (tame_checkReturnCs _ _) fun _ => .ite
      (.bind (tame_snapshot _ _ _) fun _ => .bind (tame_writeEip _) fun _ => tame_moveSp _)
      (tame_outerReturn _ _ _ _ _ _ (.pure ()))

theorem tame_interruptReturn (o : OSize) : Tame (interruptReturn o) :=
  .get fun _ => .ite (.bind (tame_sysRead _ _) fun _ => tame_taskSwitch _ _ _) <|
    .bind (tame_peek _ _) fun _ => .bind (tame_peek _ _) fun _ => .bind (tame_peek _ _) fun _ => .ite
      (.bind (tame_loadReal _ _) fun _ => .bind (tame_setEip _ _) fun _ => .bind (tame_writeFlags _ _) fun _ =>
        tame_moveSp _) <|
      .ite (.refuse _) <| .bind (tame_checkReturnCs _ _) fun _ => .ite
        (.bind (tame_snapshot _ _ _) fun _ => .bind (tame_writeEip _) fun _ => .bind (tame_writeFlags _ _) fun _ =>
          tame_moveSp _)
        (tame_outerReturn _ _ _ _ _ _ (tame_writeFlags _ _))

/-! ### Delivery (spec/60_exceptions.md R411, R420 to R424, R430) -/

theorem tame_deliverReal (v : Byte) (ret : Word) : Tame (deliverReal v ret) :=
  .get fun _ => .bind (tame_stage _ _ _) fun _ => .bind (tame_sysRead _ _) fun _ => .bind (tame_sysRead _ _) fun _ =>
    .bind (tame_moveSp _) fun _ => .bind .flags fun _ => .bind (tame_loadReal _ _) fun _ => tame_writeEip _

theorem tame_sameDelivery (g : Quad) (tsel : Half) (d : Quad) (off : Word) (o : OSize) (err : Option Half) (ret : Word) :
    Tame (sameDelivery g tsel d off o err ret) :=
  .get fun _ => .bind (tame_selectorAt _ _) fun _ => .bind (tame_stage _ _ _) fun _ => .bind (tame_moveSp _) fun _ =>
    .bind (tame_enterCs _ _ _ _) fun _ => .flags

theorem tame_innerDelivery (g : Quad) (tsel : Half) (d : Quad) (off : Word) (o : OSize) (err : Option Half) (ret : Word) :
    Tame (innerDelivery g tsel d off o err ret) :=
  .bind (tame_innerStack _) fun _ => .get fun _ => .bind (tame_selectorAt _ _) fun _ => .bind (tame_selectorAt _ _) fun _ =>
    .bind (tame_stageVia _ _ _ _ _ _ _) fun _ => .bind (tame_enterStack _ _ _) fun _ => .bind (tame_enterCs _ _ _ _) fun _ =>
      .flags

theorem tame_taskGateDelivery (g : Quad) (err : Option Half) (ret : Word) : Tame (taskGateDelivery g err ret) :=
  .bind (tame_taskSwitch _ _ _) fun _ => .get fun _ => by
    cases err with
    | none => exact .pure ()
    | some c => exact tame_push _ _

theorem tame_gateDelivery (g : Quad) (err : Option Half) (ret : Word) : Tame (gateDelivery g err ret) :=
  .check <| .bind (tame_descRead _ _) fun _ => .get fun _ => .check <| .check <| .check <|
    .ite (tame_innerDelivery _ _ _ _ _ _ _) (tame_sameDelivery _ _ _ _ _ _ _)

theorem tame_deliverProtected (v : Byte) (src : Src) (err : Option Half) (ret : Word) :
    Tame (deliverProtected v src err ret) :=
  .get fun _ => .check <| .bind (tame_sysRead _ _) fun _ => .check <| .check <| .check <|
    .ite (tame_taskGateDelivery _ _ _) (tame_gateDelivery _ _ _)

theorem Tame.underExt {m : M Unit} (src : Src) (h : Tame m) : Tame (underExt src m) := by
  intro s
  unfold Machine.underExt
  cases e : m s with
  | ok u t => exact h.ok e
  | error x t => exact h.error e

theorem tame_deliver (v : Byte) (src : Src) (err : Option Half) (ret : Word) : Tame (deliver v src err ret) :=
  .bind (.same fun _ => ⟨rfl, rfl⟩) fun _ =>
    .bind (.underExt src <| .get fun _ => .ite (tame_deliverProtected _ _ _ _) (tame_deliverReal _ _)) fun _ =>
      .same fun _ => ⟨rfl, rfl⟩

theorem tame_softInt (v : Byte) : Tame (softInt v) := .get fun _ => tame_deliver _ _ _ _

theorem tame_intOnOverflow : Tame intOnOverflow := .get fun _ => .whenM (tame_softInt 4)

end Sys2Proof.Machine

end

section

namespace Sys2Proof.Machine

/-! ## Exceptions and instructions outside CPL 0 (spec/60_exceptions.md R410 to R413, R450) -/

theorem handlerBase_systemKept {s0 s1 : State} (e : Exc) (h : SystemKept s0 s1) : SystemKept s0 (handlerBase e s0 s1) := by
  unfold handlerBase
  split
  · exact h.trans (.of_eq rfl rfl)
  · exact .of_eq rfl rfl

theorem deliverChain_systemKept {k : Nat} {v : Byte} {src : Src} {err : Option Half} {ret : Word} {s t : State}
    (h : deliverChain k v src err ret s = .next t) : SystemKept s t := by
  induction k generalizing v src err ret s with
  | zero => cases h
  | succ k ih =>
    have hd := tame_deliver v src err ret
    rw [deliverChain] at h
    cases e : deliver v src err ret s with
    | ok u s1 =>
      rw [e] at h
      cases h
      exact hd.ok e
    | error x s1 =>
      rw [e] at h
      cases x with
      | stop r => cases h
      | exc x =>
        have hb := handlerBase_systemKept x (hd.error e)
        dsimp only at h
        split at h
        · exact hb.trans (ih h)
        · exact hb.trans (ih h)
        · cases h
          exact hb.trans (.of_eq rfl rfl)

theorem takeException_systemKept {e : Exc} {s0 s1 t : State} (hs : SystemKept s0 s1)
    (h : takeException e s0 s1 = .next t) : SystemKept s0 t := by
  have h0 : SystemKept s0 (s0.withEip s0.baseEip) := .of_eq rfl rfl
  have h1 : SystemKept (s0.withEip s0.baseEip) s0 := .of_eq rfl rfl
  exact h0.trans ((handlerBase_systemKept e (h1.trans hs)).trans (deliverChain_systemKept h))

theorem Tame.run {body : M Unit} {s t : State} (hb : Tame body) (h : run body s = .next t) : SystemKept s t := by
  unfold Machine.run at h
  cases e : body s with
  | ok u s1 =>
    rw [e] at h
    cases h
    exact (hb.ok e).trans (.of_eq rfl rfl)
  | error x s1 =>
    rw [e] at h
    cases x with
    | stop r => cases h
    | exc x => exact takeException_systemKept (hb.error e) h

/-- An instruction that is not privileged and no row that latches is the run of a body that keeps the system registers. -/
theorem exec_runs_tame (i : Instr) (s : State) (hp : Latch.empty.after i = none) (hc : needsCpl0 i = false) :
    ∃ body, exec i s = run body s ∧ Tame body := by
  cases i
  case prefixEs | prefixCs | prefixSs | prefixDs | prefixFs | prefixGs | prefixOpsize | prefixAddrsize | prefixLock |
      prefixRepne | prefixRep => cases hp
  case hlt | lgdt | lidt | lldt | ltr | movR32Cr | movCrR32 | movR32Dr | movDrR32 | clts => cases hc
  all_goals
    dsimp only [exec]
    refine ⟨_, rfl, ?_⟩
  case incRv | incRm8 | incRmv | decRv | decRm8 | decRmv | notRm8 | notRmv | negRm8 | negRmv => exact tame_unary _ _ _
  case mulRm8 | mulRmv => exact tame_mulUnsigned _ _
  case imulRm8 | imulRmv => exact tame_mulSigned _ _
  case divRm8 | divRmv => exact tame_divUnsigned _ _
  case idivRm8 | idivRmv => exact tame_divSigned _ _
  case imulRvRmv | imulRvRmvImmv | imulRvRmvSx8 => exact tame_mulInto _ _ _ _
  case rolRm8Imm8 | rolRmvImm8 | rolRm8One | rolRmvOne | rolRm8Cl | rolRmvCl | rorRm8Imm8 | rorRmvImm8 | rorRm8One |
      rorRmvOne | rorRm8Cl | rorRmvCl | rclRm8Imm8 | rclRmvImm8 | rclRm8One | rclRmvOne | rclRm8Cl | rclRmvCl | rcrRm8Imm8
      | rcrRmvImm8 | rcrRm8One | rcrRmvOne | rcrRm8Cl | rcrRmvCl | shlRm8Imm8 | shlRmvImm8 | shlRm8One | shlRmvOne |
      shlRm8Cl | shlRmvCl | shrRm8Imm8 | shrRmvImm8 | shrRm8One | shrRmvOne | shrRm8Cl | shrRmvCl | sarRm8Imm8 |
      sarRmvImm8 | sarRm8One | sarRmvOne | sarRm8Cl | sarRmvCl => exact tame_shiftLoc _ _ _ _
  case daa => exact tame_decimalAdd
  case das => exact tame_decimalSub
  case aaa | aas => exact tame_asciiAdjust _ _ _
  case aam => exact tame_asciiMul _
  case aad => exact tame_asciiDiv _
  case cbwCwde => exact tame_widenAcc _
  case cwdCdq => exact tame_extendAcc _
  case movRm8R8 | movRmvRv | movR8Rm8 | movRvRmv | movR8Imm8 | movRvImmv | movRm8Imm8 | movRmvImmv | movAlMoffs |
      movEaxMoffs | movMoffsAl | movMoffsEax => exact tame_move _ _ _
  case movRm16Sreg => exact tame_storeSelector _ _ _
  case movSregRm16 => exact tame_loadSelector _ _
  case lea => exact tame_loadAddress _ _ _
  case nop => exact .pure ()
  case pushRv => exact tame_pushReg _ _
  case popRv => exact tame_popReg _ _
  case pushImmv | pushSx8 => exact tame_push _ _
  case pushEs | pushCs | pushSs | pushDs | pushFs | pushGs => exact tame_pushSeg _ _
  case popEs | popSs | popDs | popFs | popGs => exact tame_popSeg _ _
  case pusha => exact tame_pushAll _
  case popa => exact tame_popAll _
  case pushf => exact tame_pushFlags _
  case popf => exact tame_popFlags _
  case lahf => exact tame_loadAh
  case sahf => exact tame_storeAh
  case clc | stc | cmc | cld | std => exact .flags
  case cli => exact tame_clearIf
  case sti => exact tame_setIf
  case jmpRel8 | jmpRelv => exact tame_jumpRel _ _
  case jmpRmv => exact tame_jumpTo _ _
  case joRel8 | jnoRel8 | jbRel8 | jaeRel8 | jeRel8 | jneRel8 | jbeRel8 | jaRel8 | jsRel8 | jnsRel8 | jpRel8 | jnpRel8 |
      jlRel8 | jgeRel8 | jleRel8 | jgRel8 | joRelv | jnoRelv | jbRelv | jaeRelv | jeRelv | jneRelv | jbeRelv | jaRelv |
      jsRelv | jnsRelv | jpRelv | jnpRelv | jlRelv | jgeRelv | jleRelv | jgRelv => exact tame_jumpIf _ _ _
  case callRelv => exact tame_callRel _ _
  case callRmv => exact tame_callTo _ _
  case jmpFar | callFar => exact tame_farTransfer _ _ _ _
  case ret | retImm16 => exact tame_retNear _ _
  case retf | retfImm16 => exact tame_farReturn _ _
  case iret => exact tame_interruptReturn _
  case int | int3 => exact tame_softInt _
  case into => exact tame_intOnOverflow
  case inAlImm8 | inEaxImm8 | inEaxDx | inAlDx => exact tame_portIn _ _
  case outImm8Al | outImm8Eax | outDxEax | outDxAl => exact tame_portOut _ _
  case bound => exact tame_boundCheck _ _ _
  all_goals exact tame_binary _ _ _ _

/-- Outside CPL 0 an instruction only latches, takes #GP(0), or runs a body that keeps the system registers (R450). -/
theorem exec_systemKept {i : Instr} {s t : State} (hp : s.pe = true) (hc : s.cpl ≠ 0) (h : exec i s = .next t) :
    SystemKept s t := by
  cases hl : s.latch.after i with
  | some l =>
    rw [exec_prefix hl] at h
    cases h
    exact .of_eq rfl rfl
  | none =>
    cases hi : needsCpl0 i with
    | true =>
      rw [exec_needsCpl0_outside hi hp hc] at h
      exact takeException_systemKept (.refl s) h
    | false =>
      have hn : Latch.empty.after i = none := by
        rw [← Option.not_isSome_iff_eq_none, Latch.after_isSome _ s.latch, hl]
        exact Bool.false_ne_true
      obtain ⟨body, hb, ht⟩ := exec_runs_tame i s hn hi
      exact ht.run (hb ▸ h)

/-- Settles O17: the privileged instructions do nothing, of the others' operations only the commit of a task switch writes CR0, and
none writes another system register. -/
theorem userModeKeepsSystemRegisters : Obligations.UserModeKeepsSystemRegisters := by
  intro i s t hp hc h
  obtain ⟨hs, h0⟩ := exec_systemKept hp hc h
  simp only [State.system, Prod.mk.injEq] at hs
  obtain ⟨hg, hi, h4, hd, ha, hpa⟩ := hs
  exact ⟨hg, hi, h0, h4, hd, ha, hpa⟩

end Sys2Proof.Machine

end

section

namespace Sys2Proof.Machine

/-! ## The classes of what a delivery raises (spec/60_exceptions.md R412) -/

/-- The exception is of a class other than benign. -/
def Exc.grave (e : Exc) : Bool := classOf e.vector .exception != .benign

/-- An abort whose exception, if it is one, is not benign. -/
def Abort.Grave (a : Abort) : Prop := ∀ e, a = .exc e → e.grave = true

theorem Abort.grave_exc {e : Exc} (h : e.grave = true) : Abort.Grave (.exc e) := by
  rintro _ ⟨⟩
  exact h

theorem Abort.grave_stop (r : Refusal) : Abort.Grave (.stop r) := nofun

/-- An operation that raises no benign exception. -/
def Grave {α : Type} (m : M α) : Prop := Raises Abort.Grave m

section Rules

variable {α β : Type} {m n : M α} {f : α → M β}

theorem Grave.pure (a : α) : Grave (pure a : M α) := Raises.pure a

theorem Grave.bind (hm : Grave m) (hf : ∀ a, Grave (f a)) : Grave (m >>= f) := Raises.bind hm hf

theorem Grave.get {f : State → M β} (hf : ∀ s, Grave (f s)) : Grave (getS >>= f) := .bind Raises.getS hf

theorem Grave.modS (g : State → State) : Grave (modS g) := Raises.modS g

theorem Grave.refuse (r : Refusal) : Grave (refuse r : M α) := Raises.refuse (Abort.grave_stop r)

theorem Grave.ite {c : Prop} [Decidable c] (hm : Grave m) (hn : Grave n) : Grave (if c then m else n) := Raises.ite hm hn

theorem Grave.raiseIf {c : Prop} [Decidable c] {e : Exc} (h : e.grave = true) : Grave (raiseIf c e) :=
  Raises.raiseIf (Abort.grave_exc h)

/-- A test, then the rest. -/
theorem Grave.check {c : Prop} [Decidable c] {e : Exc} {f : Unit → M β} (h : e.grave = true) (hf : Grave (f ())) :
    Grave (Machine.raiseIf c e >>= f) :=
  .bind (.raiseIf h) fun _ => hf

theorem Grave.whenM {c : Prop} [Decidable c] {m : M Unit} (hm : Grave m) : Grave (whenM c m) := Raises.whenM hm

end Rules

/-! ### Memory and the stack -/

theorem FaultsAt.grave {l : Word} {x : Abort} {t : State} (h : FaultsAt l x t) : x.Grave := by
  intro e he
  obtain ⟨-, hv, -⟩ := h e he
  rw [Exc.grave, hv]
  rfl

theorem FaultsWithin.grave {l : Word} {n : Nat} {x : Abort} {t : State} : FaultsWithin l n x t → x.Grave
  | ⟨_, _, h⟩ => h.grave

theorem grave_physRead (p : Word) (n : Nat) : Grave (physRead p n) := by
  rintro s _ _ ⟨⟩

theorem grave_translate (l : Word) (a : Acc) : Grave (translate l a) := fun _ _ _ h => (faultsAt_translate h).grave

theorem grave_linRead (l : Word) (n : Nat) (a : Acc) : Grave (linRead l n a) :=
  .get fun _ => .ite (fun _ _ _ h => (faultsWithin_linReadBytes h).grave) <|
    .bind (grave_translate _ _) fun _ => grave_physRead _ _

theorem grave_linWrite (l : Word) (n : Nat) (v : Quad) (a : Acc) : Grave (linWrite l n v a) := by
  refine .get fun s => .ite ?_ (.bind (grave_translate _ _) fun _ => .modS _)
  cases s.params.straddle with
  | bytewise => exact fun _ _ _ h => (faultsWithin_linWriteBytes h).grave
  | allOrNothing => exact .bind (fun _ _ _ h => (faultsWithin_translateBytes h).grave) fun _ => .modS _

theorem grave_sysRead (l : Word) (n : Nat) : Grave (sysRead l n) := grave_linRead _ _ _

theorem grave_sysWrite (l : Word) (n : Nat) (v : Quad) : Grave (sysWrite l n v) := grave_linWrite _ _ _ _

theorem segFault_grave (c : SegCache) : (segFault c).grave = true := by
  unfold segFault
  split <;> rfl

theorem grave_segCheckAs {e : Exc} (h : e.grave = true) (c : SegCache) (isCs : Bool) (off n : Nat) (k : AccKind) :
    Grave (segCheckAs e c isCs off n k) := .get fun _ => .raiseIf h

theorem grave_memWrite (g : SReg) (off n : Nat) (v : Quad) : Grave (memWrite g off n v) :=
  .get fun _ => .bind (grave_segCheckAs (segFault_grave _) _ _ _ _ _) fun _ => grave_linWrite _ _ _ _

theorem grave_push (o : OSize) (v : Word) : Grave (push o v) := .get fun _ => .bind (grave_memWrite _ _ _ _) fun _ => .modS _

theorem grave_stage (o : OSize) (k : Nat) (vs : List Word) : Grave (stage o k vs) := by
  induction vs generalizing k with
  | nil => exact .pure ()
  | cons v vs ih => exact .get fun _ => .bind (grave_memWrite _ _ _ _) fun _ => ih _

theorem grave_stageVia {e : Exc} (h : e.grave = true) (c : SegCache) (cpl : BitVec 2) (nesp : Word) (o : OSize) (k : Nat)
    (vs : List Word) : Grave (stageVia e c cpl nesp o k vs) := by
  induction vs generalizing k with
  | nil => exact .pure ()
  | cons v vs ih =>
    exact .bind (.bind (grave_segCheckAs h _ _ _ _ _) fun _ => grave_linWrite _ _ _ _) fun _ => ih _

theorem grave_selectorAt (o : OSize) (sel : Half) : Grave (selectorAt o sel) := by
  cases o with
  | o16 => exact .pure _
  | o32 => exact .bind (fun _ _ _ => nofun) fun _ => .pure _

/-! ### Descriptors and segment registers -/

theorem grave_descRead (sel : Half) {e : Byte} (h : (Exc.coded e (selCode sel)).grave = true) : Grave (descRead sel e) :=
  .get fun _ => .check h <| grave_sysRead _ _

theorem Grave.keepSegOnRaise {m : M Unit} (g : SReg) (h : Grave m) : Grave (keepSegOnRaise g m) := by
  intro s x t ht
  unfold Machine.keepSegOnRaise at ht
  cases e : m s with
  | ok u s1 =>
    rw [e] at ht
    cases ht
  | error y s1 =>
    rw [e] at ht
    cases ht
    exact h _ _ _ e

theorem grave_snapshot (g : SReg) (sel : Half) (d : Quad) : Grave (snapshot g sel d) :=
  .keepSegOnRaise g <| .bind (.modS _) fun _ => .get fun _ => .whenM (grave_sysWrite _ _ _)

theorem grave_enterCs (sel : Half) (rpl : BitVec 2) (d : Quad) (off : Word) : Grave (enterCs sel rpl d off) :=
  .bind (grave_snapshot _ _ _) fun _ => .modS _

/-! ### The task switch (spec/60_exceptions.md R440 to R443) -/

theorem TaskKind.vector_grave (kind : TaskKind) (c : Half) : (Exc.coded kind.vector c).grave = true := by cases kind <;> rfl

theorem grave_checkNewTss (sel : Half) (kind : TaskKind) : Grave (checkNewTss sel kind) :=
  .check (kind.vector_grave _) <| .bind (grave_descRead _ (kind.vector_grave _)) fun _ => .check (kind.vector_grave _) <|
    .check rfl <| .check rfl <| .check rfl <| .pure _

theorem grave_readFields (base : Word) (fs : List (Nat × Nat)) : Grave (readFields base fs) := by
  induction fs with
  | nil => exact .pure []
  | cons f fs ih => exact .bind (grave_sysRead _ _) fun _ => .bind ih fun _ => .pure _

theorem grave_writeFields (base : Word) (fs : List (Nat × Nat × Word)) : Grave (writeFields base fs) := by
  induction fs with
  | nil => exact .pure ()
  | cons f fs ih => exact .bind (grave_sysWrite _ _ _) fun _ => ih

theorem grave_moveBusy (sel : Half) (d : Quad) (kind : TaskKind) : Grave (moveBusy sel d kind) :=
  .get fun _ => .bind (grave_sysRead _ _) fun _ => .bind (grave_sysWrite _ _ _) fun _ => .bind (grave_sysWrite _ _ _) fun _ =>
    .whenM (grave_sysWrite _ _ _)

theorem grave_taskLdtr (sel : Half) : Grave (taskLdtr sel) :=
  .ite (.pure ()) <| .check rfl <| .bind (grave_descRead _ rfl) fun _ => .check rfl <| .check rfl <| .modS _

theorem grave_taskCs (sel : Half) : Grave (taskCs sel) :=
  .check rfl <| .bind (grave_descRead _ rfl) fun _ => .check rfl <| .check rfl <| .check rfl <| .check rfl <|
    grave_snapshot _ _ _

theorem grave_taskSs (sel : Half) : Grave (taskSs sel) :=
  .check rfl <| .bind (grave_descRead _ rfl) fun _ => .get fun _ => .check rfl <| .check rfl <| grave_snapshot _ _ _

theorem grave_taskData (g : SReg) (sel : Half) : Grave (loadData vTS g sel) :=
  .ite (.modS _) <| .bind (grave_descRead _ rfl) fun _ => .get fun _ => .check rfl <| .check rfl <| grave_snapshot _ _ _

theorem grave_loadTaskSegments (t : TssImage) : Grave (loadTaskSegments t) :=
  .bind (grave_taskLdtr _) fun _ => .bind (grave_taskCs _) fun _ => .bind (grave_taskSs _) fun _ =>
    .bind (grave_taskData _ _) fun _ => .bind (grave_taskData _ _) fun _ => .bind (grave_taskData _ _) fun _ =>
      grave_taskData _ _

theorem Abort.Grave.inNewTask {a : Abort} (h : a.Grave) : a.inNewTask.Grave := by
  cases a with
  | exc e => exact Abort.grave_exc (h e rfl)
  | stop r => exact Abort.grave_stop r

theorem Grave.inNewTask {m : M Unit} (h : Grave m) : Grave (inNewTask m) := by
  intro s x t ht
  unfold Machine.inNewTask at ht
  cases e : m s with
  | ok u s1 =>
    rw [e] at ht
    cases ht
  | error y s1 =>
    rw [e] at ht
    cases ht
    exact (h _ _ _ e).inNewTask

theorem grave_taskSwitch (sel : Half) (kind : TaskKind) (ret : Word) : Grave (taskSwitch sel kind ret) :=
  .bind (grave_checkNewTss _ _) fun _ => .bind (grave_readFields _ _) fun _ => .ite (.refuse _) <| .get fun _ =>
    .bind (grave_writeFields _ _) fun _ => .bind (grave_moveBusy _ _ _) fun _ => .bind (.modS _) fun _ =>
      (grave_loadTaskSegments _).inNewTask

/-! ### Delivery (spec/60_exceptions.md R411, R420 to R424, R430) -/

theorem grave_deliverReal (v : Byte) (ret : Word) : Grave (deliverReal v ret) :=
  .get fun _ => .bind (grave_stage _ _ _) fun _ => .bind (grave_linRead _ _ _) fun _ => .bind (grave_linRead _ _ _) fun _ =>
    .bind (.modS _) fun _ => .bind (.modS _) fun _ => .bind (.modS _) fun _ => .modS _

theorem grave_sameDelivery (g : Quad) (tsel : Half) (d : Quad) (off : Word) (o : OSize) (err : Option Half) (ret : Word) :
    Grave (sameDelivery g tsel d off o err ret) :=
  .get fun _ => .bind (grave_selectorAt _ _) fun _ => .bind (grave_stage _ _ _) fun _ => .bind (.modS _) fun _ =>
    .bind (grave_enterCs _ _ _ _) fun _ => .modS _

theorem grave_innerStack (n : BitVec 2) : Grave (innerStack n) :=
  .get fun _ => .check rfl <| .bind (grave_sysRead _ _) fun _ => .bind (grave_sysRead _ _) fun _ => .check rfl <|
    .bind (grave_descRead _ rfl) fun _ => .check rfl <| .check rfl <| .pure _

theorem grave_innerDelivery (g : Quad) (tsel : Half) (d : Quad) (off : Word) (o : OSize) (err : Option Half) (ret : Word) :
    Grave (innerDelivery g tsel d off o err ret) :=
  .bind (grave_innerStack _) fun _ => .get fun _ => .bind (grave_selectorAt _ _) fun _ => .bind (grave_selectorAt _ _) fun _ =>
    .bind (grave_stageVia rfl _ _ _ _ _ _) fun _ => .bind (.bind (grave_snapshot _ _ _) fun _ => .modS _) fun _ =>
      .bind (grave_enterCs _ _ _ _) fun _ => .modS _

theorem grave_taskGateDelivery (g : Quad) (err : Option Half) (ret : Word) : Grave (taskGateDelivery g err ret) :=
  .bind (grave_taskSwitch _ _ _) fun _ => .get fun _ => by
    cases err with
    | none => exact .pure ()
    | some c => exact grave_push _ _

theorem grave_gateDelivery (g : Quad) (err : Option Half) (ret : Word) : Grave (gateDelivery g err ret) :=
  .check rfl <| .bind (grave_descRead _ rfl) fun _ => .get fun _ => .check rfl <| .check rfl <| .check rfl <|
    .ite (grave_innerDelivery _ _ _ _ _ _ _) (grave_sameDelivery _ _ _ _ _ _ _)

theorem grave_deliverProtected (v : Byte) (src : Src) (err : Option Half) (ret : Word) :
    Grave (deliverProtected v src err ret) :=
  .get fun _ => .check rfl <| .bind (grave_sysRead _ _) fun _ => .check rfl <| .check rfl <| .check rfl <|
    .ite (grave_taskGateDelivery _ _ _) (grave_gateDelivery _ _ _)

/-- EXT changes an error code, never a vector (R402). -/
theorem Exc.withExt_grave (e : Exc) : e.withExt.grave = e.grave := by
  unfold Exc.withExt
  split <;> rfl

theorem Abort.Grave.withExt {a : Abort} (h : a.Grave) : a.withExt.Grave := by
  cases a with
  | exc e => exact Abort.grave_exc (e.withExt_grave.trans (h e rfl))
  | stop r => exact Abort.grave_stop r

theorem Grave.underExt {m : M Unit} (src : Src) (h : Grave m) : Grave (underExt src m) := by
  intro s x t ht
  unfold Machine.underExt at ht
  cases e : m s with
  | ok u s1 =>
    rw [e] at ht
    cases ht
  | error y s1 =>
    rw [e] at ht
    cases ht
    split
    · exact (h _ _ _ e).withExt
    · exact h _ _ _ e

/-- A delivery raises #TS, #NP, #SS, #GP and #PF only, and none of them is benign. -/
theorem grave_deliver (v : Byte) (src : Src) (err : Option Half) (ret : Word) : Grave (deliver v src err ret) :=
  .bind (.modS _) fun _ =>
    .bind (.underExt src <| .get fun _ => .ite (grave_deliverProtected _ _ _ _) (grave_deliverReal _ _)) fun _ => .modS _

end Sys2Proof.Machine

end

section

namespace Sys2Proof.Machine

/-! ## Escalation (spec/60_exceptions.md R410 to R413) -/

section Chain

variable {v : Byte} {src : Src} {err : Option Half} {ret : Word} {s s1 : State} {e : Exc}

theorem deliverChain_completes (k : Nat) (hd : deliver v src err ret s = .ok () s1) :
    deliverChain (k + 1) v src err ret s = .next s1 := by
  simp only [deliverChain, hd]

theorem deliverChain_refuses {r : Refusal} (k : Nat) (hd : deliver v src err ret s = .error (.stop r) s1) :
    deliverChain (k + 1) v src err ret s = .refused r := by
  simp only [deliverChain, hd]

theorem deliverChain_delivers (k : Nat) (hd : deliver v src err ret s = .error (.exc e) s1)
    (hc : escalate (classOf v src) (classOf e.vector .exception) = .deliver) :
    deliverChain (k + 1) v src err ret s =
      deliverChain k e.vector .exception e.err (handlerBase e s s1).eip (handlerBase e s s1) := by
  simp only [deliverChain, hd, hc]

theorem deliverChain_doubleFaults (k : Nat) (hd : deliver v src err ret s = .error (.exc e) s1)
    (hc : escalate (classOf v src) (classOf e.vector .exception) = .doubleFault) :
    deliverChain (k + 1) v src err ret s =
      deliverChain k 8 .exception (some 0) (handlerBase e s s1).baseEip (handlerBase e s s1) := by
  simp only [deliverChain, hd, hc]

theorem deliverChain_tripleFaults (k : Nat) (hd : deliver v src err ret s = .error (.exc e) s1)
    (hc : escalate (classOf v src) (classOf e.vector .exception) = .tripleFault) :
    deliverChain (k + 1) v src err ret s = .next (handlerBase e s s1).shutDown := by
  simp only [deliverChain, hd, hc]

end Chain

/-! The classes of the exceptions (R412). -/

theorem classOf_benign {v : Byte} (h : v = 1 ∨ v = 3 ∨ v = 4 ∨ v = 5 ∨ v = 6 ∨ v = 7 ∨ v = 16 ∨ v = 17) :
    classOf v .exception = .benign := by
  rcases h with rfl | rfl | rfl | rfl | rfl | rfl | rfl | rfl <;> rfl

theorem classOf_contributory {v : Byte} (h : v = 0 ∨ v = 10 ∨ v = 11 ∨ v = 12 ∨ v = 13) :
    classOf v .exception = .contributory := by
  rcases h with rfl | rfl | rfl | rfl | rfl <;> rfl

theorem classOf_pageFault {v : Byte} (h : v = 14) : classOf v .exception = .pageFault := h ▸ rfl

theorem classOf_doubleFault {v : Byte} (h : v = 8) : classOf v .exception = .doubleFault := h ▸ rfl

/-- Settles O19: a delivery that raises goes on as the table says, from the state the handler is entered from. -/
theorem nestedExceptionEscalates : Obligations.NestedExceptionEscalates :=
  ⟨fun k _ _ _ _ _ _ _ hd =>
      ⟨deliverChain_delivers k hd, deliverChain_doubleFaults k hd, deliverChain_tripleFaults k hd⟩,
    fun _ _ _ => rfl, fun _ w =>
      ⟨rfl, rfl, fun hv => congrArg (escalate · (classOf w .exception)) (classOf_benign hv),
        fun hv hw => congrArg₂ escalate (classOf_contributory hv) (classOf_contributory hw),
        fun hv hw => hw.elim (fun hw => congrArg₂ escalate (classOf_contributory hv) (classOf_pageFault hw))
          fun hw => congrArg₂ escalate (classOf_contributory hv) (classOf_benign hw),
        fun hv hw => hw.elim (fun hw => congrArg₂ escalate (classOf_pageFault hv) (classOf_contributory hw))
          fun hw => congrArg₂ escalate (classOf_pageFault hv) (classOf_pageFault hw),
        fun hv hw => congrArg₂ escalate (classOf_pageFault hv) (classOf_benign hw),
        fun hv => congrArg (escalate · (classOf w .exception)) (classOf_doubleFault hv)⟩⟩

/-- Settles O18: the delivery cannot fail on a stack and a table in plain RAM, whatever the instruction had done before its
exception. -/
theorem realModeExceptionEntry : Obligations.RealModeExceptionEntry := by
  intro e s0 s1 he b hb
  obtain ⟨t, hd, hr, -, hc⟩ := hb.enters e.vector .exception e.err s0.baseEip
  exact ⟨t, (State.Delivers.of_deliver hd).asFault e s0 s1 rfl he rfl rfl rfl rfl, hr, hc⟩

end Sys2Proof.Machine

end

section

namespace Sys2Proof.Machine

/-! ## No step ends in a fault (spec/60_exceptions.md R411 to R413) -/

/-- How many deliveries an event of the class can begin: each escalation leads to a class further down the table (R412). -/
def EventClass.rank : EventClass → Nat
  | .benign => 4
  | .contributory => 3
  | .pageFault => 2
  | .doubleFault => 1

theorem EventClass.rank_pos (c : EventClass) : 0 < c.rank := by cases c <;> decide

theorem EventClass.rank_le (c : EventClass) : c.rank ≤ 4 := by cases c <;> decide

/-- The second exception is delivered only where its class is further down the table, given that it is not benign. -/
theorem rank_lt_of_deliver {c d : EventClass} (hd : d ≠ .benign) (h : escalate c d = .deliver) : d.rank < c.rank := by
  cases c with
  | benign =>
    cases d with
    | benign => exact absurd rfl hd
    | contributory | pageFault | doubleFault => decide
  | contributory =>
    cases d with
    | benign => exact absurd rfl hd
    | contributory => cases h
    | pageFault | doubleFault => decide
  | pageFault =>
    cases d with
    | benign => exact absurd rfl hd
    | contributory | pageFault => cases h
    | doubleFault => decide
  | doubleFault => cases h

/-- A double fault is raised only by events above it in the table. -/
theorem one_lt_rank_of_doubleFault {c d : EventClass} (h : escalate c d = .doubleFault) : 1 < c.rank := by
  cases c with
  | benign | contributory | pageFault => decide
  | doubleFault => cases h

/-- An outcome that is no fault. -/
def NoFault (o : Host.Outcome State Fault Refusal) : Prop := ∀ f, o ≠ .fault f

theorem noFault_next (s : State) : NoFault (.next s) := nofun

theorem noFault_refused (r : Refusal) : NoFault (.refused r) := nofun

theorem noFault_andThen {o : Host.Outcome State Fault Refusal} {f : State → Host.Outcome State Fault Refusal} (ho : NoFault o)
    (hf : ∀ s, NoFault (f s)) : NoFault (andThen o f) := by
  cases o with
  | next s => exact hf s
  | fault r => exact absurd rfl (ho r)
  | refused r => exact noFault_refused r

/-- A chain of deliveries ends within the rank of its first event (log 25). -/
theorem noFault_deliverChain {k : Nat} {v : Byte} {src : Src} (err : Option Half) (ret : Word) (s : State)
    (hk : (classOf v src).rank ≤ k) : NoFault (deliverChain k v src err ret s) := by
  induction k generalizing v src err ret s with
  | zero => exact absurd hk (EventClass.rank_pos _).not_ge
  | succ k ih =>
    cases hd : deliver v src err ret s with
    | ok u t => exact deliverChain_completes k hd ▸ noFault_next t
    | error x t =>
      cases x with
      | stop r => exact deliverChain_refuses k hd ▸ noFault_refused r
      | exc e =>
        have he : classOf e.vector .exception ≠ .benign := bne_iff_ne.mp (grave_deliver _ _ _ _ _ _ _ hd e rfl)
        cases hc : escalate (classOf v src) (classOf e.vector .exception) with
        | deliver =>
          rw [deliverChain_delivers k hd hc]
          exact ih _ _ _ (Nat.le_of_lt_succ ((rank_lt_of_deliver he hc).trans_le hk))
        | doubleFault =>
          rw [deliverChain_doubleFaults k hd hc]
          exact ih _ _ _ (Nat.le_of_lt_succ ((one_lt_rank_of_doubleFault hc).trans_le hk))
        | tripleFault =>
          rw [deliverChain_tripleFaults k hd hc]
          exact noFault_next _

theorem noFault_deliverEvent (v : Byte) (src : Src) (err : Option Half) (ret : Word) (s : State) :
    NoFault (deliverEvent v src err ret s) :=
  noFault_deliverChain err ret s ((EventClass.rank_le _).trans (by decide))

theorem noFault_takeException (e : Exc) (s0 s1 : State) : NoFault (takeException e s0 s1) := noFault_deliverEvent _ _ _ _ _

theorem noFault_run (body : M Unit) (s : State) : NoFault (run body s) := by
  unfold run
  cases body s with
  | ok u t => exact noFault_next _
  | error x t =>
    cases x with
    | exc e => exact noFault_takeException e s t
    | stop r => exact noFault_refused r

/-- What is fetched runs as a body, or the exception of the fetch is taken. -/
theorem noFault_runInstr (s : State) : NoFault (runInstr s) := by
  unfold runInstr
  cases h : fetchInstr fetchBound s.begin with
  | ok i t =>
    obtain ⟨hp, hc⟩ := returns_fetchInstr fetchBound _ _ _ h
    obtain ⟨body, hb, -⟩ := exec_runs i (t.withLatch Latch.empty) hp hc
    exact (congrArg NoFault hb).mpr (noFault_run body _)
  | error x t =>
    cases x with
    | exc e => exact noFault_takeException e _ t
    | stop r => exact noFault_refused r

theorem noFault_trapStep (s : State) : NoFault (trapStep s) := by
  unfold trapStep
  split
  · exact noFault_deliverEvent _ _ _ _ _
  · exact noFault_next s

theorem noFault_irqStep (s : State) : NoFault (irqStep s) := by
  unfold irqStep
  split
  · split
    · exact noFault_deliverEvent _ _ _ _ _
    · exact noFault_next _
  · exact noFault_next _
  · exact noFault_next s

theorem noFault_boundary (s : State) : NoFault (boundary s) := by
  unfold boundary
  split
  · exact noFault_next _
  · refine noFault_andThen (noFault_trapStep s) fun t => ?_
    split
    · exact noFault_next t
    · exact noFault_irqStep t

theorem noFault_finish (s : State) : NoFault (finish s) := by
  unfold finish
  split
  · exact noFault_next s
  · exact noFault_boundary s

theorem noFault_sleepStep (s : State) : NoFault (sleepStep s) := by
  unfold sleepStep
  split
  · exact noFault_boundary _
  · exact noFault_next _

/-- Settles O9: what a delivery raises is never benign, so each delivery of a chain is of a class further down the table than
the one before, and the chain ends before its bound. -/
theorem stepNeverFaults : Obligations.StepNeverFaults := by
  intro s
  show NoFault (mainStep s)
  unfold mainStep
  dsimp only
  split
  · exact noFault_next _
  · split
    · exact noFault_next _
    · split
      · exact noFault_sleepStep _
      · exact noFault_andThen (noFault_runInstr _) noFault_finish

end Sys2Proof.Machine

end

section

namespace Sys2Proof.Machine

/-! ## The boundary's order, HardReboot and shutdown (spec/60_exceptions.md R413, R425 to R429) -/

theorem finish_stopped {s : State} (h : s.shutdown = true ∨ s.halted = true) : finish s = .next s :=
  if_pos (by simpa using h)

theorem finish_running {s : State} (hd : s.shutdown = false) (hh : s.halted = false) : finish s = boundary s :=
  if_neg (by simp [hd, hh])

theorem boundary_exempt {s : State} (h : s.inhibitNext = true) : boundary s = .next s.uninhibit := if_pos h

/-- A boundary that is not exempted: the trap, then the interrupt unless the trap shut the core down (R427). -/
theorem boundary_open {s : State} (h : s.inhibitNext = false) :
    boundary s = andThen (trapStep s) fun t => if t.shutdown then .next t else irqStep t :=
  if_neg (by simp [h])

theorem trapStep_clear {s : State} (h : s.flags.tf = false) : trapStep s = .next s := if_neg (by simp [h])

theorem trapStep_set {s : State} (h : s.flags.tf = true) :
    trapStep s = deliverEvent 1 .exception none s.eip s.stepDr6 := if_pos h

/-- With TF clear only the interrupt is left of the boundary. -/
theorem finish_irqStep {s : State} (hd : s.shutdown = false) (hh : s.halted = false) (hi : s.inhibitNext = false)
    (ht : s.flags.tf = false) : finish s = irqStep s := by
  rw [finish_running hd hh, boundary_open hi, trapStep_clear ht]
  exact if_neg (by simp [hd])

theorem irqStep_taken {s : State} {v : Byte} (hv : s.irqs.head? = some (some v)) (hi : s.flags.ifl = true) :
    irqStep s = deliverEvent v .external none s.eip (s.popIrq.log (.irqAck v)) := by
  rw [irqStep, hv]
  exact if_pos hi

/-- An IRQ that is not there, or not let in, uses up one answer of the PIC, where there is one (log 21). -/
theorem irqStep_passed {s : State} (h : s.irqs.head?.join = none ∨ s.flags.ifl = false) : irqStep s = .next s.popIrq := by
  unfold irqStep
  split
  · next v hv =>
    refine if_neg ?_
    obtain hn | hf := h
    · simp [hv] at hn
    · simp [hf]
  · rfl
  · next hn =>
    rw [State.popIrq, List.head?_eq_none_iff.mp hn]
    exact congrArg (fun l => Host.Outcome.next { s with irqs := l }) (List.head?_eq_none_iff.mp hn)

/-- Settles O16: the stops, the exemption, the trap and the interrupt, each where those before it do not apply. -/
theorem boundaryOrder : Obligations.BoundaryOrder :=
  ⟨fun _ h => finish_stopped h, fun _ hd hh hi => (finish_running hd hh).trans (boundary_exempt hi),
    fun _ _ hd hh hi ht hv hf => (finish_irqStep hd hh hi ht).trans (irqStep_taken hv hf),
    fun _ hd hh hi ht h => (finish_irqStep hd hh hi ht).trans (irqStep_passed h),
    fun s hd hh hi ht => ⟨(Config.draw s.draws).getLsbD 0, by
      rw [finish_running hd hh, boundary_open hi, trapStep_set ht]
      rfl⟩⟩

theorem step_hardReboot {s : State} (h : s.commands.head?.join = some .hardReboot) : step s = .next s.popCommand.reboot :=
  if_pos h

theorem step_inShutdown {s : State} (hr : s.noReboot) (hd : s.shutdown = true) : step s = .next s.popCommand :=
  (if_neg hr).trans (if_pos hd)

/-- Settles O14: a step looks at the command first and at the shutdown next. -/
theorem hardRebootAndShutdown : Obligations.HardRebootAndShutdown :=
  ⟨fun _ h => step_hardReboot (by rw [h]; rfl), fun _ hr hd => step_inShutdown hr hd⟩

end Sys2Proof.Machine

end

section

namespace Sys2Proof.Machine

/-! ## OF and the signed range (spec/40_alu_arith.md R200, R201) -/

/-- The integers a signed value of the width can be. -/
def InSignedRange (sz : Size) (x : Int) : Prop := -(2 ^ (sz.bits - 1)) ≤ x ∧ x < 2 ^ (sz.bits - 1)

theorem signed_eq_toInt (sz : Size) (v : Word) : signed sz v = (v.setWidth sz.bits).toInt := by
  cases sz with
  | b | w => rfl
  | d => exact congrArg BitVec.toInt (BitVec.setWidth_eq v).symm

theorem signed_eq_bmod (sz : Size) (v : Word) : signed sz v = (v.toNat : Int).bmod (2 ^ sz.bits) := by
  rw [signed_eq_toInt, BitVec.toInt_setWidth]

theorem inSignedRange_signed (sz : Size) (v : Word) : InSignedRange sz (signed sz v) := by
  rw [signed_eq_toInt]
  exact ⟨BitVec.le_toInt _, BitVec.toInt_lt⟩

theorem msb_eq_decide_signed (sz : Size) (v : Word) : msb sz v = decide (signed sz v < 0) := by
  rw [signed_eq_toInt, ← BitVec.msb_eq_toInt, BitVec.msb_setWidth, decide_eq_true (bits_pos sz), Bool.true_and, msb]

theorem msb_eq_msb_iff {sz : Size} {v w : Word} : msb sz v = msb sz w ↔ (signed sz v < 0 ↔ signed sz w < 0) := by
  rw [msb_eq_decide_signed, msb_eq_decide_signed, decide_eq_decide]

theorem signed_truncInt (sz : Size) (x : Int) : signed sz (truncInt sz x) = x.bmod (2 ^ sz.bits) := by
  rw [signed_eq_bmod, toNat_truncInt]
  exact_mod_cast Int.emod_bmod x (2 ^ sz.bits)

theorem signed_addResult (sz : Size) (a b : Word) (c : Bool) :
    signed sz (addResult sz a b c) = (signed sz a + signed sz b + c.toNat).bmod (2 ^ sz.bits) := by
  rw [addResult, ← truncInt_natCast, signed_truncInt, signed_eq_bmod sz a, signed_eq_bmod sz b, Nat.cast_add, Nat.cast_add]
  exact (Int.bmod_add_cancel_right _).mpr (Int.add_bmod _ _ _)

theorem signed_subResult (sz : Size) (a b : Word) (c : Bool) :
    signed sz (subResult sz a b c) = (signed sz a - signed sz b - c.toNat).bmod (2 ^ sz.bits) := by
  rw [subResult, signed_truncInt, signed_eq_bmod sz a, signed_eq_bmod sz b]
  exact (Int.bmod_sub_cancel_right _).mpr (Int.sub_bmod _ _ _)

theorem two_pow_bits (sz : Size) : ((2 ^ sz.bits : Nat) : Int) = 2 * 2 ^ (sz.bits - 1) := by
  cases sz <;> rfl

theorem bmod_of_inSignedRange {sz : Size} {x : Int} (h : InSignedRange sz x) : x.bmod (2 ^ sz.bits) = x := by
  obtain ⟨hlo, hhi⟩ := h
  have hm := two_pow_bits sz
  exact Int.bmod_eq_of_le (by omega) (by omega)

/-- Two addends of one sign and a wrapped sum of the other: exactly what a sum out of range looks like. -/
theorem sum_sign_flips_iff {sz : Size} {x y c : Int} (hx : InSignedRange sz x) (hy : InSignedRange sz y)
    (hc : 0 ≤ c ∧ c ≤ 1) :
    (x < 0 ↔ y < 0) ∧ ¬((x + y + c).bmod (2 ^ sz.bits) < 0 ↔ x < 0) ↔ ¬InSignedRange sz (x + y + c) := by
  unfold InSignedRange at *
  have hm := two_pow_bits sz
  rw [Int.bmod_neg_iff (by omega) (by omega)]
  omega

/-- The difference is the sum with the other operand and the borrow complemented, and the complement changes the sign. -/
theorem difference_sign_flips_iff {sz : Size} {x y c : Int} (hx : InSignedRange sz x) (hy : InSignedRange sz y)
    (hc : 0 ≤ c ∧ c ≤ 1) :
    ¬(x < 0 ↔ y < 0) ∧ ¬((x - y - c).bmod (2 ^ sz.bits) < 0 ↔ x < 0) ↔ ¬InSignedRange sz (x - y - c) := by
  have hy' : InSignedRange sz (-y - 1) := by
    unfold InSignedRange at *
    omega
  have hsum : x - y - c = x + (-y - 1) + (1 - c) := by omega
  have hsign : ¬(x < 0 ↔ y < 0) ↔ (x < 0 ↔ -y - 1 < 0) := by omega
  rw [hsum, hsign]
  exact sum_sign_flips_iff hx hy' (by omega)

theorem carry_bounds (c : Bool) : (0 : Int) ≤ c.toNat ∧ (c.toNat : Int) ≤ 1 :=
  ⟨Int.natCast_nonneg _, Int.ofNat_le.mpr c.toNat_le⟩

theorem Flags.of_add_eq_false_iff (f : Flags) (sz : Size) (a b : Word) (c : Bool) :
    (f.add sz a b c).of = false ↔ InSignedRange sz (signed sz a + signed sz b + c.toNat) := by
  rw [← Bool.not_eq_true, f.of_add_iff, ne_eq, msb_eq_msb_iff, msb_eq_msb_iff, signed_addResult,
    sum_sign_flips_iff (inSignedRange_signed sz a) (inSignedRange_signed sz b) (carry_bounds c), not_not]

theorem Flags.of_sub_eq_false_iff (f : Flags) (sz : Size) (a b : Word) (c : Bool) :
    (f.sub sz a b c).of = false ↔ InSignedRange sz (signed sz a - signed sz b - c.toNat) := by
  rw [← Bool.not_eq_true, f.of_sub_iff, ne_eq, ne_eq, msb_eq_msb_iff, msb_eq_msb_iff, signed_subResult,
    difference_sign_flips_iff (inSignedRange_signed sz a) (inSignedRange_signed sz b) (carry_bounds c), not_not]

/-- Settles O32: the result stands for the exact value wrapped into the signed range, and a wrap is what flips the sign. -/
theorem overflowIsSignedRange : Obligations.OverflowIsSignedRange := fun f sz a b c _ _ =>
  ⟨f.of_add_eq_false_iff sz a b c, fun h => (signed_addResult sz a b c).trans (bmod_of_inSignedRange h),
    f.of_sub_eq_false_iff sz a b c, fun h => (signed_subResult sz a b c).trans (bmod_of_inSignedRange h)⟩

end Sys2Proof.Machine

end

section

namespace Sys2Proof.Machine

/-! ## The state after a reset (spec/70_reset_and_hazards.md R460 to R465) -/

theorem reboot_resetWith (p : Params) : (State.resetWith p).reboot = State.resetWith p := rfl

theorem codeInv_resetWith (p : Params) : (State.resetWith p).CodeInv := .inr rfl

/-- Settles O11: a reset state is what a HardReboot of it leaves, and its CS is loaded as code. -/
theorem resetMeetsInvariants : Obligations.ResetMeetsInvariants := fun p =>
  ⟨reboot_resetWith p ▸ State.reboot_inv _, codeInv_resetWith p⟩

theorem Flags.image_reset : Flags.reset.image = 0x3202 := by decide

theorem Memory.read_nil (a : Nat) : Memory.read [] a = 0 := rfl

theorem SegReg.resetCode_eq_realOf (sel : Half) : SegReg.resetCode sel = SegReg.realOf .cs sel := rfl

theorem seg_resetWith (p : Params) {g : SReg} (h : g ≠ .cs) : (State.resetWith p).seg g = SegReg.realOf g 0 := by
  cases g with
  | cs => exact absurd rfl h
  | es | ss | ds | fs | gs => rfl

theorem regs_resetWith (p : Params) (r : Reg) : (State.resetWith p).regs.get r = 0 := by cases r <;> rfl

theorem getCr_resetWith (p : Params) (n : CReg) : (State.resetWith p).getCr n = 0 := by cases n <;> rfl

theorem pe_resetWith (p : Params) : (State.resetWith p).pe = false := BitVec.getLsbD_zero

theorem pg_resetWith (p : Params) : (State.resetWith p).pg = false := BitVec.getLsbD_zero

theorem cpl_resetWith (p : Params) : (State.resetWith p).cpl = 0 := if_neg (Bool.eq_false_iff.mp (pe_resetWith p))

theorem dr_resetWith (p : Params) (n : DReg) : (State.resetWith p).dr.get n = 0 := by cases n <;> rfl

/-- Settles O13: the families of registers one by one, the image of the flags computed, every other field as it is set. -/
theorem resetValues : Obligations.ResetValues := fun p =>
  ⟨regs_resetWith p, Flags.image_reset, rfl, rfl, rfl, rfl, SegReg.resetCode_eq_realOf _, rfl, fun _ h => seg_resetWith p h,
    pe_resetWith p, pg_resetWith p, cpl_resetWith p, getCr_resetWith p, dr_resetWith p, rfl, rfl, rfl, rfl, rfl, rfl, rfl, rfl,
    rfl, rfl, Memory.read_nil⟩

end Sys2Proof.Machine

end
